-- ==== Sys2Proof/Word.lean ====
section
/-!
DEFINITION. The word and byte types of the store and the links (00_scope: a word is 32 bits).
-/
namespace Sys2Proof

/-- A store word, a payload word, a line word: 32 bits. -/
abbrev Word := BitVec 32

/-- A byte of a store word or of a frame on a layout link. -/
abbrev Byte := BitVec 8

end Sys2Proof
end

