-- ==== Sys2Proof/Syntax.lean ====
section
/-!
DEFINITION. The commands of the block: one constructor for each row of spec/opcode_table.json.

The table gives its rows no operand and no bits. The operands below are what a step needs from outside
the part: which link, lane or page it is about, the bytes that arrive, the strap levels, the bits the
store devices return other than as written. A request (OPEN PAGE, PIXELS, ...) takes its fields from the
frame at the head of its link's receive buffer (R172, R173).
-/
namespace Sys2Proof

/-- The two layout links (R170). -/
inductive Link where
  | a
  | b
  deriving DecidableEq, Repr

/-- The four coding lanes L0 to L3. -/
inductive Lane where
  | l0
  | l1
  | l2
  | l3
  deriving DecidableEq, Repr

/-- Bits of one byte of a burst that the store devices hold other than they were written (R120: a wrong
bit stays until the byte is written again). -/
structure Upset where
  /-- the byte of the burst, 0..31: byte `4·w + j` is byte `j` of word `w` -/
  byte : Nat
  /-- the data bits that differ -/
  data : Byte
  /-- whether the parity bit differs -/
  parity : Bool
  deriving DecidableEq, Repr

/-- The steps of the part (spec/opcode_table.json), each whole and indivisible. -/
inductive Instr where
  /-- POWER_ON_RESET (R109): power-up or a RESET pulse, with the strap levels SZ1 and SZ0 (R192). -/
  | powerOnReset (sz1 sz0 : Bool)
  /-- SETTLE_TIMER_EXPIRY (R111). -/
  | settleTimerExpiry
  /-- START_SEQUENCE_COMPLETE (R111). -/
  | startSequenceComplete
  /-- REFRESH_DUE_POINT (R117): `steps` is how many steps of a running start-up or wake sequence were
  made before this due point. -/
  | refreshDuePoint (steps : Nat)
  /-- REFRESH_MADE (R118). -/
  | refreshMade
  /-- BURST_END (R116), with the bits of this burst that the devices hold other than as written. -/
  | burstEnd (upsets : List Upset)
  /-- FRAME_ARRIVAL (R171): the bytes of a whole frame: header, body, check. -/
  | frameArrival (x : Link) (bytes : List Byte)
  /-- WAKE_COMPLETE (R124). -/
  | wakeComplete
  /-- BAD_KIND_REQUEST (R173). -/
  | badKindRequest (x : Link)
  /-- OPEN_PAGE (R34). `met` is given where the request and the end of the burst in progress come in one event, so that
  the request and the report of a lane's take reach the admission block together and the request is taken first there
  (R77): the bits of that burst that the devices hold other than as written. -/
  | openPage (x : Link) (met : Option (List Upset) := none)
  /-- HEADER_INIT_COMPLETE (R36), of the page named. -/
  | headerInitComplete (page : Nat)
  /-- PIXELS (R49). -/
  | pixels (x : Link)
  /-- PIXELS_WRITE_END (R53). -/
  | pixelsWriteEnd (x : Link)
  /-- ENCODE_END (R89, R91). -/
  | encodeEnd (l : Lane)
  /-- BAND_RECORD_WRITE_END (R89). -/
  | bandRecordWriteEnd (l : Lane)
  /-- READ_BAND_DECODED (R83). -/
  | readBandDecoded (x : Link)
  /-- PROOF_RECORD_READ_END (R92). -/
  | proofRecordReadEnd (l : Lane)
  /-- PROOF_ROW_PLACE (R93). -/
  | proofRowPlace (l : Lane)
  /-- DAMAGED_MARK_WRITE_END (R160). -/
  | damagedMarkWriteEnd
  /-- RETIRE_PAGE (R40). -/
  | retirePage (x : Link)
  /-- RELEASE_RECORD_READ (R104), of the page named. -/
  | releaseRecordRead (page : Nat)
  /-- LIST_PAGE (R44). -/
  | listPage (x : Link)
  /-- LIST_PAGE_READ_END (R44): the earliest ended record read of a listing of the link. -/
  | listPageReadEnd (x : Link)
  /-- SET_PROFILE (R33). -/
  | setProfile (x : Link)
  /-- SET_RULE (R65). -/
  | setRule (x : Link)
  /-- SET_DEFAULT_CLASS (R69). -/
  | setDefaultClass (x : Link)
  /-- SET_WATERMARKS (R75). -/
  | setWatermarks (x : Link)
  /-- SET_LANE_TABLE (R81). -/
  | setLaneTable (x : Link)
  /-- SET_PRESS (R143). -/
  | setPress (x : Link)
  /-- SET_STORE (R136). -/
  | setStore (x : Link)
  /-- READ_STATUS (R183). -/
  | readStatus (x : Link)
  /-- CLEAR_STATUS (R184). -/
  | clearStatus (x : Link)
  /-- REST (R122). -/
  | rest (x : Link)
  /-- REST_TEST (R122): `first` is the link whose waiting frame is taken as the wake event if both
  receive buffers hold one when the rest is entered (R125: either may be). -/
  | restTest (first : Link)
  /-- HOLD (R176), taken from the receive buffer. -/
  | hold (x : Link)
  /-- RESUME (R176), taken from the receive buffer. -/
  | resume (x : Link)
  /-- HOLD_TIMER_EXPIRY (R176). -/
  | holdTimerExpiry (x : Link)
  /-- OUTBOUND_FRAME_SENT (R175). -/
  | outboundFrameSent (x : Link)
  /-- LINK_RESET (R182). -/
  | linkReset (x : Link)
  /-- READ_BAND_COMPRESSED (R178). -/
  | readBandCompressed (x : Link)
  /-- READ_BAND_RECORD_READ_END (R178): the earliest ended record read of a compressed READ BAND of the link. -/
  | readBandRecordReadEnd (x : Link)
  /-- STREAM_PLACE_CLAIM (R179). -/
  | streamPlaceClaim (x : Link)
  /-- COPY_RECORD_READ_END (R168). -/
  | copyRecordReadEnd (x : Link)
  /-- STREAM_FRAME_PLACED (R179). -/
  | streamFramePlaced (x : Link)
  /-- COPY_DONE (R180). -/
  | copyDone (x : Link)
  /-- PRINT (R140). -/
  | print (x : Link)
  /-- CANCEL_PRINT (R141). -/
  | cancelPrint (x : Link)
  /-- PRESS_RECORD_READ_END (R147). -/
  | pressRecordReadEnd
  /-- PRESS_LINE_FINISH (R148). -/
  | pressLineFinish
  /-- SHEET_START (R152). -/
  | sheetStart
  /-- LINE_REQUEST (R153). -/
  | lineRequest
  /-- PRESS_ANSWER_END (R151). -/
  | pressAnswerEnd
  /-- SHEET_ABORT (R156). -/
  | sheetAbort
  /-- PRESS_RESET (R157). -/
  | pressReset
  /-- LINK_RESET_SEQUENCE_END (R182). -/
  | linkResetSequenceEnd (x : Link)
  deriving DecidableEq, Repr

end Sys2Proof
end

