-- ==== Sys2Proof/Decode.lean ====
section
/-!
DEFINITION. The words of the command table. No row of spec/opcode_table.json gives any bits (every row
has an empty list of fields and no fixed pattern), so no word spells a command. The frames of the layout
links, which do have bytes, are read in Machine/Operands.lean.
-/
namespace Sys2Proof

/-- The command that a word of the table spells: none, since no row of the table gives bits. -/
def decodeTableWord (_nbits _w : Nat) : Option Instr := none

end Sys2Proof
end

