-- ==== Sys2Proof/Config.lean ====
section
/-!
DEFINITION. What the part fixes (sizes the rules give) and what the manual leaves open (free values).
-/
namespace Sys2Proof.Config

/-- FREE VALUE (log 5). The data byte the store devices hold at a byte address that nothing has written
since the power-on reset numbered by the first argument. R119: "Words never written since power-on hold
whatever the devices give". -/
opaque deviceByte : Nat → Nat → Byte

/-- FREE VALUE (log 5). The parity bit beside that byte. R119: "their parity bits may or may not match". -/
opaque deviceParity : Nat → Nat → Bool

/-- Words of an extent (00_scope section 4). -/
def extentWords : Nat := 16384

/-- Extents of the two intake windows, which are not pool extents (R97). -/
def windowExtents : Nat := 256

/-- Places of the receive buffer (R172). -/
def rxPlaces : Nat := 4

/-- Reply places of a link (R175). -/
def replyPlaces : Nat := 8

/-- General places of a link's outbound queue (R175). -/
def generalPlaces : Nat := 24

/-- Long requests a link may have outstanding (R173). -/
def longSlots : Nat := 4

/-- Page records of the directory (R24). -/
def directoryPlaces : Nat := 256

/-- Jobs a lane queue holds (R82). -/
def laneQueuePlaces : Nat := 8

/-- Entries of the print schedule (R139). -/
def schedulePlaces : Nat := 16

/-- Words of the press FIFO (R145). -/
def fifoWords : Nat := 65536

/-- The largest owed refresh count (R117). -/
def owedMax : Nat := 8

/-- The largest value of the saturating 16-bit counts (R25, R154, R170). -/
def countMax : Nat := 65535

/-- The settle time in µs (R111). -/
def settleMicros : Nat := 200

/-- The refresh interval, 7.8 µs, in tenths of a µs (R117). -/
def refreshTenths : Nat := 78

/-- Payload words of one stream DATA frame (R179). -/
def frameWords : Nat := 4000

/-- Sample containers of one proof DATA frame (R188). -/
def frameSamples : Nat := 8000

/-- Bytes of the longest frame body (R171). -/
def bodyMax : Nat := 16384

end Sys2Proof.Config
end

