-- ==== Sys2Proof/Machine/State.lean ====
section
/-!
DEFINITION. The state of the part as plain data: every item the spec's chapters give, block by block, the
queue of waiting commands, and what the part is after power-on reset. INVENTORY.md lists each item with
its rule. Two items that two tables name and that always agree have one home: the owed refresh count
(R109, R126) is `StoreCtl.owed`, press urgent (R126, R138) is `Arbiter.pressUrgent`.
-/
namespace Sys2Proof.Machine

/-! ## Small collections -/

/-- One thing for each link. -/
structure Pair (α : Type) where
  a : α
  b : α
  deriving DecidableEq, Repr

/-- One thing for each lane, or for each bank. -/
structure Four (α : Type) where
  f0 : α
  f1 : α
  f2 : α
  f3 : α
  deriving DecidableEq, Repr

/-- The two slots of an intake (R54). -/
inductive SlotId where
  | s0
  | s1
  deriving DecidableEq, Repr

/-- One thing for each slot of an intake. -/
structure Slots (α : Type) where
  s0 : α
  s1 : α
  deriving DecidableEq, Repr

/-! ## The store and its controller (R97, R109 to R125) -/

/-- The store sizes of the straps (R97, R192). -/
inductive StoreSize where
  | mib128
  | mib256
  | mib512
  deriving DecidableEq, Repr

/-- N, the number of extents in the store (R97). -/
def StoreSize.extents : StoreSize → Nat
  | .mib128 => 2048
  | .mib256 => 4096
  | .mib512 => 8192

/-- The pool size, N − 256 (R64, R97). -/
def StoreSize.pool (z : StoreSize) : Nat := z.extents - Config.windowExtents

/-- The store contents (R116, R119): data bytes and parity bits by byte address `4·word + byte`, each list in
rising order of address; an address not listed has not been written since power-on. -/
structure Memory where
  data : List Host.Cell
  parity : List (Nat × Bool)
  deriving DecidableEq, Repr

/-- Controller states (R110). -/
inductive CtlState where
  | settle
  | start
  | ready
  | refreshing
  | resting
  | waking
  deriving DecidableEq, Repr

/-- Bank states (R109, R114). -/
inductive Bank where
  | notTracked
  | idle
  | opened (row : Nat)
  deriving DecidableEq, Repr

/-- Wake causes (R109, R124). -/
inductive WakeCause where
  | frame (x : Link)
  | sheetStart
  | pressReset
  deriving DecidableEq, Repr

/-- The ten ring requesters (R127). -/
inductive Requester where
  | intake (x : Link)
  | lane (l : Lane)
  | press
  | table
  | stream (x : Link)
  deriving DecidableEq, Repr

/-- The clients of TABLE (R128). A DAMAGED mark is an operation of its own, outside the one operation a
client may have outstanding; `byPress` says that the press decoder placed it. -/
inductive Client where
  | headerInit (page : Nat)
  | listing (x : Link) (ticket : Nat)
  | release (page : Nat)
  | lane (l : Lane)
  | press
  | readBand (x : Link) (ticket : Nat)
  | copy (x : Link) (serial : Nat)
  | mark (page index : Nat) (byPress : Bool)
  deriving DecidableEq, Repr

/-- What a burst does (R116): a write of eight words with its byte mask (bit `i` for byte `i` of the burst),
or a read with the bytes taken and whether it is checked or no-check. -/
inductive Access where
  | write (data : List Word) (mask : BitVec 32)
  | read (taken : BitVec 32) (checked : Bool)
  deriving DecidableEq, Repr

/-- A band record operation of the TABLE queue (R128). -/
structure TableOp where
  client : Client
  addr : Nat
  access : Access
  deriving DecidableEq, Repr

/-- A burst (R109, R116). `live` turns false when the work that presented it ends before the burst does:
the words of a read are then not used (R116). `client` is the TABLE client it serves. -/
structure Burst where
  req : Requester
  addr : Nat
  access : Access
  client : Option Client
  live : Bool
  deriving DecidableEq, Repr

/-- A word a read returns, with its parity failure signal or mismatch mark (R120, R121). -/
structure ReadWord where
  word : Word
  bad : Bool
  deriving DecidableEq, Repr

/-- A TABLE operation whose burst has ended, with the words it returned; the client's end step takes it. -/
structure TableEnd where
  op : TableOp
  words : List ReadWord
  deriving DecidableEq, Repr

/-- Who sent a REST that waits at the store controller (R122). -/
structure RestReq where
  link : Link
  ticket : Nat
  deriving DecidableEq, Repr

/-- The store controller (R109). -/
structure StoreCtl where
  state : CtlState
  banks : Four Bank
  burst : Option Burst
  owed : Nat
  refreshTimer : Option Nat
  settleTimer : Option Nat
  startStep : Option Nat
  wakeCause : Option WakeCause
  wakeFrameHeld : Bool
  restWaiting : List RestReq
  deriving DecidableEq, Repr

/-- The current grant of the arbiter (R126). -/
inductive Grant where
  | free
  | run (r : Requester)
  | urgent (r : Requester)
  | refresh
  deriving DecidableEq, Repr

/-- The store arbiter (R126). `deferred` holds the operation that a lane or the press decoder has ready for its next
work while the granted operation of its ended work is still being made (R128). -/
structure Arbiter where
  grant : Grant
  count : Nat
  ring : Requester
  runLimit : Nat
  pressUrgent : Bool
  tableQueue : List TableOp
  deferred : List TableOp
  tableEnds : List TableEnd
  deriving DecidableEq, Repr

/-! ## Band records and the extent map (R30, R98, R99) -/

/-- Band record states (R30). -/
inductive RecState where
  | pending
  | stored
  | damaged
  deriving DecidableEq, Repr

/-- The two stored forms (R16). -/
inductive Mode where
  | coded
  | raw
  deriving DecidableEq, Repr

/-- A band record (R30). -/
structure BandRecord where
  state : RecState
  mode : Mode
  lane : Nat
  first : Nat
  words : Nat
  deriving DecidableEq, Repr

/-- The kind of an entry that is not FREE (R98). -/
inductive EntryKind where
  | next (extent : Nat)
  | last
  deriving DecidableEq, Repr

/-- The use of an extent (R98). -/
inductive ExtentUse where
  | header
  | payload (index : Nat) (first : Bool)
  deriving DecidableEq, Repr

/-- A link table entry that is not FREE (R98). -/
structure Entry where
  kind : EntryKind
  owner : Nat
  use : ExtentUse
  deriving DecidableEq, Repr

/-- The extent map: the entries that are not FREE in rising order of extent, and the free pool from head to
tail (R98, R99). -/
structure ExtentMap where
  table : List (Nat × Entry)
  pool : List Nat
  deriving DecidableEq, Repr

/-! ## Admission (R64, R65) -/

/-- The property a rule tests (R65). -/
inductive RuleField where
  | pageId
  | width
  | height
  | components
  | profile
  | jobTag
  | origin
  deriving DecidableEq, Repr

/-- The comparison of a rule (R65). -/
inductive RuleOp where
  | eq
  | ne
  | gt
  | lt
  deriving DecidableEq, Repr

/-- The action of a rule: REFUSE or a class 1..4 (R65). -/
inductive RuleAction where
  | refuse
  | cls (n : Nat)
  deriving DecidableEq, Repr

/-- A rule record (R65). -/
structure Rule where
  enabled : Bool
  field : RuleField
  op : RuleOp
  value : BitVec 16
  mask : BitVec 16
  andNext : Bool
  action : RuleAction
  copyTarget : Option Link
  deriving DecidableEq, Repr

/-- Admission modes (R64). -/
inductive AdmMode where
  | normal
  | low
  | closed
  deriving DecidableEq, Repr

/-- The admission block (R64). -/
structure Admission where
  rules : Vector Rule 8
  defaultClass : Nat
  lw : Nat
  hw : Nat
  k : Nat
  mode : AdmMode
  admits : Nat
  freeCount : Nat
  deriving DecidableEq, Repr

/-! ## The album directory (R24, R25, R32) -/

/-- Predictors (R1). -/
inductive Predictor where
  | left
  | above
  | edge
  deriving DecidableEq, Repr

/-- A profile with its use count (R32). -/
structure Profile where
  predictor : Predictor
  e : Nat
  hb : Nat
  d : Nat
  uses : Nat
  deriving DecidableEq, Repr

/-- Page states (R26), in the order their encoding counts them (R185). -/
inductive PageState where
  | opening
  | filling
  | coding
  | sealed
  | failed
  | retiring
  deriving DecidableEq, Repr

/-- Failure causes (R25). -/
inductive FailCause where
  | storeFull
  | storeParity
  | intakeAborted
  | linkReset
  deriving DecidableEq, Repr

/-- Container orders (R48). -/
inductive ContainerOrder where
  | highFirst
  | lowFirst
  deriving DecidableEq, Repr

/-- A page record (R25). -/
structure Page where
  id : Nat
  state : PageState
  cause : Option FailCause
  origin : Link
  profile : Nat
  w : Nat
  ht : Nat
  c : Nat
  order : ContainerOrder
  cls : Nat
  copyTarget : Option Link
  jobTag : Nat
  b : Nat
  nextPixel : Option Nat
  stored : Nat
  damaged : Bool
  damageEvents : Nat
  clamped : Nat
  printRefs : Nat
  streamRefs : Nat
  work : Nat
  header : Nat
  deriving DecidableEq, Repr

/-- A header initialisation in progress (R36): the OPEN PAGE it answers and the records written so far. -/
structure HeaderInit where
  page : Nat
  link : Link
  ticket : Nat
  written : Nat
  total : Nat
  header : Nat
  deriving DecidableEq, Repr

/-- A retirement (R40 to R42): the RETIRE PAGE it answers, whether the release has begun, the next record. -/
structure Release where
  page : Nat
  link : Link
  ticket : Nat
  running : Bool
  next : Nat
  deriving DecidableEq, Repr

/-- A record listing of LIST PAGE (R189): whether it was read without a parity failure, and the two words. -/
structure RecordListing where
  ok : Bool
  word0 : Word
  word1 : Word
  deriving DecidableEq, Repr

/-- LIST PAGE reads in progress (R44). -/
structure Listing where
  link : Link
  ticket : Nat
  page : Nat
  next : Nat
  stop : Nat
  got : List RecordListing
  deriving DecidableEq, Repr

/-- The album directory (R24, R32). -/
structure Directory where
  pages : List Page
  profiles : Vector Profile 8
  inits : List HeaderInit
  releases : List Release
  listings : List Listing
  deriving DecidableEq, Repr

/-! ## Intake (R46, R54) -/

/-- Slot states (R54). -/
inductive SlotState where
  | empty
  | filling
  | waiting
  deriving DecidableEq, Repr

/-- A slot record (R54). -/
structure Slot where
  state : SlotState
  page : Option Nat
  band : Option Nat
  rows : Nat
  jobs : Nat
  deriving DecidableEq, Repr

/-- One burst of an intake's writes (R51). -/
structure SlotWrite where
  addr : Nat
  data : List Word
  mask : BitVec 32
  deriving DecidableEq, Repr

/-- The PIXELS frame being written (R46): its clamped containers (R52), the writes not yet made (R51), and
whether its page has ceased to be the intake page, which voids its effects (R53). -/
structure FrameWriting where
  page : Nat
  offset : Nat
  count : Nat
  clamped : Nat
  void : Bool
  writes : List SlotWrite
  deriving DecidableEq, Repr

/-- A PIXELS frame that waits at the intake with its reply place (R48). -/
structure WaitingPixels where
  tag : Byte
  body : List Byte
  deriving DecidableEq, Repr

/-- An intake (R46). -/
structure Intake where
  page : Option Nat
  fill : SlotId
  hold : Bool
  frame : Option FrameWriting
  waiting : List WaitingPixels
  slots : Slots Slot
  deriving DecidableEq, Repr

/-! ## The coding context (R3) -/

/-- The form of a coding context (R3): the encoder's CODING and ABANDONED, the decoder's CODED and RAW. -/
inductive Form where
  | coding
  | abandoned
  | coded
  | raw
  deriving DecidableEq, Repr

/-- A coding context (R3). The column of the next sample is the length of `cur`; the step, MAXVAL and MID
follow from `e` and `d` (R1). -/
structure Context where
  predictor : Predictor
  e : Nat
  d : Nat
  w : Nat
  hr : Nat
  row : Nat
  a : Nat
  n : Nat
  prev : Option (List Nat)
  cur : List Nat
  bits : Nat
  form : Form
  deriving DecidableEq, Repr

/-- A decoding of one band-component (R17): its context, the payload words of the record, the words read so
far, the extent of the next word (none: the chain did not open, or has ended), and the bits read and not
yet taken by the decoder (`none` for a bit of a word signalled a parity failure). -/
structure Decoder where
  ctx : Context
  words : Nat
  fetched : Nat
  ext : Option Nat
  buf : List (Option Bool)
  deriving DecidableEq, Repr

/-! ## Frames the part sends (R174, R185 to R190) -/

/-- Refusal codes, in the order R174 lists them. -/
inductive Refuse where
  | noPage
  | pageExists
  | directoryFull
  | badGeometry
  | badProfile
  | profileInUse
  | ruleRefused
  | storeLow
  | intakeBusy
  | outOfOrder
  | held
  | pageState
  | pageInUse
  | pageRetiring
  | scheduleFull
  | printing
  | notCoded
  | damaged
  | lanesBusy
  | notIdle
  | starting
  | busy
  | badRequest
  deriving DecidableEq, Repr

/-- Damage details (R185). -/
inductive Detail where
  | parity
  | stream
  | record
  deriving DecidableEq, Repr

/-- Component orders (R143). -/
inductive ComponentOrder where
  | sequential
  | interleaved
  deriving DecidableEq, Repr

/-- Press settings (R143). -/
structure PressSettings where
  order : ComponentOrder
  p : Nat
  u : Nat
  deriving DecidableEq, Repr

/-- Press states (R149). -/
inductive PressState where
  | idle
  | preroll
  | ready
  | sheet
  deriving DecidableEq, Repr

/-- Part states (R112). -/
inductive PartState where
  | starting
  | ready
  | resting
  | waking
  deriving DecidableEq, Repr

/-- Lane states as the status record shows them (R86). -/
inductive LaneShown where
  | idle
  | encoding
  | decoding
  deriving DecidableEq, Repr

/-- The sticky flags of a link (R170). -/
structure LinkFlags where
  overrun : Bool
  frameCheck : Bool
  clamped : Bool
  storeParity : Bool
  underrun : Bool
  deriving DecidableEq, Repr

/-- The page listing of LIST PAGE (R44, R189): every field of R25 but the header extent and the work in flight. -/
structure PageListing where
  id : Nat
  state : PageState
  cause : Option FailCause
  origin : Link
  profile : Nat
  w : Nat
  ht : Nat
  c : Nat
  order : ContainerOrder
  cls : Nat
  copyTarget : Option Link
  jobTag : Nat
  b : Nat
  nextPixel : Option Nat
  stored : Nat
  damaged : Bool
  damageEvents : Nat
  clamped : Nat
  printRefs : Nat
  streamRefs : Nat
  deriving DecidableEq, Repr

/-- The status record (R183, R190). -/
structure StatusRecord where
  part : PartState
  size : StoreSize
  freeCount : Nat
  mode : AdmMode
  admits : Nat
  directory : Nat
  lanes : Four (LaneShown × Nat)
  press : PressState
  schedule : Nat
  fifoLines : Nat
  underruns : Nat
  hold : Bool
  long : Nat
  streams : Nat
  flags : LinkFlags
  framesDiscarded : Nat
  noticesDiscarded : Nat
  nextPixel : Option Nat
  deriving DecidableEq, Repr

/-- The details of a DONE reply (R187). -/
inductive Details where
  | none
  | opened (page b cls : Nat) (target : Option Link)
  | printed (page copies : Nat)
  | proofDone (page band comp : Nat) (mode : Mode) (words hr : Nat)
  | bandDone (page band comp : Nat) (mode : Mode) (words hr : Nat) (state : RecState) (mismatches : Nat)
  | listed (page : PageListing) (records : List RecordListing)
  | status (rec : StatusRecord)
  | laneTable (bits : Nat)
  | runLimit (m : Nat)
  | watermarks (lw hw k : Nat) (mode : AdmMode)
  | press (settings : PressSettings)
  deriving DecidableEq, Repr

/-- The outcome a reply carries (R174): DONE, REFUSED with a code, or REFUSED DAMAGED with detail and index. -/
inductive ReplyResult where
  | done (d : Details)
  | refused (c : Refuse)
  | damaged (d : Detail) (index : Nat)
  deriving DecidableEq, Repr

/-- Notices (R175, R187). `hold` and `resume` are the intake's. -/
inductive Notice where
  | pageSealed (page : Nat)
  | pageFailed (page : Nat) (cause : FailCause)
  | printDone (page : Nat)
  | printDropped (page : Nat)
  | bandDamaged (page band comp copy : Nat) (detail : Detail) (row : Nat)
  | storeLow (free : Nat)
  | storeOpen (free : Nat)
  | copyDone (page marked : Nat)
  | hold
  | resume
  deriving DecidableEq, Repr

/-- A frame the part sends: a reply, a notice, or one of the two DATA frames of R188. `state` is the record's state as
read, which a copy frame carries by R168 and for which R188 gives no byte (log 48). -/
inductive OutFrame where
  | reply (kind : Nat) (tag : Byte) (result : ReplyResult)
  | notice (n : Notice)
  | proofRow (tag : Byte) (page band comp row col : Nat) (order : ContainerOrder) (samples : List Nat)
  | payload (copy : Bool) (tag : Byte) (page band comp : Nat) (mode : Mode) (mark : Option Detail)
      (words first : Nat) (data : List Word) (index : Nat) (state : Option RecState)
  deriving DecidableEq, Repr

/-! ## Lanes (R78, R79, R86) -/

/-- Where a job's input comes from, or where its rows and reply go (R78). -/
inductive JobSource where
  | slot (x : Link) (t : SlotId)
  | request (x : Link) (ticket : Nat) (tag : Byte)
  deriving DecidableEq, Repr

/-- A job record (R78): an ENCODE job has a slot for its source, a PROOF job a request. -/
structure Job where
  page : Nat
  band : Nat
  comp : Nat
  cls : Nat
  source : JobSource
  lane : Lane
  arrival : Nat
  deriving DecidableEq, Repr

/-- The phases within ENCODING (R86). -/
inductive EncodePhase where
  | coding
  | rewriting
  | recording
  deriving DecidableEq, Repr

/-- A running ENCODE job (R87, R88): the samples still to code or to rewrite, the bits not yet written, the
payload words written, and the output chain. The context is held until the job ends (R3, log 51). -/
structure EncodeRun where
  phase : EncodePhase
  ctx : Context
  left : Nat
  out : List Bool
  words : Nat
  first : Option Nat
  last : Option Nat
  taken : Nat
  deriving DecidableEq, Repr

/-- A running PROOF job (R86, R92, R93): RECORD READ, or ROWS with the record as read, the decoding, and the
DATA frames of a decoded row that wait for outbound room. -/
inductive ProofRun where
  | recordRead
  | rows (record : BandRecord) (dec : Decoder) (toPlace : List OutFrame)
  deriving DecidableEq, Repr

/-- Lane state and current job (R79). -/
inductive LaneState where
  | idle
  | encoding (job : Job) (run : EncodeRun)
  | decoding (job : Job) (run : ProofRun)
  deriving DecidableEq, Repr

/-- The dispatcher and the lanes (R79). -/
structure Dispatcher where
  tableBits : Nat
  table : Vector Lane 32
  nextArrival : Nat
  queues : Four (List Job)
  pendings : Pair (Slots (List Job))
  lanes : Four LaneState
  deriving DecidableEq, Repr

/-! ## The press feed (R138) -/

/-- A sheet: its schedule entry (by the model's serial) and its copy number (R139, R145). -/
structure SheetId where
  serial : Nat
  copy : Nat
  deriving DecidableEq, Repr

/-- A schedule entry (R139). -/
structure PrintEntry where
  serial : Nat
  page : Nat
  copies : Nat
  link : Link
  active : Bool
  deriving DecidableEq, Repr

/-- A line of the press FIFO (R145). -/
structure FifoLine where
  sheet : SheetId
  row : Nat
  words : List Word
  deriving DecidableEq, Repr

/-- Decoder states (R146). -/
inductive DecState where
  | stopped
  | decoding
  | waitRoom
  | waitSeal
  deriving DecidableEq, Repr

/-- The press decoder's position (R138): the sheet, with the page and the requesting link of its entry, and
the band and band-relative row it works on. -/
structure DecPos where
  sheet : SheetId
  page : Nat
  link : Link
  band : Nat
  row : Nat
  deriving DecidableEq, Repr

/-- One band-component of the band the press decoder works on (R147): its record as read with its decoding, the row
it holds once it has failed (R162), or its decoding complete. The coding context goes with the decoding (R3). -/
inductive PressComp where
  | decoding (record : BandRecord) (dec : Decoder)
  | held (row : List Nat)
  | complete
  deriving DecidableEq, Repr

/-- The settings a sheet latched when its decoding began (R143). -/
structure Latch where
  sheet : SheetId
  settings : PressSettings
  deriving DecidableEq, Repr

/-- Answers of the press port (R151, R191). -/
inductive Answer where
  | line (words : List Word)
  | sheetInfo (page w ht c copy : Nat) (order : ComponentOrder)
  | sheetDone (page copy : Nat)
  | notReady
  deriving DecidableEq, Repr

/-- Press signals that wait for the answer being sent (R151). -/
inductive PressSignal where
  | sheetStart
  | lineRequest
  | sheetAbort
  deriving DecidableEq, Repr

/-- The press feed (R138). `row` is the row in progress, the rows of its components decoded so far: with all C of them its
line's finish is due (R148). `counted` is the entry, as it stood before, whose sheet the line being sent has ended; PRESS
RESET needs it when it cuts that line (R157, log 19). -/
structure PressFeed where
  schedule : List PrintEntry
  nextSerial : Nat
  state : PressState
  settings : PressSettings
  fifo : List FifoLine
  decState : DecState
  pos : Option DecPos
  comps : List PressComp
  row : Option (List (List Nat))
  skip : Nat
  delivered : Nat
  last : Option (List Word)
  underruns : Nat
  latches : List Latch
  owedRef : Option Nat
  counted : Option PrintEntry
  answers : List Answer
  signals : List PressSignal
  deriving DecidableEq, Repr

/-! ## Link controllers (R170) -/

/-- A frame in the receive buffer (R171, R185): kind, tag, body. -/
structure Frame where
  kind : Byte
  tag : Byte
  body : List Byte
  deriving DecidableEq, Repr

/-- A long request outstanding (R170): its kind, its tag, and the model's ticket for it. -/
structure LongReq where
  ticket : Nat
  kind : Nat
  tag : Byte
  deriving DecidableEq, Repr

/-- The kinds of stream (R179): a copy stream, or the read-back of a compressed READ BAND. -/
inductive StreamKind where
  | copy
  | readBack (ticket : Nat) (tag : Byte) (check : Bool)
  deriving DecidableEq, Repr

/-- A stream (R179): the page, its component count, the record index it sends (a copy stream goes on to
`total`), the record as read, the next payload word to send, the extent that word lies in, the
band-components sent marked and the words returned with a mismatch mark. -/
structure Stream where
  serial : Nat
  kind : StreamKind
  page : Nat
  c : Nat
  index : Nat
  total : Nat
  record : Option BandRecord
  next : Nat
  ext : Option Nat
  marked : Nat
  mismatches : Nat
  deriving DecidableEq, Repr

/-- The DATA frame the stream engine fills in its claimed place (R179): its stream and the words read. -/
structure Filling where
  serial : Nat
  words : List Word
  deriving DecidableEq, Repr

/-- Who waits for a general place of a link (R175). -/
inductive Waiter where
  | lane (l : Lane)
  | engine
  deriving DecidableEq, Repr

/-- The band record read of a compressed READ BAND in progress (R178). `gone` says that its page has been removed
since, whatever page bears the id now. -/
structure RecordRead where
  ticket : Nat
  tag : Byte
  page : Nat
  band : Nat
  comp : Nat
  check : Bool
  gone : Bool
  deriving DecidableEq, Repr

/-- A link controller (R170). -/
structure LinkCtl where
  rx : List Frame
  out : List OutFrame
  sending : Option OutFrame
  replyUse : Nat
  long : List LongReq
  hold : Bool
  holdTimer : Option Nat
  streams : List Stream
  turn : Option Nat
  flags : LinkFlags
  framesDiscarded : Nat
  noticesDiscarded : Nat
  filling : Option Filling
  waiters : List Waiter
  recordReads : List RecordRead
  resetting : Bool
  deriving DecidableEq, Repr

/-! ## The part -/

/-- The state of the part, and the commands that wait. -/
structure State where
  pending : List Instr
  powerOns : Nat
  nextTicket : Nat
  size : StoreSize
  store : Memory
  ctl : StoreCtl
  arb : Arbiter
  map : ExtentMap
  adm : Admission
  dir : Directory
  intakes : Pair Intake
  disp : Dispatcher
  press : PressFeed
  links : Pair LinkCtl
  deriving DecidableEq, Repr

/-- Why a step stops with a fault. -/
inductive Fault where
  /-- Raised by BURST_END for a burst addressed outside the store. R113: "No burst is addressed outside the
  store." Safe: the model stops where the spec gives no behaviour, and no reachable state presents one. -/
  | outsideStore (addr : Nat)
  deriving DecidableEq, Repr

/-- Why a command has no meaning here. -/
inductive Refusal where
  /-- Raised by the dispatch of a command that has no meaning yet. Safe. -/
  | notModelled (mnemonic : String)
  deriving DecidableEq, Repr

/-! ## The state after power-on reset -/

/-- The rule record after power-on reset (R64). -/
def Rule.initial : Rule :=
  ⟨false, .pageId, .eq, 0, 0, false, .cls 3, none⟩

/-- The profile after power-on reset (R32). -/
def Profile.initial : Profile := ⟨.edge, 0, 16, 8, 0⟩

/-- The EMPTY slot (R54). -/
def Slot.initial : Slot := ⟨.empty, none, none, 0, 0⟩

/-- An intake after power-on reset (R46). -/
def Intake.initial : Intake :=
  ⟨none, .s0, false, none, [], ⟨Slot.initial, Slot.initial⟩⟩

/-- All flags clear (R170). -/
def LinkFlags.clear : LinkFlags := ⟨false, false, false, false, false⟩

/-- A link controller after power-on reset (R170). -/
def LinkCtl.initial : LinkCtl where
  rx := []
  out := []
  sending := none
  replyUse := 0
  long := []
  hold := false
  holdTimer := none
  streams := []
  turn := none
  flags := LinkFlags.clear
  framesDiscarded := 0
  noticesDiscarded := 0
  filling := none
  waiters := []
  recordReads := []
  resetting := false

/-- The store controller after power-on reset (R109). -/
def StoreCtl.initial : StoreCtl where
  state := .settle
  banks := ⟨.notTracked, .notTracked, .notTracked, .notTracked⟩
  burst := none
  owed := 0
  refreshTimer := none
  settleTimer := some Config.settleMicros
  startStep := none
  wakeCause := none
  wakeFrameHeld := false
  restWaiting := []

/-- The arbiter after power-on reset (R126). -/
def Arbiter.initial : Arbiter where
  grant := .free
  count := 0
  ring := .stream .b
  runLimit := 8
  pressUrgent := false
  tableQueue := []
  deferred := []
  tableEnds := []

/-- The lane of entry `i` of the indirection table after power-on reset: `i` modulo 4 (R79). -/
def Lane.ofNat (i : Nat) : Lane :=
  match i % 4 with
  | 0 => .l0
  | 1 => .l1
  | 2 => .l2
  | _ => .l3

/-- The dispatcher and the lanes after power-on reset (R79). -/
def Dispatcher.initial : Dispatcher where
  tableBits := 2
  table := Vector.ofFn (fun i => Lane.ofNat i.val)
  nextArrival := 0
  queues := ⟨[], [], [], []⟩
  pendings := ⟨⟨[], []⟩, ⟨[], []⟩⟩
  lanes := ⟨.idle, .idle, .idle, .idle⟩

/-- The press feed after power-on reset (R138). -/
def PressFeed.initial : PressFeed where
  schedule := []
  nextSerial := 0
  state := .idle
  settings := ⟨.sequential, 8, 2⟩
  fifo := []
  decState := .stopped
  pos := none
  comps := []
  row := none
  skip := 0
  delivered := 0
  last := none
  underruns := 0
  latches := []
  owedRef := none
  counted := none
  answers := []
  signals := []

/-- The admission block after power-on reset (R64). -/
def Admission.initial (z : StoreSize) : Admission where
  rules := Vector.replicate 8 Rule.initial
  defaultClass := 3
  lw := 64
  hw := 128
  k := 0
  mode := .normal
  admits := 0
  freeCount := z.pool

/-- The album directory after power-on reset (R24, R32). -/
def Directory.initial : Directory where
  pages := []
  profiles := Vector.replicate 8 Profile.initial
  inits := []
  releases := []
  listings := []

/-- The extent map after power-on reset (R98, R99): every entry FREE, the pool in ascending order. -/
def ExtentMap.initial (z : StoreSize) : ExtentMap where
  table := []
  pool := List.range' Config.windowExtents z.pool

/-- The part right after power-on reset number `n` with the store size latched from the straps (R109). -/
def State.powerOn (n : Nat) (z : StoreSize) : State where
  pending := []
  powerOns := n
  nextTicket := 0
  size := z
  store := ⟨[], []⟩
  ctl := StoreCtl.initial
  arb := Arbiter.initial
  map := ExtentMap.initial z
  adm := Admission.initial z
  dir := Directory.initial
  intakes := ⟨Intake.initial, Intake.initial⟩
  disp := Dispatcher.initial
  press := PressFeed.initial
  links := ⟨LinkCtl.initial, LinkCtl.initial⟩

/-- The part right after reset: power-on reset with the straps at 0, 0 (DESIGN CHOICE, log 3: the strap levels
are an input, and R192 takes 0, 0 as 128 MiB), and the model's own counters at 0 (DESIGN CHOICE, logs 5 and 6). -/
def State.reset : State := State.powerOn 0 .mib128

end Sys2Proof.Machine
end

