-- ==== Sys2Proof/Machine/Codec.lean ====
section
/-!
DEFINITION. The band codec (R1 to R23): prediction, quantisation, Rice codes, packing, the raw form, and one
sample of encoding and of decoding. The engines that run it are in Lanes.lean and Press.lean.
-/
namespace Sys2Proof.Machine

/-! ## Parameters and geometry (R1, R2) -/

/-- MAXVAL of depth `d` (R1). -/
def maxVal (d : Nat) : Nat := 2 ^ d - 1

/-- MID of depth `d` (R1). -/
def midVal (d : Nat) : Nat := 2 ^ (d - 1)

/-- The step of the error bound `e` (R1). -/
def stepOf (e : Nat) : Nat := 2 * e + 1

/-- The initial accumulated magnitude of depth `d` (R9): MAXVAL + 32 divided by 64, rounded down. -/
def initialA (d : Nat) : Nat := (maxVal d + 32) / 64

/-- A quotient rounded up. -/
def ceilDiv (a b : Nat) : Nat := (a + b - 1) / b

/-- Bands of a page (R2): Ht divided by Hb, rounded up. -/
def bandsOf (ht hb : Nat) : Nat := ceilDiv ht hb

/-- Row count Hr of band `i` (R2). -/
def bandRows (ht hb i : Nat) : Nat := min hb (ht - i * hb)

/-- A new coding context (R3). -/
def Context.fresh (p : Profile) (w hr : Nat) (form : Form) : Context where
  predictor := p.predictor
  e := p.e
  d := p.d
  w := w
  hr := hr
  row := 0
  a := initialA p.d
  n := 1
  prev := none
  cur := []
  bits := 0
  form := form

/-! ## Prediction (R4, R5) -/

/-- The neighbours a, b and cc of the next sample (R4). -/
def Context.neighbours (c : Context) : Nat × Nat × Nat :=
  let col := c.cur.length
  let left := c.cur.getD (col - 1) 0
  match c.prev, c.cur with
  | none, [] => (midVal c.d, midVal c.d, midVal c.d)
  | none, _ :: _ => (left, left, left)
  | some up, [] => (up.getD 0 0, up.getD 0 0, up.getD 0 0)
  | some up, _ :: _ => (left, up.getD col 0, up.getD (col - 1) 0)

/-- The prediction p (R5). In the last case of EDGE, cc lies between a and b, so a + b is at least cc. -/
def predict (k : Predictor) (a b cc : Nat) : Nat :=
  match k with
  | .left => a
  | .above => b
  | .edge =>
    if max a b ≤ cc then min a b
    else if cc ≤ min a b then max a b
    else a + b - cc

/-- The prediction of the next sample. -/
def Context.prediction (c : Context) : Nat :=
  match c.neighbours with
  | (a, b, cc) => predict c.predictor a b cc

/-! ## Quantisation and mapping (R6, R7, R8) -/

/-- The quantised residual (R6). -/
def quantise (e : Nat) (r : Int) : Int :=
  if 0 ≤ r then (r + e) / (stepOf e) else -((-r + e) / (stepOf e))

/-- The reconstruction (R7): p + q·s clamped into 0..MAXVAL. -/
def reconstruct (d e p : Nat) (q : Int) : Nat :=
  let y : Int := p + q * stepOf e
  if y < 0 then 0 else min y.toNat (maxVal d)

/-- The mapped value m of q (R8). -/
def mapValue (q : Int) : Nat :=
  if 0 ≤ q then (2 * q).toNat else (-(2 * q) - 1).toNat

/-- The inverse mapping (R8). -/
def unmapValue (m : Nat) : Int :=
  if m % 2 = 0 then ((m / 2 : Nat) : Int) else -(((m + 1) / 2 : Nat) : Int)

/-! ## Rice adaptation (R9, R10) -/

/-- The Rice parameter (R9): the smallest k with N·2^k at least A, and d where that k would be above d. -/
def riceParam (a n d : Nat) : Nat :=
  ((List.range (d + 1)).find? (fun k => decide (a ≤ n * 2 ^ k))).getD d

/-- The Rice state after a sample quantised to q (R10). -/
def riceUpdate (a n : Nat) (q : Int) : Nat × Nat :=
  if n + 1 = 64 then ((a + q.natAbs) / 2, 32) else (a + q.natAbs, n + 1)

/-- The context after a sample with reconstruction `y`: the row is finished at its last column (R3). -/
def Context.push (c : Context) (y : Nat) : Context :=
  if c.cur.length + 1 = c.w then
    { c with row := c.row + 1, prev := some (c.cur ++ [y]), cur := [] }
  else { c with cur := c.cur ++ [y] }

/-- The context after a sample with quantised value `q` and reconstruction `y` (R10, R21). -/
def Context.pushCoded (c : Context) (q : Int) (y : Nat) : Context :=
  { c.push y with a := (riceUpdate c.a c.n q).1, n := (riceUpdate c.a c.n q).2 }

/-! ## Codes (R11, R12) and packing (R13, R14) -/

/-- `v` in `k` bits, most significant first. -/
def natBits (k v : Nat) : List Bool := (List.range k).reverse.map (fun i => v.testBit i)

/-- The number whose bits these are, most significant first. -/
def bitsNat (bs : List Bool) : Nat := bs.foldl (fun n b => 2 * n + b.toNat) 0

/-- The code of the mapped value `m` with parameter `k` at depth `d` (R11, R12). -/
def codeOf (d k m : Nat) : List Bool :=
  if m / 2 ^ k < 24 then List.replicate (m / 2 ^ k) false ++ true :: natBits k m
  else List.replicate 24 false ++ true :: natBits (d + 1) m

/-- The bits of a word, bit 31 first (R13). -/
def wordBits (w : Word) : List Bool := natBits 32 w.toNat

/-- The word of up to 32 bits, bit 31 first, the rest zero (R13). -/
def bitsWord (bs : List Bool) : Word :=
  BitVec.ofNat 32 (bitsNat ((bs ++ List.replicate 32 false).take 32))

/-- `n` words from the bits in packing order, zero bits after the last (R13, R88). -/
def packBits : Nat → List Bool → List Word
  | 0, _ => []
  | n + 1, bs => bitsWord (bs.take 32) :: packBits n (bs.drop 32)

/-- The raw size of a band-component in bits (R14). -/
def rawBits (hr w d : Nat) : Nat := hr * w * d

/-- The payload words of `bits` bits (R13, R14). -/
def wordsOf (bits : Nat) : Nat := ceilDiv bits 32

/-! ## Encoding a sample (R6 to R15) -/

/-- One sample of the coded attempt: the code is appended and the context goes on, or the total exceeds the
raw size and the encoder abandons coding (R15). -/
def Context.encode (c : Context) (x : Nat) : Option (Context × List Bool) :=
  let p := c.prediction
  let q := quantise c.e ((x : Int) - p)
  let code := codeOf c.d (riceParam c.a c.n c.d) (mapValue q)
  let total := c.bits + code.length
  if rawBits c.hr c.w c.d < total then none
  else some ({ c.pushCoded q (reconstruct c.d c.e p q) with bits := total }, code)

/-- Samples of the coded attempt in order: the context and the bits, or abandonment. -/
def Context.encodeAll : Context → List Nat → Option (Context × List Bool)
  | c, [] => some (c, [])
  | c, x :: xs =>
    match c.encode x with
    | none => none
    | some (c1, bs) =>
      match c1.encodeAll xs with
      | none => none
      | some (c2, bs2) => some (c2, bs ++ bs2)

/-- The context as the samples before the first one that fails the test of R15 leave it: nothing of the failing
sample is entered. -/
def Context.codedPrefix : Context → List Nat → Context
  | c, [] => c
  | c, x :: xs =>
    match c.encode x with
    | none => c
    | some (c1, _) => c1.codedPrefix xs

/-- The context of an encoder that has abandoned coding (R15): its form changes, its Rice state is updated no
more (R10). -/
def Context.abandon (c : Context) : Context := { c with form := .abandoned }

/-- The result of an encoding that has run to its end: mode and payload words (R16). -/
def Context.result (c : Context) : Mode × Nat :=
  match c.form with
  | .abandoned => (.raw, wordsOf (rawBits c.hr c.w c.d))
  | _ => (.coded, wordsOf c.bits)

/-! ## Decoding a sample (R17 to R22) -/

/-- What reading bits gives: a value and the bits after it, too few bits read so far, or a failure. -/
inductive Fetch (α : Type) where
  | got (v : α) (rest : List (Option Bool))
  | short
  | stop (cause : Detail)
  deriving DecidableEq, Repr

/-- Counts zero bits up to the first 1 (R18, R19): a 25th zero makes the payload malformed, a bit of a word
signalled a parity failure stops the decoding (R20). -/
def fetchUnary : List (Option Bool) → Nat → Fetch Nat
  | [], _ => .short
  | none :: _, _ => .stop .parity
  | some true :: rest, u => .got u rest
  | some false :: rest, u => if u = 24 then .stop .stream else fetchUnary rest (u + 1)

/-- Reads `k` bits as a number, most significant first (R18, R19, R22). -/
def fetchBits : Nat → List (Option Bool) → Nat → Fetch Nat
  | 0, rest, v => .got v rest
  | _ + 1, [], _ => .short
  | _ + 1, none :: _, _ => .stop .parity
  | k + 1, some b :: rest, v => fetchBits k rest (2 * v + b.toNat)

/-- Reads the mapped value of a sample with Rice parameter `k` (R18, R19). -/
def fetchCode (d k : Nat) (buf : List (Option Bool)) : Fetch Nat :=
  match fetchUnary buf 0 with
  | .short => .short
  | .stop c => .stop c
  | .got u rest =>
    if u < 24 then
      match fetchBits k rest 0 with
      | .got v rest2 => .got (u * 2 ^ k + v) rest2
      | .short => .short
      | .stop c => .stop c
    else fetchBits (d + 1) rest 0

/-- One sample of a decoding (R17, R21, R22): the context after it and the bits not taken. -/
def Context.decode (c : Context) (buf : List (Option Bool)) : Fetch Context :=
  match c.form with
  | .raw =>
    match fetchBits c.d buf 0 with
    | .got y rest => .got { c.push y with bits := c.bits + (buf.length - rest.length) } rest
    | .short => .short
    | .stop x => .stop x
  | _ =>
    match fetchCode c.d (riceParam c.a c.n c.d) buf with
    | .got m rest =>
      let q := unmapValue m
      .got { c.pushCoded q (reconstruct c.d c.e c.prediction q) with
             bits := c.bits + (buf.length - rest.length) } rest
    | .short => .short
    | .stop x => .stop x

/-- How a decoding that ran as far as it could within a row stands. -/
inductive RowStop where
  | rowDone
  | needWords
  | failed (cause : Detail)
  deriving DecidableEq, Repr

/-- Whether more payload words can be read (R20, R93): words remain and the chain goes on. -/
def Decoder.canRead (k : Decoder) : Bool := decide (k.fetched < k.words) && k.ext.isSome

/-- Decodes up to `n` samples. Bits beyond the payload, or beyond a chain that does not open or ends too soon,
are a failure of cause STREAM (R20, R22, R93). -/
def Decoder.samples : Nat → Decoder → Decoder × RowStop
  | 0, k => (k, .rowDone)
  | n + 1, k =>
    match k.ctx.decode k.buf with
    | .got c rest => Decoder.samples n { k with ctx := c, buf := rest }
    | .short => (k, if k.canRead then .needWords else .failed .stream)
    | .stop cause => (k, .failed cause)

/-- Decodes on to the end of the row the decoder stands in (R23). -/
def Decoder.runRow (k : Decoder) : Decoder × RowStop :=
  k.samples (k.ctx.w - k.ctx.cur.length)

/-- The row last delivered (R23): none before row 0 is complete. -/
def Decoder.lastRow (k : Decoder) : Option (List Nat) := k.ctx.prev

/-- The bits of a word read: bits of a word signalled a parity failure are marked. -/
def readBits (r : ReadWord) : List (Option Bool) :=
  if r.bad then List.replicate 32 none else (wordBits r.word).map some

end Sys2Proof.Machine
end

