-- ==== Sys2Proof/Machine/Formats.lean ====
section
/-!
DEFINITION. The layouts a partner of the part sees (R185 to R191) and the band record as it lies in the
store (R189): byte order, the frame check, the bytes of every frame the part sends, the words of the press
port's answers.
-/
namespace Sys2Proof.Machine

/-! ## Bytes (R185) -/

/-- `n` bytes of a number, most significant first (R185). -/
def beBytes (n v : Nat) : List Byte :=
  (List.range n).reverse.map (fun i => BitVec.ofNat 8 (v / 256 ^ i))

/-- The number of bytes sent most significant first (R185). -/
def beNat (bs : List Byte) : Nat := bs.foldl (fun n b => 256 * n + b.toNat) 0

/-- A yes or no byte (R185). -/
def boolByte (b : Bool) : Nat := if b then 1 else 0

/-- The four bytes of a word, bits 31 to 24 first (R188). -/
def wordBytes (w : Word) : List Byte := beBytes 4 w.toNat

/-! ## The frame check (R171) -/

/-- One bit entered into the CRC-16 register with the polynomial 0x1021. -/
def crcBit (r : BitVec 16) (b : Bool) : BitVec 16 :=
  if xor r.msb b then (r <<< 1) ^^^ 0x1021#16 else r <<< 1

/-- One byte entered, most significant bit first. -/
def crcByte (r : BitVec 16) (b : Byte) : BitVec 16 :=
  [7, 6, 5, 4, 3, 2, 1, 0].foldl (fun r i => crcBit r (b.getLsbD i)) r

/-- The frame check over header and body: the register starts at 0xFFFF, no inversion at the end (R171). -/
def crc16 (bs : List Byte) : BitVec 16 := bs.foldl crcByte 0xFFFF#16

/-- A whole frame: header of 4 bytes, body, frame check (R185). -/
def frameBytes (kind : Nat) (tag : Byte) (body : List Byte) : List Byte :=
  let head := beBytes 1 kind ++ [tag] ++ beBytes 2 body.length
  head ++ body ++ beBytes 2 (crc16 (head ++ body)).toNat

/-- What a frame that has arrived is: its header, the bytes between header and check, whether it passes
(R171: the checks agree, the header's length is at most 16,384 and is the number of bytes received). A run of
fewer than 6 bytes has no room for header and check and does not pass (DEDUCED, log 14). -/
def parseFrame (bs : List Byte) : Option Frame :=
  match bs with
  | k :: t :: h :: l :: rest =>
    let n := beNat [h, l]
    let body := rest.take (rest.length - 2)
    if 2 ≤ rest.length ∧ n ≤ Config.bodyMax ∧ body.length = n ∧
        beNat (rest.drop (rest.length - 2)) = (crc16 (k :: t :: h :: l :: body)).toNat then
      some ⟨k, t, body⟩
    else none
  | _ => none

/-! ## Band records in the store (R189) -/

/-- The two words of a band record; every bit not named is 0 (R189). -/
def BandRecord.toWords (r : BandRecord) : Word × Word :=
  let st := match r.state with
    | .pending => 0
    | .stored => 1
    | .damaged => 2
  let md := match r.mode with
    | .coded => 0
    | .raw => 1
  (BitVec.ofNat 32 (st * 2 ^ 30 + md * 2 ^ 29 + (r.lane % 4) * 2 ^ 27 + r.first % 2 ^ 13),
   BitVec.ofNat 32 (r.words % 2 ^ 18))

/-- The band record two words hold; state bits of 3 are taken as PENDING (R189). -/
def BandRecord.ofWords (w0 w1 : Word) : BandRecord where
  state := match (w0.extractLsb' 30 2).toNat with
    | 1 => .stored
    | 2 => .damaged
    | _ => .pending
  mode := if w0.getLsbD 29 then .raw else .coded
  lane := (w0.extractLsb' 27 2).toNat
  first := (w0.extractLsb' 0 13).toNat
  words := (w1.extractLsb' 0 18).toNat

/-! ## Containers and lines (R48, R144) -/

/-- The two bytes of a sample container in a page's container order (R48). -/
def containerBytes (o : ContainerOrder) (v : Nat) : List Byte :=
  match o with
  | .highFirst => [BitVec.ofNat 8 (v / 256), BitVec.ofNat 8 v]
  | .lowFirst => [BitVec.ofNat 8 v, BitVec.ofNat 8 (v / 256)]

/-- The number two container bytes carry (R48, R51). -/
def containerValue (o : ContainerOrder) (b0 b1 : Byte) : Nat :=
  match o with
  | .highFirst => b0.toNat * 256 + b1.toNat
  | .lowFirst => b1.toNat * 256 + b0.toNat

/-- The container values of a run of bytes (R48). -/
def containers (o : ContainerOrder) : List Byte → List Nat
  | b0 :: b1 :: rest => containerValue o b0 b1 :: containers o rest
  | _ => []

/-- Containers two to a word, the first of a pair in the upper half; a last lone one leaves 0 below it (R144). -/
def pairWords : List Nat → List Word
  | [] => []
  | [v] => [BitVec.ofNat 32 (v % 65536 * 65536)]
  | u :: v :: rest => BitVec.ofNat 32 (u % 65536 * 65536 + v % 65536) :: pairWords rest

/-- The containers of a line in the sheet's component order (R144), from the C decoded rows. -/
def lineSamples (o : ComponentOrder) (w : Nat) (rows : List (List Nat)) : List Nat :=
  match o with
  | .sequential => rows.flatten
  | .interleaved => (List.range w).flatMap (fun col => rows.map (fun r => r.getD col 0))

/-- Line words of a page (R144): W·C divided by 2, rounded up. -/
def Page.lineWords (p : Page) : Nat := ceilDiv (p.w * p.c) 2

/-! ## Encodings of enumerations (R185) -/

/-- Origin link: A 0, B 1 (R189). -/
def linkCode : Link → Nat
  | .a => 0
  | .b => 1

/-- Copy target: NONE 0, A 1, B 2 (R185). -/
def targetCode : Option Link → Nat
  | none => 0
  | some .a => 1
  | some .b => 2

/-- Page state: OPENING 0 to RETIRING 5 (R185). -/
def PageState.code : PageState → Nat
  | .opening => 0
  | .filling => 1
  | .coding => 2
  | .sealed => 3
  | .failed => 4
  | .retiring => 5

/-- Failure cause: 0 absent, STORE_FULL 1 to LINK_RESET 4 (R185). -/
def causeCode : Option FailCause → Nat
  | none => 0
  | some .storeFull => 1
  | some .storeParity => 2
  | some .intakeAborted => 3
  | some .linkReset => 4

/-- Container order: HIGH_FIRST 0, LOW_FIRST 1 (R185). -/
def ContainerOrder.code : ContainerOrder → Nat
  | .highFirst => 0
  | .lowFirst => 1

/-- Mode: CODED 0, RAW 1 (R189). -/
def Mode.code : Mode → Nat
  | .coded => 0
  | .raw => 1

/-- Record state: PENDING 0, STORED 1, DAMAGED 2 (R189). -/
def RecState.code : RecState → Nat
  | .pending => 0
  | .stored => 1
  | .damaged => 2

/-- Damage detail: none 0, PARITY 1, STREAM 2, RECORD 3 (R185). -/
def detailCode : Option Detail → Nat
  | none => 0
  | some .parity => 1
  | some .stream => 2
  | some .record => 3

/-- Component order: SEQUENTIAL 0, INTERLEAVED 1 (R185). -/
def ComponentOrder.code : ComponentOrder → Nat
  | .sequential => 0
  | .interleaved => 1

/-- Admission mode: NORMAL 0, LOW 1, CLOSED 2 (R185). -/
def AdmMode.code : AdmMode → Nat
  | .normal => 0
  | .low => 1
  | .closed => 2

/-- Press state: IDLE 0, PREROLL 1, READY 2, SHEET 3 (R185). -/
def PressState.code : PressState → Nat
  | .idle => 0
  | .preroll => 1
  | .ready => 2
  | .sheet => 3

/-- Part state: STARTING 0, READY 1, RESTING 2, WAKING 3 (R190). -/
def PartState.code : PartState → Nat
  | .starting => 0
  | .ready => 1
  | .resting => 2
  | .waking => 3

/-- Store size: 128 MiB 0, 256 MiB 1, 512 MiB 2 (R190). -/
def StoreSize.code : StoreSize → Nat
  | .mib128 => 0
  | .mib256 => 1
  | .mib512 => 2

/-- Lane state: IDLE 0, ENCODING 1, DECODING 2 (R185). -/
def LaneShown.code : LaneShown → Nat
  | .idle => 0
  | .encoding => 1
  | .decoding => 2

/-- Refusal code: NO_PAGE 1 to BAD_REQUEST 23, in the order of R174 (R185). -/
def Refuse.code : Refuse → Nat
  | .noPage => 1
  | .pageExists => 2
  | .directoryFull => 3
  | .badGeometry => 4
  | .badProfile => 5
  | .profileInUse => 6
  | .ruleRefused => 7
  | .storeLow => 8
  | .intakeBusy => 9
  | .outOfOrder => 10
  | .held => 11
  | .pageState => 12
  | .pageInUse => 13
  | .pageRetiring => 14
  | .scheduleFull => 15
  | .printing => 16
  | .notCoded => 17
  | .damaged => 18
  | .lanesBusy => 19
  | .notIdle => 20
  | .starting => 21
  | .busy => 22
  | .badRequest => 23

/-! ## Record bodies (R187, R189, R190) -/

/-- The 31 bytes of a page listing (R189). -/
def PageListing.bytes (p : PageListing) : List Byte :=
  beBytes 2 p.id ++ beBytes 1 p.state.code ++ beBytes 1 (causeCode p.cause) ++ beBytes 1 (linkCode p.origin) ++
  beBytes 1 p.profile ++ beBytes 2 p.w ++ beBytes 2 p.ht ++ beBytes 1 p.c ++ beBytes 1 p.order.code ++
  beBytes 1 p.cls ++ beBytes 1 (targetCode p.copyTarget) ++ beBytes 2 p.jobTag ++ beBytes 2 p.b ++
  beBytes 1 (boolByte p.nextPixel.isSome) ++ beBytes 4 (p.nextPixel.getD 0) ++ beBytes 2 p.stored ++
  beBytes 1 (boolByte p.damaged) ++ beBytes 1 p.damageEvents ++ beBytes 2 p.clamped ++
  beBytes 1 p.printRefs ++ beBytes 1 p.streamRefs

/-- The 9 bytes of a record listing (R189). -/
def RecordListing.bytes (r : RecordListing) : List Byte :=
  beBytes 1 (boolByte r.ok) ++ wordBytes r.word0 ++ wordBytes r.word1

/-- The flags byte of the status record (R190): bit 0 LINK_OVERRUN to bit 4 PRESS_UNDERRUN. -/
def LinkFlags.code (f : LinkFlags) : Nat :=
  boolByte f.overrun + 2 * boolByte f.frameCheck + 4 * boolByte f.clamped + 8 * boolByte f.storeParity +
  16 * boolByte f.underrun

/-- The 32 bytes of the status record (R190). -/
def StatusRecord.bytes (r : StatusRecord) : List Byte :=
  let lane (x : LaneShown × Nat) := beBytes 1 x.1.code ++ beBytes 1 x.2
  beBytes 1 r.part.code ++ beBytes 1 r.size.code ++ beBytes 2 r.freeCount ++ beBytes 1 r.mode.code ++
  beBytes 1 r.admits ++ beBytes 2 r.directory ++ lane r.lanes.f0 ++ lane r.lanes.f1 ++ lane r.lanes.f2 ++
  lane r.lanes.f3 ++ beBytes 1 r.flags.code ++ beBytes 1 r.press.code ++ beBytes 1 r.schedule ++
  beBytes 4 r.fifoLines ++ beBytes 2 r.underruns ++ beBytes 1 (boolByte r.hold) ++ beBytes 1 r.long ++
  beBytes 1 r.streams ++ beBytes 2 r.framesDiscarded ++ beBytes 2 r.noticesDiscarded

/-- The details of a DONE reply (R187). -/
def Details.bytes : Details → List Byte
  | .none => []
  | .opened page b cls t => beBytes 2 page ++ beBytes 2 b ++ beBytes 1 cls ++ beBytes 1 (targetCode t)
  | .printed page copies => beBytes 2 page ++ beBytes 1 copies
  | .proofDone page band comp mode words hr =>
    beBytes 2 page ++ beBytes 2 band ++ beBytes 1 comp ++ beBytes 1 mode.code ++ beBytes 4 words ++ beBytes 1 hr
  | .bandDone page band comp mode words hr st mm =>
    beBytes 2 page ++ beBytes 2 band ++ beBytes 1 comp ++ beBytes 1 mode.code ++ beBytes 4 words ++
    beBytes 1 hr ++ beBytes 1 st.code ++ beBytes 4 mm
  | .listed p recs => p.bytes ++ recs.flatMap RecordListing.bytes
  | .status r => r.bytes
  | .laneTable b => beBytes 1 b
  | .runLimit m => beBytes 1 m
  | .watermarks lw hw k mode => beBytes 2 lw ++ beBytes 2 hw ++ beBytes 1 k ++ beBytes 1 mode.code
  | .press s => beBytes 1 s.order.code ++ beBytes 1 s.p ++ beBytes 1 s.u

/-- The body of a reply (R187): request kind, outcome, refusal code, details. -/
def replyBody (kind : Nat) : ReplyResult → List Byte
  | .done d => beBytes 1 kind ++ beBytes 1 0 ++ beBytes 1 0 ++ d.bytes
  | .refused c => beBytes 1 kind ++ beBytes 1 1 ++ beBytes 1 c.code
  | .damaged d i =>
    beBytes 1 kind ++ beBytes 1 1 ++ beBytes 1 Refuse.damaged.code ++ beBytes 1 (detailCode (some d)) ++ beBytes 4 i

/-- Kind and body of a notice (R187). -/
def Notice.parts : Notice → Nat × List Byte
  | .pageSealed p => (48, beBytes 2 p)
  | .pageFailed p c => (49, beBytes 2 p ++ beBytes 1 (causeCode (some c)))
  | .printDone p => (50, beBytes 2 p)
  | .printDropped p => (51, beBytes 2 p)
  | .bandDamaged p band comp copy d row =>
    (52, beBytes 2 p ++ beBytes 2 band ++ beBytes 1 comp ++ beBytes 1 copy ++ beBytes 1 (detailCode (some d)) ++
      beBytes 1 row)
  | .storeLow f => (53, beBytes 2 f)
  | .storeOpen f => (54, beBytes 2 f)
  | .copyDone p m => (55, beBytes 2 p ++ beBytes 2 m)
  | .hold => (56, [])
  | .resume => (57, [])

/-- The bytes of a frame on the link (R185, R187, R188): replies are kind 32, DATA frames kind 33; notices and
copy DATA frames carry tag 0. The record's state of a copy frame has no byte (R188, log 48). -/
def OutFrame.bytes : OutFrame → List Byte
  | .reply kind tag r => frameBytes 32 tag (replyBody kind r)
  | .notice n => frameBytes n.parts.1 0 n.parts.2
  | .proofRow tag page band comp row col o samples =>
    frameBytes 33 tag (beBytes 1 0 ++ beBytes 2 page ++ beBytes 2 band ++ beBytes 1 comp ++ beBytes 1 row ++
      beBytes 2 col ++ beBytes 2 samples.length ++ samples.flatMap (containerBytes o))
  | .payload copy tag page band comp mode mark words first data index _ =>
    frameBytes 33 (if copy then 0 else tag) (beBytes 1 (if copy then 2 else 1) ++ beBytes 2 page ++
      beBytes 2 band ++ beBytes 1 comp ++ beBytes 1 mode.code ++ beBytes 1 (detailCode mark) ++ beBytes 4 words ++
      beBytes 4 first ++ beBytes 2 data.length ++ beBytes 4 index ++ data.flatMap wordBytes)

/-! ## Answers of the press port (R191) -/

/-- The level of the two answer-kind lines (R191). -/
def Answer.kind : Answer → Nat
  | .line _ => 0
  | .sheetInfo _ _ _ _ _ _ => 1
  | .sheetDone _ _ => 2
  | .notReady => 3

/-- The strobed words of an answer (R191), the bits it names no field for sent as 0 (log 57). -/
def Answer.words : Answer → List Word
  | .line ws => ws
  | .sheetInfo page w ht c copy o =>
    [BitVec.ofNat 32 (page % 65536 * 65536 + copy % 256 * 256 + o.code * 128 + c % 8),
     BitVec.ofNat 32 (w % 65536 * 65536 + ht % 65536)]
  | .sheetDone page copy => [BitVec.ofNat 32 (page % 65536 * 65536 + copy % 256 * 256)]
  | .notReady => [0]

end Sys2Proof.Machine
end

