-- ==== Sys2Proof/Machine/Operands.lean ====
section
/-!
DEFINITION. The request bodies of a layout link (R186): which frame is which request, the length each kind
requires, and the fields of each body. A field whose number lies outside its enumeration reads as `none`,
for its owner to refuse (R185).
-/
namespace Sys2Proof.Machine

/-! ## Request kinds (R186) -/

namespace ReqKind
/-- Kind numbers of the requests (R186). -/
def openPage : Nat := 1
def pixels : Nat := 2
def retirePage : Nat := 3
def print : Nat := 4
def cancelPrint : Nat := 5
def readBand : Nat := 6
def listPage : Nat := 7
def readStatus : Nat := 8
def clearStatus : Nat := 9
def setProfile : Nat := 10
def setRule : Nat := 11
def setDefaultClass : Nat := 12
def setLaneTable : Nat := 13
def setWatermarks : Nat := 14
def setPress : Nat := 15
def setStore : Nat := 16
def rest : Nat := 17
def hold : Nat := 18
def resume : Nat := 19
end ReqKind

/-- The kind byte as a number. -/
def Frame.k (f : Frame) : Nat := f.kind.toNat

/-- A frame of this request kind. -/
def Frame.isKind (n : Nat) (f : Frame) : Bool := f.k == n

/-- The kind is not one of the request kinds (R173 step 2). -/
def Frame.badKind (f : Frame) : Bool := decide (f.k < 1) || decide (19 < f.k)

/-- The body has this length (R173 step 3, R186). -/
def Frame.hasLength (n : Nat) (f : Frame) : Bool := f.body.length == n

/-- A PIXELS body holds its fixed part (R186: only the fixed part is compared). -/
def Frame.hasPixelsPart (f : Frame) : Bool := decide (8 ≤ f.body.length)

/-- The bytes of a field: `n` of them from position `i`. -/
def field (i n : Nat) (body : List Byte) : Nat := beNat ((body.drop i).take n)

/-- READ BAND names the decoded form: form byte 0 (R186). -/
def Frame.formIs (v : Nat) (f : Frame) : Bool := field 5 1 f.body == v

/-- Length and form and option bytes of READ BAND (R186: both must be 0 or 1). -/
def Frame.readBandOk (f : Frame) : Bool :=
  f.hasLength 7 && decide (field 5 1 f.body ≤ 1) && decide (field 6 1 f.body ≤ 1)

/-- A READ BAND that is not a well-formed one of the compressed form: taken by READ_BAND_DECODED. -/
def Frame.takenAsDecoded (f : Frame) : Bool :=
  f.isKind ReqKind.readBand && !(f.readBandOk && f.formIs 1)

/-- A READ BAND that is not a well-formed one of the decoded form: taken by READ_BAND_COMPRESSED. One that
holds neither form is taken by either step, with the same answer (log 15). -/
def Frame.takenAsCompressed (f : Frame) : Bool :=
  f.isKind ReqKind.readBand && !(f.readBandOk && f.formIs 0)

/-- A HOLD of the length its kind requires (R186). -/
def Frame.isHold (f : Frame) : Bool := f.isKind ReqKind.hold && f.hasLength 2

/-- A RESUME of the length its kind requires (R186). -/
def Frame.isResume (f : Frame) : Bool := f.isKind ReqKind.resume && f.hasLength 0

/-! ## Enumerated fields (R185) -/

/-- Predictor: LEFT 0, ABOVE 1, EDGE 2. -/
def Predictor.ofCode : Nat → Option Predictor
  | 0 => some .left
  | 1 => some .above
  | 2 => some .edge
  | _ => none

/-- Container order: HIGH_FIRST 0, LOW_FIRST 1. -/
def ContainerOrder.ofCode : Nat → Option ContainerOrder
  | 0 => some .highFirst
  | 1 => some .lowFirst
  | _ => none

/-- Component order: SEQUENTIAL 0, INTERLEAVED 1. -/
def ComponentOrder.ofCode : Nat → Option ComponentOrder
  | 0 => some .sequential
  | 1 => some .interleaved
  | _ => none

/-- Rule field: PAGE_ID 0 to ORIGIN 6. -/
def RuleField.ofCode : Nat → Option RuleField
  | 0 => some .pageId
  | 1 => some .width
  | 2 => some .height
  | 3 => some .components
  | 4 => some .profile
  | 5 => some .jobTag
  | 6 => some .origin
  | _ => none

/-- Operator: EQ 0 to LT 3. -/
def RuleOp.ofCode : Nat → Option RuleOp
  | 0 => some .eq
  | 1 => some .ne
  | 2 => some .gt
  | 3 => some .lt
  | _ => none

/-- Rule action: REFUSE 0, CLASS 1 to CLASS 4 as 1 to 4. -/
def RuleAction.ofCode : Nat → Option RuleAction
  | 0 => some .refuse
  | 1 => some (.cls 1)
  | 2 => some (.cls 2)
  | 3 => some (.cls 3)
  | 4 => some (.cls 4)
  | _ => none

/-- Copy target: NONE 0, A 1, B 2. The outer `none` is a number outside the set. -/
def targetOfCode : Nat → Option (Option Link)
  | 0 => some none
  | 1 => some (some .a)
  | 2 => some (some .b)
  | _ => none

/-- A yes or no byte: 1 and 0; another number lies outside the set (log 16). -/
def boolOfCode : Nat → Option Bool
  | 0 => some false
  | 1 => some true
  | _ => none

/-! ## Bodies (R186) -/

/-- The fields of OPEN PAGE. -/
structure OpenFields where
  page : Nat
  w : Nat
  ht : Nat
  c : Nat
  profile : Nat
  order : Option ContainerOrder
  jobTag : Nat
  deriving DecidableEq, Repr

def OpenFields.of (body : List Byte) : OpenFields where
  page := field 0 2 body
  w := field 2 2 body
  ht := field 4 2 body
  c := field 6 1 body
  profile := field 7 1 body
  order := ContainerOrder.ofCode (field 8 1 body)
  jobTag := field 9 2 body

/-- The fields of PIXELS: the fixed part and the container bytes after it. -/
structure PixelFields where
  page : Nat
  offset : Nat
  count : Nat
  bytes : List Byte
  deriving DecidableEq, Repr

def PixelFields.of (body : List Byte) : PixelFields where
  page := field 0 2 body
  offset := field 2 4 body
  count := field 6 2 body
  bytes := body.drop 8

/-- The fields of READ BAND; `check` is the option CHECK. -/
structure BandFields where
  page : Nat
  band : Nat
  comp : Nat
  check : Bool
  deriving DecidableEq, Repr

def BandFields.of (body : List Byte) : BandFields where
  page := field 0 2 body
  band := field 2 2 body
  comp := field 4 1 body
  check := field 6 1 body == 0

/-- The fields of SET PROFILE, each as its number. -/
structure ProfileFields where
  profile : Nat
  predictor : Option Predictor
  e : Nat
  hb : Nat
  d : Nat
  deriving DecidableEq, Repr

def ProfileFields.of (body : List Byte) : ProfileFields where
  profile := field 0 1 body
  predictor := Predictor.ofCode (field 1 1 body)
  e := field 2 1 body
  hb := field 3 1 body
  d := field 4 1 body

/-- The profile a SET PROFILE gives, with use count 0, if every field lies in its set (R1). -/
def ProfileFields.profileGiven (f : ProfileFields) : Option Profile :=
  match f.predictor with
  | some p =>
    if f.e ≤ 7 ∧ (f.hb = 8 ∨ f.hb = 16 ∨ f.hb = 32) ∧ (f.d = 8 ∨ f.d = 10 ∨ f.d = 12) then
      some ⟨p, f.e, f.hb, f.d, 0⟩
    else none
  | none => none

/-- The rule number and the rule record a SET RULE gives, if every field lies in its set (R65). -/
def ruleOf (body : List Byte) : Option (Nat × Rule) :=
  match boolOfCode (field 1 1 body), RuleField.ofCode (field 2 1 body), RuleOp.ofCode (field 3 1 body),
      boolOfCode (field 8 1 body), RuleAction.ofCode (field 9 1 body), targetOfCode (field 10 1 body) with
  | some en, some fl, some op, some an, some ac, some tg =>
    some (field 0 1 body,
      ⟨en, fl, op, BitVec.ofNat 16 (field 4 2 body), BitVec.ofNat 16 (field 6 2 body), an, ac, tg⟩)
  | _, _, _, _, _, _ => none

/-- The entries of SET LANE TABLE, each as its number (R186). -/
def laneEntries (body : List Byte) : List Nat := ((body.drop 1).take 32).map BitVec.toNat

/-- The press settings a SET PRESS gives, if each lies in its range (R143), with U clamped to P. -/
def pressOf (body : List Byte) : Option PressSettings :=
  match ComponentOrder.ofCode (field 0 1 body) with
  | some o =>
    let p := field 1 1 body
    let u := field 2 1 body
    if 1 ≤ p ∧ p ≤ 64 ∧ 1 ≤ u ∧ u ≤ 16 then some ⟨o, p, min u p⟩ else none
  | none => none

end Sys2Proof.Machine
end

