-- ==== Sys2Proof/Machine/Ops.lean ====
section
/-!
DEFINITION. Named operations over the state: one home for each register, the store's bytes with their parity
(R116, R119 to R121), page records (R25), and the placing of outbound frames and replies (R174, R175).
-/
namespace Sys2Proof.Machine

/-- What a meaning answers. -/
abbrev Result := Host.Outcome State Fault Refusal

/-! ## One thing for each link, slot, lane -/

/-- The other link. -/
def otherLink : Link → Link
  | .a => .b
  | .b => .a

/-- The other slot. -/
def SlotId.other : SlotId → SlotId
  | .s0 => .s1
  | .s1 => .s0

/-- The lane's number (R78). -/
def laneNo : Lane → Nat
  | .l0 => 0
  | .l1 => 1
  | .l2 => 2
  | .l3 => 3

/-- The lanes in order. -/
def allLanes : List Lane := [.l0, .l1, .l2, .l3]

def Pair.get {α : Type} (p : Pair α) : Link → α
  | .a => p.a
  | .b => p.b

def Pair.set {α : Type} (p : Pair α) (x : Link) (v : α) : Pair α :=
  match x with
  | .a => { p with a := v }
  | .b => { p with b := v }

def Slots.get {α : Type} (p : Slots α) : SlotId → α
  | .s0 => p.s0
  | .s1 => p.s1

def Slots.set {α : Type} (p : Slots α) (t : SlotId) (v : α) : Slots α :=
  match t with
  | .s0 => { p with s0 := v }
  | .s1 => { p with s1 := v }

def Four.get {α : Type} (p : Four α) : Lane → α
  | .l0 => p.f0
  | .l1 => p.f1
  | .l2 => p.f2
  | .l3 => p.f3

def Four.set {α : Type} (p : Four α) (l : Lane) (v : α) : Four α :=
  match l with
  | .l0 => { p with f0 := v }
  | .l1 => { p with f1 := v }
  | .l2 => { p with f2 := v }
  | .l3 => { p with f3 := v }

/-- A count that rises by `k` and stops at `top` (R25, R154, R170). -/
def satAdd (top n k : Nat) : Nat := min top (n + k)

/-! ## Lists by rising key (the store planes, the link table) -/

/-- The entry at key `a`, if listed. -/
def planeGet {α : Type} : List (Nat × α) → Nat → Option α
  | [], _ => none
  | (b, v) :: rest, a => if a = b then some v else planeGet rest a

/-- Writes the entry at key `a`, in its place. -/
def planePut {α : Type} : List (Nat × α) → Nat → α → List (Nat × α)
  | [], a, v => [(a, v)]
  | (b, w) :: rest, a, v =>
    if a < b then (a, v) :: (b, w) :: rest
    else if a = b then (a, v) :: rest
    else (b, w) :: planePut rest a v

/-- Takes the entry at key `a` out of the list. -/
def planeDrop {α : Type} : List (Nat × α) → Nat → List (Nat × α)
  | [], _ => []
  | (b, w) :: rest, a => if a = b then rest else (b, w) :: planeDrop rest a

/-- Keys strictly rise, and the first is above `lo` where one is given. -/
def risingFrom {α : Type} : Option Nat → List (Nat × α) → Bool
  | _, [] => true
  | none, (a, _) :: rest => risingFrom (some a) rest
  | some lo, (a, _) :: rest => decide (lo < a) && risingFrom (some a) rest

/-- The canonical form of a list by key: the keys strictly rise. -/
def planeWf {α : Type} (l : List (Nat × α)) : Bool := risingFrom none l

/-! ## The store (R113, R116, R119 to R121) -/

/-- The canonical form of the store: both planes strictly rise by address. An address not listed has not been
written since power-on, so no entry can equal what an unlisted one reads as. -/
def Memory.wf (m : Memory) : Bool := planeWf m.data && planeWf m.parity

/-- The data byte the devices hold at a byte address; never written since power-on: a free value (log 5). -/
def Memory.byte (m : Memory) (powerOns a : Nat) : Byte :=
  (planeGet m.data a).getD (Config.deviceByte powerOns a)

/-- The parity bit beside it; never written since power-on: a free value (log 5). -/
def Memory.parityBit (m : Memory) (powerOns a : Nat) : Bool :=
  (planeGet m.parity a).getD (Config.deviceParity powerOns a)

/-- The parity bit the controller generates: it makes the number of 1 bits in byte and parity even (R119). -/
def parityOf (b : Byte) : Bool :=
  [0, 1, 2, 3, 4, 5, 6, 7].foldl (fun p i => xor p (b.getLsbD i)) false

/-- Writes one byte with its generated parity (R119). -/
def Memory.putByte (m : Memory) (a : Nat) (b : Byte) : Memory :=
  ⟨planePut m.data a b, planePut m.parity a (parityOf b)⟩

/-- The words of a store of this size (R113). -/
def StoreSize.words (z : StoreSize) : Nat := z.extents * Config.extentWords

/-- Byte `j` of a word (R119: byte 0 is bits 7 to 0). -/
def wordByte (w : Word) (j : Nat) : Byte := w.extractLsb' (8 * j) 8

/-- Writes the unmasked bytes of a burst of eight words (R116): byte `i` of the burst is byte `i % 4` of word
`i / 4`; a masked byte and its parity keep their values. -/
def Memory.writeBurst (m : Memory) (addr : Nat) (data : List Word) (mask : BitVec 32) : Memory :=
  (List.range 32).foldl
    (fun m i => if mask.getLsbD i then m.putByte (4 * addr + i) (wordByte (data.getD (i / 4) 0) (i % 4)) else m) m

/-- The word at a word address. -/
def Memory.word (m : Memory) (powerOns addr : Nat) : Word :=
  m.byte powerOns (4 * addr + 3) ++ m.byte powerOns (4 * addr + 2) ++ m.byte powerOns (4 * addr + 1) ++
    m.byte powerOns (4 * addr)

/-- A byte does not match its parity bit (R120). -/
def Memory.mismatch (m : Memory) (powerOns a : Nat) : Bool :=
  xor (parityOf (m.byte powerOns a)) (m.parityBit powerOns a)

/-- Reads a burst of eight words, each with whether one of its taken bytes does not match (R116, R120). -/
def Memory.readBurst (m : Memory) (powerOns addr : Nat) (taken : BitVec 32) : List ReadWord :=
  (List.range 8).map fun i =>
    ⟨m.word powerOns (addr + i),
     (List.range 4).any fun j => taken.getLsbD (4 * i + j) && m.mismatch powerOns (4 * (addr + i) + j)⟩

/-- A byte of the word that holds byte `a` does not match its parity bit (R120). -/
def Memory.wordMismatch (m : Memory) (powerOns a : Nat) : Bool :=
  (List.range 4).any fun j => m.mismatch powerOns (4 * (a / 4) + j)

/-- The devices hold these bits of a burst other than as written, from now on until they are written again (log 8). A
word that already mismatches gives the same mismatch until it is written (R120), so nothing befalls it. -/
def Memory.upset (m : Memory) (powerOns addr : Nat) (us : List Upset) : Memory :=
  (us.filter fun u => !m.wordMismatch powerOns (4 * addr + u.byte)).foldl
    (fun m u =>
      let a := 4 * addr + u.byte
      ⟨planePut m.data a (m.byte powerOns a ^^^ u.data),
       planePut m.parity a (xor (m.parityBit powerOns a) u.parity)⟩) m

/-- The mask of the first `n` words of a burst. -/
def wordsMask (n : Nat) : BitVec 32 := BitVec.ofNat 32 (2 ^ (4 * min n 8) - 1)

/-! ## Addresses of band records (R30, R113) -/

/-- The burst that holds record `index` of a header extent: record index is words 2·index and 2·index + 1. -/
def recordBurst (header index : Nat) : Nat := header * Config.extentWords + 8 * (index / 4)

/-- The mask of `n` records from record `index` on, within its burst. -/
def recordMask (index n : Nat) : BitVec 32 := BitVec.ofNat 32 ((2 ^ (8 * n) - 1) * 2 ^ (8 * (index % 4)))

/-- The two words of record `index` among the words of its burst. -/
def recordWords (index : Nat) (ws : List ReadWord) : ReadWord × ReadWord :=
  (ws.getD (2 * (index % 4)) ⟨0, false⟩, ws.getD (2 * (index % 4) + 1) ⟨0, false⟩)

/-- The record as those words give it, and whether either word was signalled or marked (R163). -/
def readRecord (index : Nat) (ws : List ReadWord) : BandRecord × Bool :=
  let p := recordWords index ws
  (BandRecord.ofWords p.1.word p.2.word, p.1.bad || p.2.bad)

/-- The eight words of a burst that carry one record at its place. -/
def recordData (index : Nat) (r : BandRecord) : List Word :=
  let p := r.toWords
  (List.range 8).map fun i =>
    if i = 2 * (index % 4) then p.1 else if i = 2 * (index % 4) + 1 then p.2 else 0

/-! ## Blocks of the state -/

def State.link (s : State) (x : Link) : LinkCtl := s.links.get x

def State.modLink (x : Link) (f : LinkCtl → LinkCtl) (s : State) : State :=
  { s with links := s.links.set x (f (s.links.get x)) }

def State.intake (s : State) (x : Link) : Intake := s.intakes.get x

def State.modIntake (x : Link) (f : Intake → Intake) (s : State) : State :=
  { s with intakes := s.intakes.set x (f (s.intakes.get x)) }

def State.modPress (f : PressFeed → PressFeed) (s : State) : State := { s with press := f s.press }

def State.modCtl (f : StoreCtl → StoreCtl) (s : State) : State := { s with ctl := f s.ctl }

def State.modArb (f : Arbiter → Arbiter) (s : State) : State := { s with arb := f s.arb }

def State.modDir (f : Directory → Directory) (s : State) : State := { s with dir := f s.dir }

def State.modDisp (f : Dispatcher → Dispatcher) (s : State) : State := { s with disp := f s.disp }

def State.lane (s : State) (l : Lane) : LaneState := s.disp.lanes.get l

def State.setLane (l : Lane) (v : LaneState) (s : State) : State :=
  s.modDisp fun d => { d with lanes := d.lanes.set l v }

/-! ## Part state (R112) -/

/-- The part state the outside sees. -/
def State.part (s : State) : PartState :=
  match s.ctl.state with
  | .settle => .starting
  | .start => .starting
  | .ready => .ready
  | .refreshing => .ready
  | .resting => .resting
  | .waking => .waking

/-- Requests are answered STARTING (R112). -/
def State.notServing (s : State) : Bool :=
  match s.part with
  | .starting => true
  | .waking => true
  | .ready => false
  | .resting => false

/-! ## Page records (R24, R25) -/

/-- The page record with this id. -/
def State.page (s : State) (id : Nat) : Option Page := s.dir.pages.find? (fun p => p.id == id)

/-- Changes the page record with this id. -/
def State.modPage (id : Nat) (f : Page → Page) (s : State) : State :=
  s.modDir fun d => { d with pages := d.pages.map (fun p => if p.id = id then f p else p) }

/-- The profile a page names; its fields do not change while the page exists (R32). -/
def State.profileOf (s : State) (p : Page) : Profile := s.dir.profiles.toList.getD p.profile Profile.initial

/-- The page is in this state. -/
def State.pageIs (s : State) (id : Nat) (st : PageState) : Bool :=
  match s.page id with
  | some p => p.state == st
  | none => false

/-- The records of a page: B·C (R30). -/
def Page.records (p : Page) : Nat := p.b * p.c

/-- Row count Hr of a band of a page (R2). -/
def State.rowsOf (s : State) (p : Page) (band : Nat) : Nat := bandRows p.ht (s.profileOf p).hb band

/-- One print ref less (R28). -/
def State.dropPrintRef (id : Nat) (s : State) : State :=
  s.modPage id fun p => { p with printRefs := p.printRefs - 1 }

/-- One stream ref less (R28). -/
def State.dropStreamRef (id : Nat) (s : State) : State :=
  s.modPage id fun p => { p with streamRefs := p.streamRefs - 1 }

/-- A damage event of a page (R159): the count rises by 1, stopping at 255, and the damaged flag is set. -/
def State.damageEvent (id : Nat) (s : State) : State :=
  s.modPage id fun p => { p with damaged := true, damageEvents := satAdd 255 p.damageEvents 1 }

/-! ## The outbound queue (R174, R175) -/

/-- The frame stands in a reply place. -/
def OutFrame.isReply : OutFrame → Bool
  | .reply _ _ _ => true
  | .notice _ => false
  | .proofRow _ _ _ _ _ _ _ _ => false
  | .payload _ _ _ _ _ _ _ _ _ _ _ _ => false

/-- The intake's HOLD and RESUME notices, which a paused link still sends (R175). -/
def OutFrame.passesHold : OutFrame → Bool
  | .notice .hold => true
  | .notice .resume => true
  | _ => false

/-- General places held: by frames placed, by the frame being sent, by the stream engine's claim (R175). -/
def LinkCtl.generalUse (c : LinkCtl) : Nat :=
  (c.out.filter (fun f => !f.isReply)).length + (c.sending.toList.filter (fun f => !f.isReply)).length +
    c.filling.toList.length

/-- A general place is free. -/
def LinkCtl.hasPlace (c : LinkCtl) : Bool := decide (c.generalUse < Config.generalPlaces)

/-- The stream has a DATA frame to send (R179): a copy stream until its last band-component has been sent. -/
def Stream.hasFrame (st : Stream) : Bool :=
  match st.kind with
  | .copy => decide (st.index < st.total)
  | .readBack _ _ _ => true

/-- A copy stream that owes only its COPY DONE (R180). -/
def Stream.finished (st : Stream) : Bool := !st.hasFrame

/-- The stream engine has a use for a general place: it fills no frame and a stream has one to send, or a copy
stream owes its COPY DONE. -/
def LinkCtl.engineWants (c : LinkCtl) : Bool :=
  (c.filling.isNone && c.streams.any Stream.hasFrame) || c.streams.any Stream.finished

/-- The stream engine begins to wait when it has a use for a place and none is free, or the free ones are owed to
earlier waiters, and stops when it has none (R175, R177). -/
def LinkCtl.noteWait (c : LinkCtl) : LinkCtl :=
  if c.engineWants then
    if (c.hasPlace && c.waiters.isEmpty) || c.waiters.contains .engine then c
    else { c with waiters := c.waiters ++ [.engine] }
  else { c with waiters := c.waiters.filter (· != .engine) }

/-- The next frame to send and the queue without it: the oldest, or while hold is in force the oldest HOLD or
RESUME notice (R175). -/
def LinkCtl.pickSend (c : LinkCtl) : Option (OutFrame × List OutFrame) :=
  if c.hold then
    match c.out.find? OutFrame.passesHold with
    | some f => some (f, c.out.erase f)
    | none => none
  else
    match c.out with
    | f :: rest => some (f, rest)
    | [] => none

/-- Begins to send the next frame if none is being sent. -/
def LinkCtl.startSend (c : LinkCtl) : LinkCtl :=
  match c.sending with
  | some _ => c
  | none =>
    match c.pickSend with
    | some (f, rest) => { c with sending := some f, out := rest }
    | none => c

/-- Places a frame at the end of the queue. -/
def LinkCtl.place (f : OutFrame) (c : LinkCtl) : LinkCtl :=
  ({ c with out := c.out ++ [f] } : LinkCtl).startSend.noteWait

/-- Places a notice in a free general place, or discards and counts it (R175). -/
def LinkCtl.placeNotice (n : Notice) (c : LinkCtl) : LinkCtl :=
  if c.hasPlace then c.place (.notice n)
  else { c with noticesDiscarded := satAdd Config.countMax c.noticesDiscarded 1 }

/-- A notice for a link. -/
def State.notify (x : Link) (n : Notice) (s : State) : State := s.modLink x (LinkCtl.placeNotice n)

/-- A notice for both links, A first (log 11). -/
def State.notifyBoth (n : Notice) (s : State) : State := (s.notify .a n).notify .b n

/-- The reply to a request just taken, in its own reply place (R174). -/
def State.reply (x : Link) (f : Frame) (r : ReplyResult) (s : State) : State :=
  s.modLink x (LinkCtl.place (.reply f.k f.tag r))

/-- The reply to a long request that is still outstanding: it stops being outstanding when its reply is placed
(R174). One dropped by link reset is not answered (R182). -/
def State.answer (x : Link) (ticket : Nat) (r : ReplyResult) (s : State) : State :=
  match (s.link x).long.find? (fun q => q.ticket == ticket) with
  | none => s
  | some q =>
    s.modLink x fun c =>
      ({ c with long := c.long.filter (fun q => q.ticket != ticket) } : LinkCtl).place (.reply q.kind q.tag r)

/-- A reply place given up without a reply (R174). -/
def State.freeReplyPlace (x : Link) (s : State) : State :=
  s.modLink x fun c => { c with replyUse := c.replyUse - 1 }

/-! ## Taking a request from the receive buffer (R172, R173) -/

/-- The link's frames wait: RESTING, or the frame that woke the part stands at the head until READY (R125). -/
def State.rxHeld (s : State) (x : Link) : Bool :=
  match s.ctl.state with
  | .resting => true
  | .waking => s.ctl.wakeFrameHeld && s.ctl.wakeCause == some (.frame x)
  | _ => false

/-- The head of the receive buffer can be taken: a reply place is free (R172). -/
def State.canTake (s : State) (x : Link) : Bool :=
  decide ((s.link x).replyUse < Config.replyPlaces) && !s.rxHeld x

/-- Takes the head of the receive buffer, giving it a reply place, if it is a frame of this step. -/
def State.takeHead (x : Link) (mine : Frame → Bool) (s : State) : Option (Frame × State) :=
  match (s.link x).rx with
  | [] => none
  | f :: rest =>
    if s.canTake x && mine f then
      some (f, s.modLink x fun c => { c with rx := rest, replyUse := c.replyUse + 1 })
    else none

/-- A short request (R173): STARTING, then the length test, then its owner. -/
def State.serveShort (x : Link) (mine ok : Frame → Bool) (serve : Frame → State → State) (s : State) : State :=
  match s.takeHead x mine with
  | none => s
  | some (f, s1) =>
    if s1.notServing then s1.reply x f (.refused .starting)
    else if ok f then serve f s1
    else s1.reply x f (.refused .badRequest)

/-- Makes a long request outstanding under a fresh ticket (R173 step 5). -/
def State.addLong (x : Link) (f : Frame) (s : State) : State :=
  let s1 := s.modLink x fun c => { c with long := c.long ++ [⟨s.nextTicket, f.k, f.tag⟩] }
  { s1 with nextTicket := s.nextTicket + 1 }

/-- A long request (R173): STARTING, the length test, BUSY with four outstanding, then its owner, with the
ticket it is outstanding under. -/
def State.serveLong (x : Link) (mine ok : Frame → Bool) (serve : Frame → Nat → State → State) (s : State) : State :=
  match s.takeHead x mine with
  | none => s
  | some (f, s1) =>
    if s1.notServing then s1.reply x f (.refused .starting)
    else if ok f then
      if Config.longSlots ≤ (s1.link x).long.length then s1.reply x f (.refused .busy)
      else serve f s1.nextTicket (s1.addLong x f)
    else s1.reply x f (.refused .badRequest)

end Sys2Proof.Machine
end

