-- ==== Sys2Proof/Machine/Flags.lean ====
section
/-!
DEFINITION. The sticky flags and counts of a link (R170) and the status record (R183).
-/
namespace Sys2Proof.Machine

/-- LINK_OVERRUN, and one more frame discarded (R172). -/
def LinkCtl.noteOverrun (c : LinkCtl) : LinkCtl :=
  { c with flags := { c.flags with overrun := true },
           framesDiscarded := satAdd Config.countMax c.framesDiscarded 1 }

/-- FRAME_CHECK, and one more frame discarded (R171). -/
def LinkCtl.noteFrameCheck (c : LinkCtl) : LinkCtl :=
  { c with flags := { c.flags with frameCheck := true },
           framesDiscarded := satAdd Config.countMax c.framesDiscarded 1 }

/-- SAMPLES_CLAMPED on the link that carried the frame (R52). -/
def State.flagClamped (x : Link) (s : State) : State :=
  s.modLink x fun c => { c with flags := { c.flags with clamped := true } }

/-- STORE_PARITY on link A and on link B (R161). -/
def State.flagStoreParity (s : State) : State :=
  (s.modLink .a fun c => { c with flags := { c.flags with storeParity := true } }).modLink .b
    fun c => { c with flags := { c.flags with storeParity := true } }

/-- STORE_PARITY on both links if a checked read was signalled (R161). -/
def State.flagIf (bad : Bool) (s : State) : State := if bad then s.flagStoreParity else s

/-- PRESS_UNDERRUN on link A and on link B (R154). -/
def State.flagUnderrun (s : State) : State :=
  (s.modLink .a fun c => { c with flags := { c.flags with underrun := true } }).modLink .b
    fun c => { c with flags := { c.flags with underrun := true } }

/-- The five flags clear and the two counts 0 (R184, R182). -/
def LinkCtl.clearStatus (c : LinkCtl) : LinkCtl :=
  { c with flags := LinkFlags.clear, framesDiscarded := 0, noticesDiscarded := 0 }

/-- The lane state the status record shows (R86). -/
def LaneState.shown : LaneState → LaneShown
  | .idle => .idle
  | .encoding _ _ => .encoding
  | .decoding _ _ => .decoding

/-- A lane's state and queue depth (R85). -/
def State.laneStatus (s : State) (l : Lane) : LaneShown × Nat :=
  ((s.lane l).shown, (s.disp.queues.get l).length)

/-- The next pixel of the link's intake page (R25, R47); none without one. -/
def State.intakeNext (s : State) (x : Link) : Option Nat :=
  match (s.intake x).page with
  | some id => (s.page id).bind Page.nextPixel
  | none => none

/-- The status record of a link (R183); the field of streams running stops at 255 (R190). It reports the next pixel of the
link's intake page too, as it stood before a frame being written (R63), for which the 32 bytes of R190 have no place
(log 40). -/
def State.status (s : State) (x : Link) : StatusRecord where
  part := s.part
  size := s.size
  freeCount := s.adm.freeCount
  mode := s.adm.mode
  admits := s.adm.admits
  directory := s.dir.pages.length
  lanes := ⟨s.laneStatus .l0, s.laneStatus .l1, s.laneStatus .l2, s.laneStatus .l3⟩
  press := s.press.state
  schedule := s.press.schedule.length
  fifoLines := s.press.fifo.length
  underruns := s.press.underruns
  hold := (s.link x).hold
  long := (s.link x).long.length
  streams := min 255 (s.link x).streams.length
  flags := (s.link x).flags
  framesDiscarded := (s.link x).framesDiscarded
  noticesDiscarded := (s.link x).noticesDiscarded
  nextPixel := s.intakeNext x

/-- The page listing of a page record (R44). The failure cause appears only for a FAILED page and the next
pixel only for a page in OPENING or FILLING. -/
def Page.listing (p : Page) : PageListing where
  id := p.id
  state := p.state
  cause := if p.state = .failed then p.cause else none
  origin := p.origin
  profile := p.profile
  w := p.w
  ht := p.ht
  c := p.c
  order := p.order
  cls := p.cls
  copyTarget := p.copyTarget
  jobTag := p.jobTag
  b := p.b
  nextPixel := if p.state = .opening ∨ p.state = .filling then p.nextPixel else none
  stored := p.stored
  damaged := p.damaged
  damageEvents := p.damageEvents
  clamped := p.clamped
  printRefs := p.printRefs
  streamRefs := p.streamRefs

end Sys2Proof.Machine
end

