-- ==== Sys2Proof/Machine/Admission.lean ====
section
/-!
DEFINITION. The admission block: rule evaluation (R66 to R68), the reports of the extent map (R71, R72), the
admission in LOW (R70), and the settings SET RULE, SET DEFAULT CLASS and SET WATERMARKS (R65, R69, R75, R76).
-/
namespace Sys2Proof.Machine

def State.modAdm (f : Admission → Admission) (s : State) : State := { s with adm := f s.adm }

/-- Entry into CLOSED: STORE LOW to both links with the free count (R73). -/
def State.closeAdmission (s : State) : State :=
  (s.modAdm fun a => { a with mode := .closed, admits := 0 }).notifyBoth (.storeLow s.adm.freeCount)

/-- Entry into LOW or CLOSED, by K (R71, R76). -/
def State.leaveNormal (s : State) : State :=
  if 0 < s.adm.k then s.modAdm fun a => { a with mode := .low, admits := a.k } else s.closeAdmission

/-- Return to NORMAL: STORE OPEN to both links if the mode was CLOSED (R72, R73). -/
def State.openAdmission (s : State) : State :=
  let s1 := s.modAdm fun a => { a with mode := .normal, admits := 0 }
  if s.adm.mode = .closed then s1.notifyBoth (.storeOpen s.adm.freeCount) else s1

/-- A report of a fallen free count (R71). -/
def State.reportFall (f : Nat) (s : State) : State :=
  let s1 := s.modAdm fun a => { a with freeCount := f }
  if s.adm.mode = .normal ∧ f < s.adm.lw then s1.leaveNormal else s1

/-- A report of a risen free count (R72). -/
def State.reportRise (f : Nat) (s : State) : State :=
  let s1 := s.modAdm fun a => { a with freeCount := f }
  if s.adm.mode ≠ .normal ∧ s.adm.hw ≤ f then s1.openAdmission else s1

/-- What an admission uses of the count in LOW (R70). -/
def State.useAdmit (s : State) : State :=
  if s.adm.mode = .low then
    let s1 := s.modAdm fun a => { a with admits := a.admits - 1 }
    if s1.adm.admits = 0 then s1.closeAdmission else s1
  else s

/-! ## Rules (R66 to R68) -/

/-- The number a rule field tests (R66). -/
def RuleField.number (fl : RuleField) (x : Link) (q : OpenFields) : Nat :=
  match fl with
  | .pageId => q.page
  | .width => q.w
  | .height => q.ht
  | .components => q.c
  | .profile => q.profile
  | .jobTag => q.jobTag
  | .origin => linkCode x

/-- The masked comparison of a rule (R66). -/
def Rule.compares (r : Rule) (x : Link) (q : OpenFields) : Bool :=
  let p := BitVec.ofNat 16 (r.field.number x q) &&& r.mask
  let v := r.value &&& r.mask
  match r.op with
  | .eq => p == v
  | .ne => p != v
  | .gt => decide (v.toNat < p.toNat)
  | .lt => decide (p.toNat < v.toNat)

/-- The groups of rules, given the members of the group begun so far in reverse order (R67). -/
def ruleGroups : List Rule → List Rule → List (List Rule)
  | [], [] => []
  | m :: ms, [] => [(m :: ms).reverse]
  | ms, r :: rest =>
    if r.andNext then ruleGroups (r :: ms) rest else (r :: ms).reverse :: ruleGroups [] rest

/-- A group matches: its leader is enabled and each member matches; a disabled later member counts as matching
(R67). -/
def groupMatches (x : Link) (q : OpenFields) : List Rule → Bool
  | [] => false
  | r :: later => r.enabled && r.compares x q && later.all (fun m => !m.enabled || m.compares x q)

/-- What the rules decide (R68). -/
inductive Decision where
  | refuse
  | accept (cls : Nat) (target : Option Link)
  deriving DecidableEq, Repr

/-- The decision of the first group that matches, or of the default class (R68). -/
def Admission.classify (a : Admission) (x : Link) (q : OpenFields) : Decision :=
  match (ruleGroups [] a.rules.toList).find? (groupMatches x q) with
  | some (r :: _) =>
    match r.action with
    | .refuse => .refuse
    | .cls n => .accept n r.copyTarget
  | _ => if a.defaultClass = 0 then .refuse else .accept a.defaultClass none

/-! ## Settings -/

/-- SET RULE, once taken (R65). -/
def State.serveSetRule (x : Link) (f : Frame) (s : State) : State :=
  match ruleOf f.body with
  | some (n, r) =>
    if h : n < 8 then
      (s.modAdm fun a => { a with rules := a.rules.set n r h }).reply x f (.done .none)
    else s.reply x f (.refused .badRequest)
  | none => s.reply x f (.refused .badRequest)

/-- The command SET_RULE. -/
def execSetRule (x : Link) (s : State) : Result :=
  .next (s.serveShort x (Frame.isKind ReqKind.setRule) (Frame.hasLength 11) (State.serveSetRule x))

/-- SET DEFAULT CLASS, once taken (R69). -/
def State.serveSetDefaultClass (x : Link) (f : Frame) (s : State) : State :=
  let n := field 0 1 f.body
  if n ≤ 4 then (s.modAdm fun a => { a with defaultClass := n }).reply x f (.done .none)
  else s.reply x f (.refused .badRequest)

/-- The command SET_DEFAULT_CLASS. -/
def execSetDefaultClass (x : Link) (s : State) : Result :=
  .next (s.serveShort x (Frame.isKind ReqKind.setDefaultClass) (Frame.hasLength 1) (State.serveSetDefaultClass x))

/-- The watermarks as clamped by R75: low, then high to the pool size, then high to low. -/
def clampWatermarks (pool lw hw : Nat) : Nat × Nat := (min lw pool, max (min hw pool) (min lw pool))

/-- The re-evaluation of the mode against the free count as last reported (R76). -/
def State.reevaluate (s : State) : State :=
  if s.adm.hw ≤ s.adm.freeCount then s.openAdmission
  else if s.adm.mode = .normal ∧ s.adm.freeCount < s.adm.lw then s.leaveNormal
  else s

/-- SET WATERMARKS, once taken (R75). -/
def State.serveSetWatermarks (x : Link) (f : Frame) (s : State) : State :=
  let k := field 4 1 f.body
  if k ≤ 15 then
    let w := clampWatermarks s.size.pool (field 0 2 f.body) (field 2 2 f.body)
    let s1 := (s.modAdm fun a => { a with lw := w.1, hw := w.2, k := k }).reevaluate
    s1.reply x f (.done (.watermarks w.1 w.2 k s1.adm.mode))
  else s.reply x f (.refused .badRequest)

/-- The command SET_WATERMARKS. -/
def execSetWatermarks (x : Link) (s : State) : Result :=
  .next (s.serveShort x (Frame.isKind ReqKind.setWatermarks) (Frame.hasLength 5) (State.serveSetWatermarks x))

end Sys2Proof.Machine
end

