-- ==== Sys2Proof/Machine/Extents.lean ====
section
/-!
DEFINITION. The extent map: takes, returns and the questions of a chain's readers (R100 to R107). Every change of
the free count is reported to the admission block in the event that makes it (R106).
-/
namespace Sys2Proof.Machine

def State.modMap (f : ExtentMap → ExtentMap) (s : State) : State := { s with map := f s.map }

/-- The entry of an extent; FREE entries and extents outside the pool are not listed (R98). -/
def ExtentMap.entry (m : ExtentMap) (e : Nat) : Option Entry := planeGet m.table e

/-- The head of the pool becomes an END entry with this owner and use, and the fall is reported (R100). -/
def State.takeHeadExtent (owner : Nat) (use : ExtentUse) (s : State) : Option (Nat × State) :=
  match s.map.pool with
  | [] => none
  | e :: rest =>
    some (e, (s.modMap fun m => { table := planePut m.table e ⟨.last, owner, use⟩, pool := rest }).reportFall
      rest.length)

/-- The take that names a last extent whose entry is END of the same page and record index is one of a lane
building its chain (R100). -/
def ExtentMap.isChainEnd (m : ExtentMap) (owner index e : Nat) : Bool :=
  match m.entry e with
  | some ⟨.last, o, .payload i _⟩ => o == owner && i == index
  | _ => false

/-- A payload take (R100, R102): `none` when it is refused. -/
def State.takePayload (owner index : Nat) (last : Option Nat) (s : State) : Option (Nat × State) :=
  match last with
  | none => s.takeHeadExtent owner (.payload index true)
  | some l =>
    if s.map.isChainEnd owner index l then
      match s.map.pool with
      | [] => none
      | e :: rest =>
        some (e, (s.modMap fun m =>
          { table := planePut (match m.entry l with
              | some en => planePut m.table l { en with kind := .next e }
              | none => m.table) e ⟨.last, owner, .payload index false⟩,
            pool := rest }).reportFall rest.length)
    else none

/-- The extents of a chain from `e` to its END, at most `n` of them. -/
def ExtentMap.chainFrom (m : ExtentMap) : Nat → Nat → List Nat
  | 0, _ => []
  | n + 1, e =>
    match m.entry e with
    | some ⟨.next e2, _, _⟩ => e :: m.chainFrom n e2
    | some ⟨.last, _, _⟩ => [e]
    | none => []

/-- One extent goes to the tail of the pool, with its report (R103). -/
def State.returnExtent (s : State) (e : Nat) : State :=
  let s1 := s.modMap fun m => { table := planeDrop m.table e, pool := m.pool ++ [e] }
  s1.reportRise s1.map.pool.length

/-- A chain goes to the tail of the pool in chain order (R103); a taker that names nothing returns nothing. -/
def State.returnChain (first : Option Nat) (s : State) : State :=
  match first with
  | none => s
  | some e => (s.map.chainFrom s.map.table.length e).foldl State.returnExtent s

/-- The entry is the first of the chain of this page and record index (R104, R107). -/
def Entry.isFirst (en : Entry) (owner index : Nat) : Bool :=
  en.owner == owner && en.use == .payload index true

/-- Opening a chain (R107): the extent of payload word 0, or none. -/
def ExtentMap.openChain (m : ExtentMap) (owner index first : Nat) : Option Nat :=
  match m.entry first with
  | some en => if en.isFirst owner index then some first else none
  | none => none

/-- Following a chain (R107): the next extent; at END, and outside the chain, none. -/
def ExtentMap.follow (m : ExtentMap) (e : Nat) : Option Nat :=
  match m.entry e with
  | some ⟨.next e2, _, _⟩ => some e2
  | _ => none

/-- The chain a release returns for a record read with this first extent (R104). -/
def ExtentMap.chooseChain (m : ExtentMap) (owner index first : Nat) : Option Nat :=
  match m.openChain owner index first with
  | some e => some e
  | none => (m.table.find? fun p => p.2.isFirst owner index).map Prod.fst

/-- Puts a chain among chains in ascending order of record index. -/
def insertChain (p : Nat × Nat) : List (Nat × Nat) → List (Nat × Nat)
  | [] => [p]
  | q :: rest => if p.1 < q.1 then p :: q :: rest else q :: insertChain p rest

/-- The payload chains still owned by a page, by record index, each with its first extent (R105). -/
def ExtentMap.ownedChains (m : ExtentMap) (owner : Nat) : List (Nat × Nat) :=
  m.table.foldr (fun p l =>
    match p.2.use with
    | .payload i true => if p.2.owner = owner then insertChain (i, p.1) l else l
    | _ => l) []

/-- The header return (R105): the chains still owned, then the header extent. -/
def State.returnHeader (owner header : Nat) (s : State) : State :=
  ((s.map.ownedChains owner).foldl (fun s p => s.returnChain (some p.2)) s).returnExtent header

end Sys2Proof.Machine
end

