-- ==== Sys2Proof/Machine/Table.lean ====
section
/-!
DEFINITION. The TABLE queue (R128): placing, withdrawing and taking the ends of band record operations, and the
DAMAGED mark (R160).
-/
namespace Sys2Proof.Machine

/-- An operation of the press decoder (R128). -/
def TableOp.byPress (op : TableOp) : Bool :=
  match op.client with
  | .press => true
  | .mark _ _ b => b
  | _ => false

/-- The operations of the press decoder stand ahead of all others, each group in the order placed (R128). -/
def queueOp (op : TableOp) (q : List TableOp) : List TableOp :=
  if op.byPress then q.takeWhile TableOp.byPress ++ op :: q.dropWhile TableOp.byPress else q ++ [op]

/-- A granted operation of a lane or of the press decoder is still being made for work that has ended: what the
client takes up next waits for its end with its own operation (R128). Every other client is one piece of work. -/
def State.stillMade (s : State) : Client → Bool
  | .lane l =>
    match s.ctl.burst with
    | some b => !b.live && b.client == some (.lane l)
    | none => false
  | .press =>
    match s.ctl.burst with
    | some b => !b.live && b.client == some .press
    | none => false
  | _ => false

/-- Places an operation, when its client's previous one has ended (R128). -/
def State.placeOp (op : TableOp) (s : State) : State :=
  s.modArb fun a =>
    { a with tableQueue := if s.stillMade op.client then a.tableQueue else queueOp op a.tableQueue,
             deferred := if s.stillMade op.client then a.deferred ++ [op] else a.deferred }

/-- The burst a client waited for has ended: the operation it has ready is placed (R128). -/
def State.placeDeferred (s : State) : State :=
  s.modArb fun a =>
    { a with tableQueue := a.deferred.foldl (fun q op => queueOp op q) a.tableQueue, deferred := [] }

/-- Places a read of `n` records from record `index` on, within one burst. -/
def State.placeRead (c : Client) (header index n : Nat) (checked : Bool) (s : State) : State :=
  s.placeOp ⟨c, recordBurst header index, .read (recordMask index n) checked⟩

/-- Places a write of one record. -/
def State.placeRecord (c : Client) (header index : Nat) (r : BandRecord) (s : State) : State :=
  s.placeOp ⟨c, recordBurst header index, .write (recordData index r) (recordMask index 1)⟩

/-- The burst in progress no longer serves this work (R116). -/
def State.disown (mine : Burst → Bool) (s : State) : State :=
  s.modCtl fun c =>
    { c with burst := c.burst.map fun b => if mine b then { b with live := false } else b }

/-- The operation is a copy stream's record read, of this link. -/
def Client.isCopy (x : Link) : Client → Bool
  | .copy y _ => y == x
  | _ => false

/-- A client whose work has ended withdraws its operation; one granted is made whole (R127, R128). A signal of a read that
has ended set its flag at the end of the burst (R161, log 22); that the failure counts no damage event (R159) where the
read's end step does not come is the model's choice (log 61). -/
def State.withdraw (c : Client) (s : State) : State :=
  (s.modArb fun a =>
    { a with tableQueue := a.tableQueue.filter (fun op => op.client != c),
             deferred := a.deferred.filter (fun op => op.client != c),
             tableEnds := a.tableEnds.filter (fun e => e.op.client != c) }).disown (fun b => b.client == some c)

/-- The earliest ended operation of a client, taken by its end step. -/
def State.takeEnd (mine : Client → Bool) (s : State) : Option (TableEnd × State) :=
  match s.arb.tableEnds.find? (fun e => mine e.op.client) with
  | some e => some (e, s.modArb fun a => { a with tableEnds := a.tableEnds.erase e })
  | none => none

/-- A failure a consumer finds in the payload of a band-component (R159, R160, R169): the mark if the record was
read STORED, and the damage event. -/
def State.payloadDamage (page index : Nat) (r : BandRecord) (byPress : Bool) (s : State) : State :=
  let s1 := match s.page page with
    | some p =>
      if r.state = RecState.stored then
        s.placeRecord (.mark page index byPress) p.header index { r with state := .damaged }
      else s
    | none => s
  s1.damageEvent page

end Sys2Proof.Machine
end

