-- ==== Sys2Proof/Machine/PressEngine.lean ====
section
/-!
DEFINITION. The press decoder (R146 to R148, R162 to R164), the press states and urgency (R149, R150), the
schedule's removals (R141, R142), and the flush and restart of R156 and R157.
-/
namespace Sys2Proof.Machine

/-! ## The schedule and the FIFO -/

/-- The head entry (R139). -/
def PressFeed.head (f : PressFeed) : Option PrintEntry := f.schedule.head?

/-- The head sheet (R139): the sheet whose copy number is the head entry's copies remaining. -/
def PressFeed.headSheet (f : PressFeed) : Option SheetId := f.head.map fun e => ⟨e.serial, e.copies⟩

/-- The entry that follows the entry of this serial number, removed or not: serials rise along the schedule. -/
def PressFeed.entryAfter (f : PressFeed) (serial : Nat) : Option PrintEntry :=
  f.schedule.find? fun e => decide (serial < e.serial)

/-- The words of the lines held (R145). -/
def PressFeed.fifoWords (f : PressFeed) : Nat := (f.fifo.map fun l => l.words.length).sum

/-- The FIFO's room while no row is in progress (R145). -/
def PressFeed.room (f : PressFeed) : Nat := Config.fifoWords - f.fifoWords

/-- The settings a sheet latched (R143). -/
def PressFeed.latched (f : PressFeed) (sh : SheetId) : Option PressSettings :=
  (f.latches.find? fun l => l.sheet == sh).map Latch.settings

/-- A sheet latches the settings in force (R143). -/
def PressFeed.latch (f : PressFeed) (sh : SheetId) : PressFeed :=
  { f with latches := f.latches.filter (fun l => l.sheet != sh) ++ [⟨sh, f.settings⟩] }

/-! ## Press states and urgency (R149, R150) -/

/-- The threshold T of a page under these settings (R149). -/
def pressThreshold (t : PressSettings) (p : Page) : Nat := min t.p (min p.ht (Config.fifoWords / p.lineWords))

/-- The state the tests of R149 give outside SHEET. -/
def State.pressTested (s : State) : PressState :=
  match s.press.head with
  | none => .idle
  | some e =>
    match s.page e.page with
    | none => .idle
    | some p =>
      if p.state = .sealed then
        let sh : SheetId := ⟨e.serial, e.copies⟩
        match s.press.latched sh with
        | none => .preroll
        | some t =>
          if pressThreshold t p ≤ (s.press.fifo.filter fun l => l.sheet == sh).length then .ready else .preroll
      else .idle

/-- The urgent level in force for the head sheet (R150). -/
def PressFeed.urgentLevel (f : PressFeed) : Nat :=
  match f.headSheet with
  | none => f.settings.u
  | some sh => ((f.latched sh).getD f.settings).u

/-- Press urgent (R132, R150). -/
def PressFeed.urgent (f : PressFeed) : Bool := f.state != .idle && decide (f.fifo.length < f.urgentLevel)

/-- The tests of R149 outside SHEET, then the report of R150. -/
def State.testPress (s : State) : State :=
  let s1 := if s.press.state = .sheet then s else s.modPress fun f => { f with state := s.pressTested }
  s1.modArb fun a => { a with pressUrgent := s1.press.urgent }

/-! ## The press decoder -/

/-- The page and its profile of the decoder's position. -/
def State.pressPage (s : State) : Option (DecPos × Page) :=
  match s.press.pos with
  | some d => (s.page d.page).map fun p => (d, p)
  | none => none

/-- The number of records from `index` on that lie in its burst, of `n` wanted (R147). -/
def recordsInBurst (index n : Nat) : Nat := min n (4 - index % 4)

/-- Begins a band (R147): places the read of the first of its record bursts. -/
def State.pressBand (s : State) : State :=
  let s1 := s.modPress fun f => { f with comps := [], row := none, decState := .decoding }
  match s.pressPage with
  | some (d, p) => s1.placeRead .press p.header (d.band * p.c) (recordsInBurst (d.band * p.c) p.c) true
  | none => s1

/-- The decoder becomes STOPPED (R146). -/
def State.pressStop (s : State) : State :=
  s.modPress fun f => { f with decState := .stopped, pos := none, comps := [], row := none }

/-- The decoder comes to the first sheet of an entry (R146), or stops. -/
def State.pressEnter (e : Option PrintEntry) (s : State) : State :=
  match e with
  | none => s.pressStop
  | some e =>
    let s1 := s.modPress fun f =>
      { f with pos := some ⟨⟨e.serial, e.copies⟩, e.page, e.link, 0, 0⟩, comps := [], row := none,
               decState := .waitSeal }
    if s.pageIs e.page .sealed then
      (s1.modPress fun f =>
        { f with schedule := f.schedule.map fun q => if q.serial = e.serial then { q with active := true } else q
        }).pressBand
    else s1

/-- The effects of a failure of one band-component in a sheet (R162, R163, R169). A payload failure in a record
read DAMAGED places no notice. -/
def State.pressDamage (d : DecPos) (comp : Nat) (cause : Detail) (row : Nat) (record : Option BandRecord)
    (c : Nat) (s : State) : State :=
  let notice := Notice.bandDamaged d.page d.band comp d.sheet.copy cause row
  match record with
  | none => (s.damageEvent d.page).notify d.link notice
  | some r =>
    let s1 := s.payloadDamage d.page (d.band * c + comp) r true
    if r.state = RecState.stored then s1.notify d.link notice else s1

/-- A band-component whose decoding has delivered a row: complete with its last one (R23), its context discarded
(R3). -/
def PressComp.after (r : BandRecord) (k : Decoder) : PressComp :=
  if k.ctx.hr ≤ k.ctx.row then .complete else .decoding r k

/-- Begins the next row if the room covers its line, else WAIT_ROOM (R148). The first row of a sheet latches the
settings in force (R143). -/
def State.pressRowBegin (s : State) : State :=
  match s.pressPage with
  | none => s
  | some (d, p) =>
    if p.lineWords ≤ s.press.room then
      let s1 := s.modPress fun f => { f with row := some [], decState := .decoding }
      if d.band = 0 ∧ d.row = 0 then s1.modPress fun f => f.latch d.sheet else s1
    else s.modPress fun f => { f with row := none, decState := .waitRoom }

/-- Decodes the row in progress as far as the words read allow (R148), component by component; `n` bounds the components
still to do. A failing component holds its last delivered row, or zeros (R162), and its context is discarded (R3). A
component whose chain did not open fails here, when row 0 has begun and comes to it (log 53). -/
def State.pressAdvance : Nat → State → State
  | 0, s => s
  | n + 1, s =>
    match s.press.row, s.pressPage with
    | some rows, some (d, p) =>
      match s.press.comps[rows.length]? with
      | none => s
      | some .complete => s
      | some (.held h) => State.pressAdvance n (s.modPress fun f => { f with row := some (rows ++ [h]) })
      | some (.decoding r k) =>
        match k.runRow with
        | (dec, .needWords) =>
          s.modPress fun f => { f with comps := f.comps.set rows.length (.decoding r dec) }
        | (dec, .rowDone) =>
          State.pressAdvance n (s.modPress fun f =>
            { f with comps := f.comps.set rows.length (PressComp.after r dec),
                     row := some (rows ++ [dec.lastRow.getD []]) })
        | (dec, .failed cause) =>
          let h := dec.lastRow.getD (List.replicate p.w 0)
          let s1 := s.modPress fun f =>
            { f with comps := f.comps.set rows.length (.held h), row := some (rows ++ [h]) }
          State.pressAdvance n (s1.pressDamage d rows.length cause d.row (some r) p.c)
    | _, _ => s

/-- Decodes the row in progress until it wants words or its C rows are complete (R148). -/
def State.pressRun (s : State) : State :=
  match s.pressPage with
  | some (_, p) => s.pressAdvance p.c
  | none => s

/-- Begins the next row if there is room, and decodes it as far as the words held allow (R148). -/
def State.pressRow (s : State) : State := s.pressRowBegin.pressRun

/-- A decoder in WAIT_ROOM begins its row when enough room is free (R148). -/
def State.pressRoomFreed (s : State) : State := if s.press.decState = .waitRoom then s.pressRow else s

/-- One band record of a band as the press decoder takes it (R147, R163). -/
def State.pressTakeRecord (d : DecPos) (p : Page) (ws : List ReadWord) (s : State) (comp : Nat) : State :=
  let index := d.band * p.c + comp
  let hr := s.rowsOf p d.band
  let r := readRecord index ws
  let form : Form := if r.1.mode = .raw then .raw else .coded
  if r.2 = true ∨ r.1.state = .pending then
    (s.modPress fun f => { f with comps := f.comps ++ [.held (List.replicate p.w 0)] }).pressDamage
      d comp .record 0 none p.c
  else
    s.modPress fun f =>
      { f with comps := f.comps ++ [.decoding r.1 ⟨Context.fresh (s.profileOf p) p.w hr form, r.1.words, 0,
          s.map.openChain p.id index r.1.first, []⟩] }

/-- The press decoder's record read has ended (R147): its records are taken, then the second burst is read if the
records straddle two, or the band's first row begins. -/
def State.pressRecords (e : TableEnd) (s : State) : State :=
  match s.pressPage with
  | none => s
  | some (d, p) =>
    let k := s.press.comps.length
    let n := recordsInBurst (d.band * p.c + k) (p.c - k)
    let s1 := (List.range' k n).foldl (State.pressTakeRecord d p e.words) s
    if k + n < p.c then
      s1.placeRead .press p.header (d.band * p.c + k + n) (recordsInBurst (d.band * p.c + k + n) (p.c - k - n)) true
    else s1.pressRow

/-- The next word of the component being decoded, to be read as a PRESS burst: address and bytes taken. -/
def Decoder.nextRead (k : Decoder) : Option (Nat × BitVec 32) :=
  match k.ext with
  | some e =>
    if k.fetched < k.words then
      some (e * Config.extentWords + k.fetched % Config.extentWords, wordsMask (k.words - k.fetched))
    else none
  | none => none

/-- The words of a payload burst join the bits of a decoding; at the end of an extent the chain is followed. -/
def Decoder.feed (m : ExtentMap) (k : Decoder) (ws : List ReadWord) : Decoder :=
  let n := min 8 (k.words - k.fetched)
  let at_ := k.fetched + n
  { k with fetched := at_, buf := k.buf ++ (ws.take n).flatMap readBits,
           ext := if at_ % Config.extentWords = 0 ∧ at_ < k.words then k.ext.bind m.follow else k.ext }

/-- The end of a PRESS burst (R147). -/
def State.pressFeed (ws : List ReadWord) (s : State) : State :=
  match s.press.row, s.pressPage with
  | some rows, some _ =>
    match s.press.comps[rows.length]? with
    | some (.decoding r k) =>
      (s.modPress fun f =>
        { f with comps := f.comps.set rows.length (.decoding r (k.feed s.map ws)) }).pressRun
    | _ => s
  | _, _ => s

/-- The decoding whose payload the row in progress needs next (R148). -/
def PressFeed.reading (f : PressFeed) : Option Decoder :=
  match f.row with
  | some rows =>
    match f.comps[rows.length]? with
    | some (.decoding _ k) => some k
    | _ => none
  | none => none

/-- The print ref that an ended sheet kept for the rows it still owed falls when the decoder finishes its last row, or
owes them no more (R28, R155, log 20). -/
def State.dropOwed (s : State) : State :=
  match s.press.owedRef with
  | some id => (s.modPress fun f => { f with owedRef := none }).dropPrintRef id
  | none => s

/-- The decoder moves on from the sheet it has finished (R146), of which no rows are owed any more (R155). -/
def State.pressMoveOn (d : DecPos) (s : State) : State :=
  if 1 < d.sheet.copy then
    (s.dropOwed.modPress fun f =>
      { f with pos := some { d with sheet := ⟨d.sheet.serial, d.sheet.copy - 1⟩, band := 0, row := 0 } }).pressBand
  else s.dropOwed.pressEnter (s.press.entryAfter d.sheet.serial)

/-- The line of the complete row in progress (R144): in the sheet's latched component order. -/
def State.pressLine (d : DecPos) (p : Page) (rows : List (List Nat)) (s : State) : FifoLine :=
  let o := ((s.press.latched d.sheet).getD s.press.settings).order
  ⟨d.sheet, d.band * (s.profileOf p).hb + d.row, pairWords (lineSamples o p.w rows)⟩

/-- A line enters the FIFO at the tail, in its place (R145, R148). Its row has begun only with room for it, so the
test for room fails on no run. -/
def PressFeed.enterLine (f : PressFeed) (line : FifoLine) : PressFeed :=
  { f with row := none, fifo := if line.words.length ≤ f.room then f.fifo ++ [line] else f.fifo }

/-- The finish of a line (R148): it enters the FIFO or is discarded by the skip count; then the decoder begins the next
row, the next band or the next sheet. -/
def State.pressFinish (d : DecPos) (p : Page) (rows : List (List Nat)) (s : State) : State :=
  let line := s.pressLine d p rows
  let s1 := s.modPress fun f =>
    if 0 < f.skip then { f with row := none, skip := f.skip - 1 } else f.enterLine line
  let s2 :=
    if d.row + 1 < s.rowsOf p d.band then
      (s1.modPress fun f => { f with pos := some { d with row := d.row + 1 } }).pressRow
    else if d.band + 1 < p.b then
      (s1.modPress fun f => { f with pos := some { d with band := d.band + 1, row := 0 } }).pressBand
    else s1.pressMoveOn d
  s2.testPress

/-- The row in progress whose C rows are complete, so that its line's finish is due (R148). -/
def State.lineDue (s : State) : Option (DecPos × Page × List (List Nat)) :=
  match s.press.row, s.pressPage with
  | some rows, some (d, p) => if rows.length = p.c then some (d, p, rows) else none
  | _, _ => none

/-! ## The decoder's steps that a burst's end makes due (R132, R134) -/

/-- Takes the record read of the press decoder that has ended, if one has (R147). -/
def State.pressTakeEnd (s : State) : State :=
  match s.takeEnd (· == .press) with
  | some (e, s1) => s1.pressRecords e
  | none => s

/-- Finishes the lines that are due, at most `n` (R148). -/
def State.finishDue : Nat → State → State
  | 0, s => s
  | n + 1, s =>
    match s.lineDue with
    | some (d, p, rows) => State.finishDue n (s.pressFinish d p rows)
    | none => s

/-- The steps of the press decoder that are due at the end of a burst, made before the decision that ends it (log 52).
The lines that are complete, of the rows of one band at most, are finished, so that the decoder with room for its next
row presents that row's burst there, and its RUN or URGENT stretch goes on (R132, R134). While press urgent is yes its
ended record read is taken first. -/
def State.pressDue (s : State) : State :=
  let s1 := if s.arb.pressUrgent then s.pressTakeEnd else s
  match s1.pressPage with
  | some (d, p) => s1.finishDue (s1.rowsOf p d.band)
  | none => s1

/-! ## Restart (R141, R156, R157) -/

/-- The press decoder's waiting store requests are withdrawn, the row in progress is abandoned with its place, and no rows
of an ended sheet are owed any more (log 20). DAMAGED marks stay. -/
def State.pressHalt (s : State) : State :=
  (((s.withdraw .press).disown (fun b => b.req == .press)).modPress fun f =>
    { f with row := none, comps := [], skip := 0 }).dropOwed

/-- Entries of serial `k` and beyond return to WAITING, and their sheets lose their latched settings and their
lines. -/
def PressFeed.cutFrom (f : PressFeed) (k : Nat) : PressFeed :=
  { f with schedule := f.schedule.map fun q => if k ≤ q.serial then { q with active := false } else q,
           latches := f.latches.filter fun l => decide (l.sheet.serial < k),
           fifo := f.fifo.filter fun l => decide (l.sheet.serial < k) }

/-- The flush and restart of R156 and R157: every line goes, the sheet printing ends uncounted, and the decoder restarts
at the head sheet. The report of urgency comes before the grant (log 50). -/
def State.pressRestart (s : State) : State :=
  let s1 := s.pressHalt.modPress fun f =>
    { f.cutFrom 0 with fifo := [], delivered := 0, last := none, state := .idle }
  (s1.pressEnter s1.press.head).testPress

/-! ## Removal of entries (R141, R142) -/

/-- The decoder moves on if it was in WAIT_SEAL on an entry that is no longer in the schedule. -/
def State.pressPassRemoved (s : State) : State :=
  match s.press.decState, s.press.pos with
  | .waitSeal, some d =>
    if s.press.schedule.any (fun e => e.serial == d.sheet.serial) then s
    else s.pressEnter (s.press.entryAfter d.sheet.serial)
  | _, _ => s

/-- Removes one entry (R141): its print ref falls; an ACTIVE one has its lines cut back and the decoder restarted at the
entry that followed. The report of urgency comes before the grant (log 50). -/
def State.cancelEntry (e : PrintEntry) (s : State) : State :=
  let s1 := (s.modPress fun f => { f with schedule := f.schedule.filter fun q => q.serial != e.serial }).dropPrintRef
    e.page
  let s2 :=
    if e.active then
      let s3 := s1.pressHalt.modPress fun f => f.cutFrom e.serial
      s3.pressEnter (s3.press.entryAfter e.serial)
    else s1.pressPassRemoved
  s2.testPress

/-- Page failure removes the page's entries (R38, R142): PRINT DROPPED to each requesting link, print refs 0. -/
def State.dropEntries (page : Nat) (s : State) : State :=
  let gone := s.press.schedule.filter fun e => e.page == page
  let s1 := (s.modPress fun f => { f with schedule := f.schedule.filter fun e => e.page != page }).modPage page
    fun p => { p with printRefs := 0 }
  (gone.foldl (fun s e => s.notify e.link (.printDropped page)) s1).pressPassRemoved.testPress

/-- A page has sealed (R37, R146): the decoder that waits on it resumes, and the press state is tested. The report of
urgency comes before the grant (log 50). -/
def State.pressSealed (page : Nat) (s : State) : State :=
  let s1 := match s.press.decState, s.press.pos with
    | .waitSeal, some d =>
      if d.page = page then s.pressEnter (s.press.schedule.find? fun e => e.serial == d.sheet.serial) else s
    | _, _ => s
  s1.testPress

end Sys2Proof.Machine
end

