-- ==== Sys2Proof/Machine/Jobs.lean ====
section
/-!
DEFINITION. The intake slots as their jobs end (R56, R58, R60), and the dispatcher: hash, queues, pending-issue
lists and the taking of jobs (R78 to R85, R95).
-/
namespace Sys2Proof.Machine

/-! ## Slots (R54, R56, R58, R60) -/

/-- A slot becomes EMPTY; RESUME if hold is in force, which then ceases (R56, R58). -/
def State.emptySlot (x : Link) (t : SlotId) (s : State) : State :=
  let s1 := s.modIntake x fun i => { i with slots := i.slots.set t Slot.initial, hold := false }
  if (s.intake x).hold then s1.notify x .resume else s1

/-- One ENCODE job of a slot has ended (R56). -/
def State.slotJobEnd (x : Link) (t : SlotId) (s : State) : State :=
  let slot := (s.intake x).slots.get t
  if slot.jobs ≤ 1 then s.emptySlot x t
  else s.modIntake x fun i => { i with slots := i.slots.set t { slot with jobs := slot.jobs - 1 } }

/-- A slot FILLING with a page that has ceased to be the intake page becomes EMPTY at once (R60). -/
def State.emptyFilling (x : Link) (page : Nat) (s : State) (t : SlotId) : State :=
  let slot := (s.intake x).slots.get t
  if slot.state = .filling ∧ slot.page = some page then s.emptySlot x t else s

/-- The page ceases to be the intake page of a link, if it is (R47, R60): the effects of a frame being written
are void (R53). -/
def State.ceaseIntake (page : Nat) (s : State) (x : Link) : State :=
  if (s.intake x).page = some page then
    let s1 := s.modIntake x fun i =>
      { i with page := none, frame := i.frame.map fun f => { f with void := true } }
    [SlotId.s0, SlotId.s1].foldl (State.emptyFilling x page) s1
  else s

/-! ## Choosing a lane (R80) -/

/-- The hash of a band-component (R80). -/
def jobHash (page band comp : Nat) : Nat := (5 * page + 3 * band + comp) % 32

/-- The destined lane of a band-component (R80). -/
def Dispatcher.destined (d : Dispatcher) (page band comp : Nat) : Lane :=
  d.table.toList.getD (jobHash page band comp % 2 ^ d.tableBits) .l0

/-! ## Queues (R82, R84, R85) -/

/-- The pending-issue list of a slot. -/
def Dispatcher.pending (d : Dispatcher) (x : Link) (t : SlotId) : List Job := (d.pendings.get x).get t

def Dispatcher.setPending (d : Dispatcher) (x : Link) (t : SlotId) (l : List Job) : Dispatcher :=
  { d with pendings := d.pendings.set x ((d.pendings.get x).set t l) }

/-- The jobs of the four pending-issue lists. -/
def Dispatcher.allPending (d : Dispatcher) : List Job :=
  d.pending .a .s0 ++ d.pending .a .s1 ++ d.pending .b .s0 ++ d.pending .b .s1

/-- The pending-issue lists with some jobs left out. -/
def Dispatcher.filterPending (keep : Job → Bool) (d : Dispatcher) : Dispatcher :=
  { d with pendings := ⟨⟨(d.pending .a .s0).filter keep, (d.pending .a .s1).filter keep⟩,
                        ⟨(d.pending .b .s0).filter keep, (d.pending .b .s1).filter keep⟩⟩ }

/-- The job that stands first in an order. -/
def firstJob (before : Job → Job → Bool) : List Job → Option Job
  | [] => none
  | j :: rest =>
    match firstJob before rest with
    | none => some j
    | some k => if before k j then some k else some j

/-- Lower class number first, then earlier arrival (R85). -/
def Job.ahead (j k : Job) : Bool :=
  decide (j.cls < k.cls) || (j.cls == k.cls && decide (j.arrival < k.arrival))

/-- Earlier arrival (R84). -/
def Job.earlier (j k : Job) : Bool := decide (j.arrival < k.arrival)

/-- A place freed in a lane's queue goes to the earliest pending job destined for the lane (R84). -/
def State.movePending (l : Lane) (s : State) : State :=
  if Config.laneQueuePlaces ≤ (s.disp.queues.get l).length then s
  else
    match firstJob Job.earlier (s.disp.allPending.filter fun j => j.lane == l) with
    | none => s
    | some j =>
      s.modDisp fun d =>
        { d.filterPending (fun k => k.arrival != j.arrival) with
          queues := d.queues.set l (d.queues.get l ++ [j]) }

/-- A new ENCODE run (R87, R88): no word written, no extent taken. -/
def State.newRun (s : State) (j : Job) : EncodeRun :=
  match s.page j.page with
  | some p =>
    let hr := s.rowsOf p j.band
    { phase := .coding, ctx := Context.fresh (s.profileOf p) p.w hr .coding, left := hr * p.w, out := [],
      words := 0, first := none, last := none, taken := 0 }
  | none =>
    { phase := .coding, ctx := Context.fresh Profile.initial 1 1 .coding, left := 0, out := [],
      words := 0, first := none, last := none, taken := 0 }

/-- The record index of a job's band-component (R30). -/
def State.jobIndex (s : State) (j : Job) : Nat :=
  match s.page j.page with
  | some p => j.band * p.c + j.comp
  | none => 0

/-- A lane begins a job (R85, R87, R92): the page's work in flight rises; a PROOF job places its record read. -/
def State.startJob (l : Lane) (j : Job) (s : State) : State :=
  let s1 := s.modPage j.page fun p => { p with work := p.work + 1 }
  match j.source with
  | .slot _ _ => s1.setLane l (.encoding j (s.newRun j))
  | .request _ _ _ =>
    let s2 := s1.setLane l (.decoding j .recordRead)
    match s.page j.page with
    | some p => s2.placeRead (.lane l) p.header (s.jobIndex j) 1 true
    | none => s2

/-- An IDLE lane takes a job from its queue if it holds one (R85); the place it frees is handed on (R84). -/
def State.laneTake (l : Lane) (s : State) : State :=
  match s.lane l with
  | .idle =>
    match firstJob Job.ahead (s.disp.queues.get l) with
    | none => s
    | some j =>
      ((s.modDisp fun d =>
        { d with queues := d.queues.set l ((d.queues.get l).filter fun k => k.arrival != j.arrival) }).startJob l
          j).movePending l
  | _ => s

/-- A lane has ended its job: it takes the next or becomes IDLE (R85). -/
def State.laneFree (l : Lane) (s : State) : State := (s.setLane l .idle).laneTake l

/-- The dispatcher takes an ENCODE job (R78, R82). -/
def State.dispatchEncode (p : Page) (band : Nat) (x : Link) (t : SlotId) (s : State) (comp : Nat) : State :=
  let l := s.disp.destined p.id band comp
  let j : Job := ⟨p.id, band, comp, p.cls, .slot x t, l, s.disp.nextArrival⟩
  let s1 := s.modDisp fun d => { d with nextArrival := d.nextArrival + 1 }
  if (s.disp.queues.get l).length < Config.laneQueuePlaces then
    (s1.modDisp fun d => { d with queues := d.queues.set l (d.queues.get l ++ [j]) }).laneTake l
  else s1.modDisp fun d => d.setPending x t (d.pending x t ++ [j])

/-! ## Jobs removed (R95, R96) -/

/-- What the removal of one job brings about: a job end at its slot, or its reply. -/
def State.removedJob (code : Refuse) (s : State) (j : Job) : State :=
  match j.source with
  | .slot x t => s.slotJobEnd x t
  | .request x k _ => s.answer x k (.refused code)

/-- The places freed in a lane's queue, one pending job for each (R84). -/
def State.movePendings (l : Lane) : Nat → State → State
  | 0, s => s
  | n + 1, s => State.movePendings l n (s.movePending l)

/-- Removes jobs from the queues and the pending-issue lists, without the consequences at slots and links; the
places freed are handed on. -/
def State.takeOutJobs (gone : Job → Bool) (s : State) : State :=
  let s1 := s.modDisp fun d =>
    { d.filterPending (fun j => !gone j) with
      queues := ⟨d.queues.f0.filter (fun j => !gone j), d.queues.f1.filter (fun j => !gone j),
                 d.queues.f2.filter (fun j => !gone j), d.queues.f3.filter (fun j => !gone j)⟩ }
  allLanes.foldl (fun t l => t.movePendings l ((s.disp.queues.get l).filter gone).length) s1

/-- The jobs that wait anywhere, the queues first. -/
def Dispatcher.waiting (d : Dispatcher) : List Job :=
  d.queues.f0 ++ d.queues.f1 ++ d.queues.f2 ++ d.queues.f3 ++ d.allPending

/-- Removes every waiting job of a page (R95): ENCODE ends reported, PROOF requests answered with `code`. -/
def State.removeJobs (page : Nat) (code : Refuse) (s : State) : State :=
  let gone := s.disp.waiting.filter fun j => j.page == page
  gone.foldl (State.removedJob code) (s.takeOutJobs fun j => j.page == page)

end Sys2Proof.Machine
end

