-- ==== Sys2Proof/Machine/PageLife.lean ====
section
/-!
DEFINITION. What happens to pages: work in flight and the release (R29, R41, R42), failure (R38, R39), sealing
and the copy stream (R37, R180).
-/
namespace Sys2Proof.Machine

/-- The release of a page begins (R42): its first record is read, not checked. -/
def State.beginRelease (page : Nat) (s : State) : State :=
  let s1 := s.modDir fun d =>
    { d with releases := d.releases.map fun r => if r.page = page then { r with running := true } else r }
  match s.page page with
  | some p => s1.placeRead (.release page) p.header 0 1 false
  | none => s1

/-- One operation on the page's extents has ended (R29); the last one of a RETIRING page begins the release (R41). -/
def State.endWork (page : Nat) (s : State) : State :=
  let s1 := s.modPage page fun p => { p with work := p.work - 1 }
  match s1.page page with
  | some p => if p.state = .retiring ∧ p.work = 0 then s1.beginRelease page else s1
  | none => s1

/-- A page may still fail: OPENING, FILLING or CODING (R38). -/
def Page.canFail (p : Page) : Bool := p.state == .opening || p.state == .filling || p.state == .coding

/-- A failure event of a page (R38, R39). The PAGE FAILED notice is the last effect placed, but the first after a
link reset (R45, log 17). -/
def State.failPage (page : Nat) (cause : FailCause) (s : State) : State :=
  match s.page page with
  | none => s
  | some p =>
    if p.canFail then
      let notice := Notice.pageFailed page cause
      let s0 := if cause = .linkReset then s.notify p.origin notice else s
      let s1 := s0.modPage page fun q => { q with state := .failed, cause := some cause, nextPixel := none }
      let s2 := [Link.a, Link.b].foldl (State.ceaseIntake page) s1
      let s3 := (s2.removeJobs page .pageState).dropEntries page
      if cause = .linkReset then s3 else s3.notify p.origin notice
    else s

/-- A stream of a page joins the tail of a link's list (R179, R180); the page's stream refs rises. -/
def State.addStream (x : Link) (page : Nat) (mk : Nat → Stream) (s : State) : State :=
  let s1 := s.modPage page fun p => { p with streamRefs := p.streamRefs + 1 }
  { s1.modLink x fun c => ({ c with streams := c.streams ++ [mk s.nextTicket] } : LinkCtl).noteWait with
    nextTicket := s.nextTicket + 1 }

/-- A page seals (R37): PAGE SEALED, the copy stream, the press feed. -/
def State.sealPage (p : Page) (s : State) : State :=
  let s1 := (s.modPage p.id fun q => { q with state := .sealed }).notify p.origin (.pageSealed p.id)
  let s2 := match p.copyTarget with
    | some y => s1.addStream y p.id fun k => ⟨k, .copy, p.id, p.c, 0, p.records, none, 0, none, 0, 0⟩
    | none => s1
  s2.pressSealed p.id

/-- A band record has been written STORED (R31, R89): the stored count rises, and a CODING page whose count reaches
B·C seals (R37). -/
def State.recordStored (page : Nat) (s : State) : State :=
  let s1 := s.modPage page fun p => { p with stored := p.stored + 1 }
  match s1.page page with
  | some p => if p.state = .coding ∧ p.stored = p.records then s1.sealPage p else s1
  | none => s1

/-- The page has been removed: the band record reads of it that are in progress find it gone (R178). -/
def LinkCtl.pageGone (page : Nat) (c : LinkCtl) : LinkCtl :=
  { c with recordReads := c.recordReads.map fun q => if q.page = page then { q with gone := true } else q }

/-- The end of a release (R42, R105): headers and chains back, the profile's use falls, the page leaves the
directory, RETIRE PAGE is answered. -/
def State.endRelease (r : Release) (p : Page) (s : State) : State :=
  let s1 := s.returnHeader p.id p.header
  let s2 := s1.modDir fun d =>
    { d with pages := d.pages.filter fun q => q.id != p.id,
             releases := d.releases.filter fun q => q.page != p.id,
             profiles := if h : p.profile < 8 then
                 d.profiles.set p.profile
                   { d.profiles[p.profile] with uses := d.profiles[p.profile].uses - 1 } h
               else d.profiles }
  let s3 := (s2.modLink .a (LinkCtl.pageGone p.id)).modLink .b (LinkCtl.pageGone p.id)
  s3.answer r.link r.ticket (.done .none)

end Sys2Proof.Machine
end

