-- ==== Sys2Proof/Machine/LaneEngine.lean ====
section
/-!
DEFINITION. What a lane does between its bursts: the ENCODE job (R87 to R91) and the PROOF job (R92 to R94, R96,
R165).
-/
namespace Sys2Proof.Machine

/-! ## The ENCODE job -/

/-- The word address of the plane of a component in a slot (R51). -/
def planeBase (x : Link) (t : SlotId) (comp : Nat) : Nat :=
  (128 * linkCode x + (match t with | .s0 => 0 | .s1 => 64) + 16 * comp) * Config.extentWords

/-- The two samples of a word: the low d bits of each half, the upper half first (R87). -/
def wordSamples (d : Nat) (w : Word) : List Nat :=
  [(w.extractLsb' 16 16).toNat % 2 ^ d, (w.extractLsb' 0 16).toNat % 2 ^ d]

/-- A whole burst is ready to be written, or the last of the payload (R88). -/
def EncodeRun.wantsWrite (r : EncodeRun) : Bool :=
  decide (256 ≤ r.out.length) || (r.left == 0 && !r.out.isEmpty)

/-- The encoding has run to its end: the last payload word is written (R89). -/
def EncodeRun.finished (r : EncodeRun) : Bool :=
  r.phase != .recording && r.left == 0 && r.out.isEmpty

/-- The extent of the next payload word: number `words / 16384` of the chain (R88). -/
def EncodeRun.writeExtent (m : ExtentMap) (r : EncodeRun) : Option Nat :=
  match r.first with
  | some e => (m.chainFrom (r.words / Config.extentWords + 1) e)[r.words / Config.extentWords]?
  | none => none

/-- The address and data of the next payload burst: zero words after the last payload word (R88). -/
def EncodeRun.nextWrite (m : ExtentMap) (r : EncodeRun) : Option (Nat × List Word) :=
  (r.writeExtent m).map fun e =>
    (e * Config.extentWords + r.words % Config.extentWords, packBits 8 (r.out.take 256))

/-- The samples of a job's band-component. -/
def EncodeRun.samples (r : EncodeRun) : Nat := r.ctx.hr * r.ctx.w

/-- The address of the next slot read, 16 samples to a burst, and the bytes taken (R87, R116). -/
def EncodeRun.nextRead (r : EncodeRun) (x : Link) (t : SlotId) (comp : Nat) : Nat × BitVec 32 :=
  (planeBase x t comp + 8 * ((r.samples - r.left) / 16),
   if 16 ≤ r.left then wordsMask 8
   else if r.left % 2 = 0 then wordsMask (r.left / 2)
   else wordsMask (r.left / 2) ||| BitVec.ofNat 32 (12 * 2 ^ (4 * (r.left / 2))))

/-- The job's end is reported to its slot, the page's work in flight falls and the lane goes on (R89 to R91). -/
def State.encodeOver (l : Lane) (j : Job) (s : State) : State :=
  let s1 := match j.source with
    | .slot x t => s.slotJobEnd x t
    | .request _ _ _ => s
  (s1.endWork j.page).laneFree l

/-- An ENCODE job fails (R90): its chain returns, the page fails unless R39 holds, and the job ends. -/
def State.encodeFail (l : Lane) (j : Job) (r : EncodeRun) (cause : FailCause) (s : State) : State :=
  ((s.returnChain r.first).failPage j.page cause).encodeOver l j

/-- Takes the extent that the next payload burst touches, if the chain does not reach it yet; a refused take fails
the job (R88, R90, R100). -/
def State.encodeSettle (l : Lane) (j : Job) (r : EncodeRun) (s : State) : State :=
  if r.wantsWrite = true ∧ r.taken ≤ r.words / Config.extentWords then
    match s.takePayload j.page (s.jobIndex j) r.last with
    | some (e, s1) =>
      s1.setLane l (.encoding j
        { r with first := some (r.first.getD e), last := some e, taken := r.taken + 1 })
    | none => s.encodeFail l j r .storeFull
  else s.setLane l (.encoding j r)

/-- The samples of a slot burst are coded, or written raw; a code that would exceed the raw size makes the lane
rewrite from the first sample (R15, R88), its context ABANDONED as the sample before left it. -/
def EncodeRun.feed (r : EncodeRun) (ws : List ReadWord) : EncodeRun :=
  let xs := (ws.flatMap fun w => wordSamples r.ctx.d w.word).take (min 16 r.left)
  match r.phase with
  | .coding =>
    match r.ctx.encodeAll xs with
    | some (c, bits) => { r with ctx := c, left := r.left - xs.length, out := r.out ++ bits }
    | none =>
      { r with phase := .rewriting, ctx := (r.ctx.codedPrefix xs).abandon, left := r.samples, out := [], words := 0 }
  | .rewriting =>
    { r with left := r.left - xs.length, out := r.out ++ xs.flatMap (natBits r.ctx.d) }
  | .recording => r

/-- The end of a LANE burst of an ENCODE job (R87, R88, R90). -/
def State.encodeBurst (l : Lane) (j : Job) (r : EncodeRun) (b : Burst) (ws : List ReadWord) (s : State) : State :=
  match b.access with
  | .write _ _ => s.encodeSettle l j { r with out := r.out.drop 256, words := r.words + 8 }
  | .read _ _ =>
    if ws.any ReadWord.bad then s.encodeFail l j r .storeParity else s.encodeSettle l j (r.feed ws)

/-- The end of an encoding (R89, R91). -/
def State.encodeEnded (l : Lane) (j : Job) (r : EncodeRun) (s : State) : State :=
  match s.page j.page with
  | some p =>
    if p.state = .filling ∨ p.state = .coding then
      (s.setLane l (.encoding j { r with phase := .recording })).placeRecord (.lane l) p.header (s.jobIndex j)
        ⟨.stored, r.ctx.result.1, laneNo l, r.first.getD 0, r.ctx.result.2⟩
    else (s.returnChain r.first).encodeOver l j
  | none => (s.returnChain r.first).encodeOver l j

/-! ## The PROOF job -/

/-- A PROOF job has ended: work in flight falls and the lane goes on (R92, R94). -/
def State.proofOver (l : Lane) (j : Job) (s : State) : State := (s.endWork j.page).laneFree l

/-- The reply of a PROOF job (R92, R94). -/
def State.proofReply (j : Job) (r : ReplyResult) (s : State) : State :=
  match j.source with
  | .request x k _ => s.answer x k r
  | .slot _ _ => s

/-- The DATA frames of a row (R93, R188): every frame but the last holds 8,000 containers (log 59); `n` bounds their
number. -/
def rowFrames (tag : Byte) (page band comp row : Nat) (o : ContainerOrder) : Nat → Nat → List Nat → List OutFrame
  | 0, _, _ => []
  | _ + 1, _, [] => []
  | n + 1, col, x :: xs =>
    .proofRow tag page band comp row col o ((x :: xs).take Config.frameSamples) ::
      rowFrames tag page band comp row o n (col + Config.frameSamples) ((x :: xs).drop Config.frameSamples)

/-- The DATA frames of the row a decoding has just delivered. -/
def State.proofFrames (s : State) (j : Job) (k : Decoder) : List OutFrame :=
  match j.source, s.page j.page with
  | .request _ _ tag, some p =>
    let row := k.lastRow.getD []
    rowFrames tag j.page j.band j.comp (k.ctx.row - 1) p.order (row.length / Config.frameSamples + 1) 0 row
  | _, _ => []

/-- Places DATA frames while a general place is free and no one waits for one; gives back those left, with the lane
waiting if there are any (R93, R175). -/
def LinkCtl.placeRows (l : Lane) : List OutFrame → LinkCtl → List OutFrame × LinkCtl
  | [], c => ([], c)
  | f :: rest, c =>
    if c.waiters.isEmpty && c.hasPlace then LinkCtl.placeRows l rest (c.place f)
    else (f :: rest, { c with waiters := c.waiters ++ [.lane l] })

/-- Places DATA frames of a lane on a link. -/
def State.placeRows (l : Lane) (x : Link) (fs : List OutFrame) (s : State) : List OutFrame × State :=
  ((LinkCtl.placeRows l fs (s.link x)).1, s.modLink x fun c => (LinkCtl.placeRows l fs c).2)

/-- The link of a job. -/
def Job.link (j : Job) : Link :=
  match j.source with
  | .slot x _ => x
  | .request x _ _ => x

/-- A decoding failure (R94, R165): no frame of the row, the mark and the event, REFUSED DAMAGED. -/
def State.proofFail (l : Lane) (j : Job) (r : BandRecord) (cause : Detail) (row : Nat) (s : State) : State :=
  ((s.payloadDamage j.page (s.jobIndex j) r false).proofReply j (.damaged cause row)).proofOver l j

/-- The job is complete (R94): DONE with the record's mode and payload words and Hr. -/
def State.proofDone (l : Lane) (j : Job) (r : BandRecord) (hr : Nat) (s : State) : State :=
  (s.proofReply j (.done (.proofDone j.page j.band j.comp r.mode r.words hr))).proofOver l j

/-- Decodes on while rows complete and their frames find room (R93); `n` bounds the rows. -/
def State.proofAdvance (l : Lane) (j : Job) (r : BandRecord) : Nat → Decoder → State → State
  | 0, k, s => s.setLane l (.decoding j (.rows r k []))
  | n + 1, k, s =>
    if k.ctx.hr ≤ k.ctx.row then s.proofDone l j r k.ctx.hr
    else
      match k.runRow with
      | (k1, .needWords) => s.setLane l (.decoding j (.rows r k1 []))
      | (k1, .failed cause) => s.proofFail l j r cause k1.ctx.row
      | (k1, .rowDone) =>
        match s.placeRows l j.link (s.proofFrames j k1) with
        | ([], s1) => State.proofAdvance l j r n k1 s1
        | (f :: rest, s1) => s1.setLane l (.decoding j (.rows r k1 (f :: rest)))

/-- Decodes on from here, with a bound for the rows left and the end. -/
def State.proofRun (l : Lane) (j : Job) (r : BandRecord) (k : Decoder) (s : State) : State :=
  s.proofAdvance l j r (k.ctx.hr - k.ctx.row + 1) k

/-- The band record of a PROOF job has been read (R92). -/
def State.proofRecord (l : Lane) (j : Job) (e : TableEnd) (s : State) : State :=
  let r := readRecord (s.jobIndex j) e.words
  if r.2 = true then
    ((s.damageEvent j.page).proofReply j (.damaged .record 0)).proofOver l j
  else if r.1.state = .pending then (s.proofReply j (.refused .notCoded)).proofOver l j
  else
    match s.page j.page with
    | some p =>
      let form : Form := if r.1.mode = .raw then .raw else .coded
      let k : Decoder := ⟨Context.fresh (s.profileOf p) p.w (s.rowsOf p j.band) form, r.1.words, 0,
        s.map.openChain p.id (s.jobIndex j) r.1.first, []⟩
      s.proofRun l j r.1 k
    | none => s.proofOver l j

/-- A PROOF job abandoned by link reset (R96): its waiting burst or record read is withdrawn. -/
def State.proofAbandon (l : Lane) (j : Job) (s : State) : State :=
  ((s.withdraw (.lane l)).disown (fun b => b.req == .lane l)).proofOver l j

end Sys2Proof.Machine
end

