-- ==== Sys2Proof/Machine/StreamEngine.lean ====
section
/-!
DEFINITION. The stream engine of a link (R178 to R181) and what its failures bring about (R166 to R169).
-/
namespace Sys2Proof.Machine

/-- The stream of this serial on a link. -/
def LinkCtl.stream (c : LinkCtl) (serial : Nat) : Option Stream := c.streams.find? fun st => st.serial == serial

/-- Replaces the stream of the same serial. -/
def LinkCtl.setStream (st : Stream) (c : LinkCtl) : LinkCtl :=
  { c with streams := c.streams.map fun q => if q.serial = st.serial then st else q }

/-- The stream leaves the list. -/
def LinkCtl.dropStream (serial : Nat) (c : LinkCtl) : LinkCtl :=
  ({ c with streams := c.streams.filter fun q => q.serial != serial } : LinkCtl).noteWait

/-- The stream served next (R179): the first with a frame to send after the one last served, in list order and
round to the front; serials rise along the list. -/
def LinkCtl.nextStream (c : LinkCtl) : Option Stream :=
  let able := c.streams.filter Stream.hasFrame
  match c.turn with
  | none => able.head?
  | some k =>
    match able.find? (fun st => decide (k < st.serial)) with
    | some st => some st
    | none => able.head?

/-- The words of the record a stream sends. -/
def Stream.words (st : Stream) : Nat :=
  match st.record with
  | some r => r.words
  | none => 0

/-- The words the frame being filled is to carry (R179). -/
def Stream.frameWords (st : Stream) : Nat := min Config.frameWords (st.words - st.next)

/-- The payload reads of a stream are checked, but for a NOCHECK read-back (R121, R167). -/
def StreamKind.checked : StreamKind → Bool
  | .copy => true
  | .readBack _ _ check => check

/-- The DATA frame of a stream (R179, R188). A copy frame carries the record's state as read (R168, log 48). -/
def Stream.frame (st : Stream) (mark : Option Detail) (ws : List Word) (index : Nat) : OutFrame :=
  let m := match st.record with
    | some r => r.mode
    | none => .coded
  match st.kind with
  | .copy =>
    .payload true 0 st.page (st.index / st.c) (st.index % st.c) m mark st.words st.next ws index
      (st.record.map BandRecord.state)
  | .readBack _ tag _ =>
    .payload false tag st.page (st.index / st.c) (st.index % st.c) m mark st.words st.next ws index none

/-- A read-back stream ends with this reply (R181): it leaves the list, its claim is given up, the stream ref falls. -/
def State.endReadBack (x : Link) (st : Stream) (ticket : Nat) (r : ReplyResult) (s : State) : State :=
  ((s.answer x ticket r).modLink x fun c => ({ c with filling := none } : LinkCtl).dropStream st.serial).dropStreamRef
    st.page

/-- Places the frame being filled in its claimed place. -/
def State.placeFilled (x : Link) (f : OutFrame) (s : State) : State :=
  s.modLink x fun c => ({ c with filling := none } : LinkCtl).place f

/-- A copy stream goes on to its next band-component (R168, R180). -/
def Stream.nextComponent (st : Stream) (marked : Nat) : Stream :=
  { st with index := st.index + 1, record := none, next := 0, ext := none, marked := st.marked + marked }

/-- A copy stream's band-component ends with a marked frame in the claimed place (R168). -/
def State.copyMarked (x : Link) (st : Stream) (f : OutFrame) (s : State) : State :=
  (s.modLink x (LinkCtl.setStream (st.nextComponent 1))).placeFilled x f

/-- A payload failure of a stream at payload word `w`, `ws` being the words of the unsent frame before it (R166 to
R169). A read-back drops that frame, for NOCHECK too, where R167 does not say (log 47). -/
def State.streamFail (x : Link) (st : Stream) (cause : Detail) (ws : List Word) (w : Nat) (s : State) : State :=
  match st.kind, st.record with
  | .copy, some r => (s.payloadDamage st.page st.index r false).copyMarked x st (st.frame (some cause) ws w)
  | .copy, none => s
  | .readBack ticket _ true, some r =>
    (s.payloadDamage st.page st.index r false).endReadBack x st ticket (.damaged cause w)
  | .readBack ticket _ _, _ => s.endReadBack x st ticket (.damaged cause w)

/-- The engine goes on filling its frame: it waits for the next burst, or the chain does not go on (R166). -/
def State.streamSettle (x : Link) (st : Stream) (ws : List Word) (s : State) : State :=
  if ws.length < st.frameWords ∧ st.ext = none then s.streamFail x st .stream ws (st.next + ws.length)
  else s.modLink x fun c => { c.setStream st with filling := some ⟨st.serial, ws⟩ }

/-- The index of the first word of a list that is bad. -/
def firstBad : Nat → List ReadWord → Option Nat
  | _, [] => none
  | i, w :: rest => if w.bad then some i else firstBad (i + 1) rest

/-- The end of a STREAM burst (R166 to R168, R179). -/
def State.streamBurst (x : Link) (rw : List ReadWord) (s : State) : State :=
  match (s.link x).filling with
  | none => s
  | some f =>
    match (s.link x).stream f.serial with
    | none => s
    | some st =>
      let at_ := st.next + f.words.length
      let got := rw.take (min 8 (st.frameWords - f.words.length))
      match (if st.kind.checked then firstBad 0 got else none) with
      | some i => s.streamFail x st .parity (f.words ++ (got.take i).map ReadWord.word) (at_ + i)
      | none =>
        let at2 := at_ + got.length
        let st2 := { st with
          mismatches := st.mismatches + (got.filter ReadWord.bad).length,
          ext := if at2 % Config.extentWords = 0 ∧ at2 < st.words then st.ext.bind s.map.follow else st.ext }
        s.streamSettle x st2 (f.words ++ got.map ReadWord.word)

/-- The next burst of the frame being filled: address, bytes taken, checked or not. -/
def State.streamRead (s : State) (x : Link) : Option (Nat × BitVec 32 × Bool) :=
  match (s.link x).filling with
  | none => none
  | some f =>
    match (s.link x).stream f.serial with
    | none => none
    | some st =>
      match st.record, st.ext with
      | some _, some e =>
        if f.words.length < st.frameWords then
          some (e * Config.extentWords + (st.next + f.words.length) % Config.extentWords,
            wordsMask (st.frameWords - f.words.length), st.kind.checked)
        else none
      | _, _ => none

/-- The engine claims a free general place for the stream next in turn (R179), which counts as the one last served from
here on (log 55). A copy stream at a new band-component then reads its record, the place claimed (log 54). -/
def State.streamClaim (x : Link) (s : State) : State :=
  match (s.link x).nextStream with
  | none => s
  | some st =>
    let s1 := s.modLink x fun c =>
      ({ c with filling := some ⟨st.serial, []⟩, turn := some st.serial,
                waiters := c.waiters.filter (· != .engine) } : LinkCtl).noteWait
    match st.record with
    | some _ => s1.streamSettle x st []
    | none =>
      match s.page st.page with
      | some p => s1.placeRead (.copy x st.serial) p.header st.index 1 true
      | none => s1

/-- The engine may take a general place now: one is free and it is first among those that wait (R175). -/
def LinkCtl.engineMay (c : LinkCtl) : Bool :=
  c.hasPlace && (c.waiters.isEmpty || c.waiters.head? == some .engine)

/-- The frame being filled, if its words have all been read (R179). -/
def LinkCtl.filled (c : LinkCtl) : Option (Stream × List Word) :=
  match c.filling with
  | none => none
  | some f =>
    match c.stream f.serial with
    | none => none
    | some st => if st.record.isSome ∧ f.words.length = st.frameWords then some (st, f.words) else none

/-- The filled frame is placed (R179), unmarked and with damage index 0 (log 56); a read-back that has sent its last
word replies DONE (R181), a copy stream goes on to the next band-component (R180). -/
def State.streamPlaced (x : Link) (st : Stream) (ws : List Word) (s : State) : State :=
  let s1 := s.placeFilled x (st.frame none ws 0)
  let next := st.next + ws.length
  if next < st.words then s1.modLink x (LinkCtl.setStream { st with next := next })
  else
    match st.kind, st.record with
    | .copy, _ => s1.modLink x fun c => (c.setStream (st.nextComponent 0)).noteWait
    | .readBack ticket _ check, some r =>
      s1.endReadBack x st ticket (.done (.bandDone st.page (st.index / st.c) (st.index % st.c) r.mode r.words
        (match s.page st.page with
          | some p => s.rowsOf p (st.index / st.c)
          | none => 0) r.state (if check then 0 else st.mismatches)))
    | .readBack _ _ _, none => s1

/-- The band record of a copy stream's next band-component has been read (R168, R180). A chain that does not open is a
failure at word 0, whatever the number of words. -/
def State.copyRecord (x : Link) (st : Stream) (e : TableEnd) (s : State) : State :=
  let r := readRecord st.index e.words
  if r.2 = true ∨ r.1.state = .pending then
    (s.damageEvent st.page).copyMarked x st (st.frame (some .record) [] 0)
  else
    let st2 : Stream := { st with record := some r.1, next := 0, ext := s.map.openChain st.page st.index r.1.first }
    match st2.ext with
    | some _ => s.streamSettle x st2 []
    | none => s.streamFail x st2 .stream [] 0

/-- The page of a record read, unless it has been removed since the request was taken (R178). -/
def State.pageRead (s : State) (q : RecordRead) : Option Page := if q.gone then none else s.page q.page

/-- The band record of a compressed READ BAND has been read (R166, R167, R178): decided against the page as it stands.
A chain that does not open stops the read-back at once with cause STREAM and word 0 (R166), its stream ref taken and
dropped. A page that has become RETIRING decides before the parity of the read: no damage event (log 46). -/
def State.readBandRecord (x : Link) (q : RecordRead) (e : TableEnd) (s : State) : State :=
  match s.pageRead q with
  | none => s.answer x q.ticket (.refused .noPage)
  | some p =>
    if p.state = .retiring then s.answer x q.ticket (.refused .pageRetiring)
    else
      let index := q.band * p.c + q.comp
      let r := readRecord index e.words
      if r.2 = true then (s.damageEvent q.page).answer x q.ticket (.damaged .record 0)
      else if r.1.state = .pending then s.answer x q.ticket (.refused .notCoded)
      else
        match s.map.openChain q.page index r.1.first with
        | some first =>
          s.addStream x q.page fun k =>
            ⟨k, .readBack q.ticket q.tag q.check, q.page, p.c, index, index + 1, some r.1, 0, some first, 0, 0⟩
        | none =>
          (if q.check then s.payloadDamage q.page index r.1 false else s).answer x q.ticket (.damaged .stream 0)

end Sys2Proof.Machine
end

