-- ==== Sys2Proof/Machine/IntakeEngine.lean ====
section
/-!
DEFINITION. The intake (R48 to R55, R57, R59): the checks of a PIXELS frame, the writes of a taken one and its
effects when the writing ends.
-/
namespace Sys2Proof.Machine

/-- A PIXELS frame is refused, on the reply place it holds (R48). -/
def State.refusePixels (x : Link) (tag : Byte) (c : Refuse) (s : State) : State :=
  s.modLink x (LinkCtl.place (.reply ReqKind.pixels tag (.refused c)))

/-! ## Geometry -/

/-- The band of a pixel (R50): its row divided by Hb. -/
def pixelBand (w hb p : Nat) : Nat := p / w / hb

/-- The first pixel of a band. -/
def bandStart (w hb i : Nat) : Nat := i * hb * w

/-- The pixel after the last pixel of a band. -/
def bandEnd (w ht hb i : Nat) : Nat := bandStart w hb i + bandRows ht hb i * w

/-! ## Writes (R51) -/

/-- One burst of a plane: samples `16·t` to `16·t + 15`, of which the frame gives those from `a` on. -/
def planeBurst (base a : Nat) (vals : List Nat) (t : Nat) : SlotWrite where
  addr := base + 8 * t
  data := (List.range 8).map fun w =>
    let at_ (i : Nat) : Nat := if a ≤ i then vals.getD (i - a) 0 % 65536 else 0
    BitVec.ofNat 32 (at_ (16 * t + 2 * w) * 65536 + at_ (16 * t + 2 * w + 1))
  mask := BitVec.ofNat 32 ((List.range 16).foldl (fun m i =>
    if a ≤ 16 * t + i ∧ 16 * t + i < a + vals.length then
      m + (if i % 2 = 0 then 12 else 3) * 2 ^ (4 * (i / 2))
    else m) 0)

/-- The bursts that write the samples `vals` of a plane from sample index `a` on. -/
def planeWrites (base a : Nat) (vals : List Nat) : List SlotWrite :=
  if vals.isEmpty then []
  else (List.range' (a / 16) ((a + vals.length - 1) / 16 - a / 16 + 1)).map (planeBurst base a vals)

/-- The samples of one component among containers that stand pixel by pixel (R48). -/
def componentSamples (c j : Nat) (vals : List Nat) (count : Nat) : List Nat :=
  (List.range count).map fun k => vals.getD (k * c + j) 0

/-- The writes of a frame (R51), component by component, the part in band i to the fill slot and the rest to the
other (the order is the model's, log 9). `n` pixels lie in band i, whose first is at sample index `a`. -/
def frameWrites (x : Link) (fill : SlotId) (c a n : Nat) (vals : List Nat) (count : Nat) : List SlotWrite :=
  (List.range c).flatMap fun j =>
    let xs := componentSamples c j vals count
    planeWrites (planeBase x fill j) a (xs.take n) ++ planeWrites (planeBase x fill.other j) 0 (xs.drop n)

/-! ## The checks (R49, R50) -/

/-- The slots can take a frame that begins in band `i` and, if `beyond`, reaches into band i + 1 (R50). -/
def Intake.slotsTake (k : Intake) (page i : Nat) (beyond : Bool) : Bool :=
  let f := k.slots.get k.fill
  (f.state == .empty || (f.state == .filling && f.page == some page && f.band == some i)) &&
    (!beyond || (k.slots.get k.fill.other).state == .empty)

/-- A frame that passes is taken: its reply place is given up and its writing begins (R49 step 7, R51, R52). -/
def State.takePixels (x : Link) (p : Page) (q : PixelFields) (s : State) : State :=
  let pr := s.profileOf p
  let raw := containers p.order q.bytes
  let vals := raw.map (min (maxVal pr.d))
  let i := pixelBand p.w pr.hb q.offset
  let n := min q.count (bandEnd p.w p.ht pr.hb i - q.offset)
  (s.freeReplyPlace x).modIntake x fun k =>
    { k with frame := some (FrameWriting.mk p.id q.offset q.count
        (raw.filter fun v => decide (maxVal pr.d < v)).length false
        (frameWrites x k.fill p.c (q.offset - bandStart p.w pr.hb i) n vals q.count)) }

/-- The checks of a PIXELS frame (R49). -/
def State.checkPixels (x : Link) (tag : Byte) (body : List Byte) (s : State) : State :=
  let q := PixelFields.of body
  match s.page q.page with
  | none => s.refusePixels x tag .noPage
  | some p =>
    if p.state ≠ .filling ∨ (s.intake x).page ≠ some p.id then s.refusePixels x tag .pageState
    else if q.count = 0 then (s.freeReplyPlace x).failPage p.id .intakeAborted
    else if p.nextPixel ≠ some q.offset then s.refusePixels x tag .outOfOrder
    else
      let hb := (s.profileOf p).hb
      let i := pixelBand p.w hb q.offset
      let last := pixelBand p.w hb (q.offset + q.count - 1)
      if p.w * p.ht < q.offset + q.count ∨ q.bytes.length ≠ 2 * p.c * q.count ∨ i + 1 < last then
        s.refusePixels x tag .badRequest
      else if (s.intake x).slotsTake p.id i (decide (i < last)) then s.takePixels x p q
      else s.refusePixels x tag .held

/-- A PIXELS frame the link controller has taken (R48): it waits while an earlier one is being written. -/
def State.servePixels (x : Link) (f : Frame) (s : State) : State :=
  if (s.intake x).frame.isNone && (s.intake x).waiting.isEmpty then s.checkPixels x f.tag f.body
  else s.modIntake x fun k => { k with waiting := k.waiting ++ [⟨f.tag, f.body⟩] }

/-- Waiting PIXELS frames are checked in order until one is taken (R48, R53). -/
def State.checkWaiting (x : Link) : Nat → State → State
  | 0, s => s
  | n + 1, s =>
    match (s.intake x).frame, (s.intake x).waiting with
    | none, w :: rest =>
      State.checkWaiting x n ((s.modIntake x fun k => { k with waiting := rest }).checkPixels x w.tag w.body)
    | _, _ => s

/-! ## The effects (R53, R55, R57) -/

/-- The band-complete event of a slot (R55), then the HOLD test of R57 on the other slot as it was before the frame. The
C jobs are handed over in one step, so none of them finds another indirection table than the rest: the split between
two tables that R81 allows never occurs (log 42). -/
def State.bandComplete (x : Link) (p : Page) (t : SlotId) (band rows : Nat) (otherBefore : Slot) (s : State) : State :=
  let s1 := s.modIntake x fun k =>
    { k with slots := k.slots.set t ⟨.waiting, some p.id, some band, rows, p.c⟩ }
  let s2 := (List.range p.c).foldl (State.dispatchEncode p band x t) s1
  if otherBefore.state ≠ .empty ∧ (s2.intake x).hold = false then
    (s2.modIntake x fun k => { k with hold := true }).notify x .hold
  else s2

/-- The pixels of one band that a frame's end brings a slot to (R53 steps 1 to 3): the slot holds the whole rows
taken, and is complete when the band is. -/
def State.slotTakes (x : Link) (p : Page) (hb : Nat) (t : SlotId) (band next : Nat) (otherBefore : Slot)
    (s : State) : State :=
  if bandEnd p.w p.ht hb band ≤ next then
    (s.bandComplete x p t band (bandRows p.ht hb band) otherBefore).modIntake x fun k => { k with fill := t.other }
  else
    s.modIntake x fun k =>
      { k with slots := k.slots.set t ⟨.filling, some p.id, some band, next / p.w - band * hb, 0⟩ }

/-- The effects of a written frame (R52, R53). The state a slot held before the frame (R53, R57) is the state it holds
just before these effects, not the one at the frame's taking (log 41). -/
def State.framesEffects (x : Link) (p : Page) (f : FrameWriting) (s : State) : State :=
  let hb := (s.profileOf p).hb
  let before := (s.intake x).slots
  let fill := (s.intake x).fill
  let i := pixelBand p.w hb f.offset
  let next := f.offset + f.count
  let s1 := s.modPage p.id fun q =>
    { q with nextPixel := some next, clamped := satAdd Config.countMax q.clamped f.clamped }
  let s2 := if 0 < f.clamped then s1.flagClamped x else s1
  let s3 := s2.slotTakes x p hb fill i next (before.get fill.other)
  let s4 :=
    if bandEnd p.w p.ht hb i < next then s3.slotTakes x p hb fill.other (i + 1) next (before.get fill) else s3
  if next = p.w * p.ht then
    (s4.modPage p.id fun q => { q with state := .coding, nextPixel := none }).modIntake x fun k =>
      { k with page := none }
  else s4

/-- The end of a frame's writing (R53): its effects, or none if its page is no longer this link's FILLING intake page. -/
def State.pixelsWritten (x : Link) (f : FrameWriting) (s : State) : State :=
  let s1 := s.modIntake x fun k => { k with frame := none }
  let s2 := match s.page f.page with
    | some p =>
      if f.void = false ∧ p.state = PageState.filling ∧ (s.intake x).page = some p.id then s1.framesEffects x p f else s1
    | none => s1
  s2.checkWaiting x (s2.intake x).waiting.length

end Sys2Proof.Machine
end

