-- ==== Sys2Proof/Machine/ArbiterEngine.lean ====
section
/-!
DEFINITION. The store arbiter (R127 to R135) and the store controller's part in a grant and in the end of a burst
(R114 to R118).
-/
namespace Sys2Proof.Machine

/-! ## Banks (R113 to R115) -/

/-- The bank of a word address: its span modulo 4 (R113). -/
def bankOf (addr : Nat) : Lane := Lane.ofNat (addr / 512)

/-- The row of a word address: its span divided by 4 (R113). -/
def rowOf (addr : Nat) : Nat := addr / 512 / 4

/-- All banks IDLE, as a precharge of all leaves them. -/
def banksIdle : Four Bank := ⟨.idle, .idle, .idle, .idle⟩

/-! ## What each requester presents (R127) -/

/-- The burst a lane presents. -/
def State.laneBurst (s : State) (l : Lane) : Option Burst :=
  match s.lane l with
  | .idle => none
  | .encoding j r =>
    if r.phase = .recording then none
    else if r.wantsWrite then
      (r.nextWrite s.map).map fun w => ⟨.lane l, w.1, .write w.2 (wordsMask 8), none, true⟩
    else if r.left = 0 then none
    else
      match j.source with
      | .slot x t =>
        let n := r.nextRead x t j.comp
        some ⟨.lane l, n.1, .read n.2 true, none, true⟩
      | .request _ _ _ => none
  | .decoding _ (.rows _ k []) => k.nextRead.map fun n => ⟨.lane l, n.1, .read n.2 true, none, true⟩
  | .decoding _ _ => none

/-- The next burst a requester presents, if any. -/
def State.presented (s : State) (r : Requester) : Option Burst :=
  match r with
  | .intake x =>
    match (s.intake x).frame with
    | some f => f.writes.head?.map fun w => ⟨r, w.addr, .write w.data w.mask, none, true⟩
    | none => none
  | .lane l => s.laneBurst l
  | .press =>
    match s.press.reading with
    | some k => k.nextRead.map fun n => ⟨r, n.1, .read n.2 true, none, true⟩
    | none => none
  | .table => s.arb.tableQueue.head?.map fun op => ⟨r, op.addr, op.access, some op.client, true⟩
  | .stream x => (s.streamRead x).map fun n => ⟨r, n.1, .read n.2.1 n.2.2, none, true⟩

/-- A requester waits (R127). -/
def State.waits (s : State) (r : Requester) : Bool := (s.presented r).isSome

/-- The ring (R127). -/
def ringOrder : List Requester :=
  [.intake .a, .intake .b, .lane .l0, .lane .l1, .lane .l2, .lane .l3, .press, .table, .stream .a, .stream .b]

/-- The ring from the requester after `r` round to `r` itself (R133). -/
def ringAfter (r : Requester) : List Requester :=
  let i := ringOrder.idxOf r
  ringOrder.drop (i + 1) ++ ringOrder.take (i + 1)

/-! ## Grants (R129 to R135) -/

/-- A granted burst begins (R114): its row is open from here on; a TABLE operation leaves its queue. -/
def State.startBurst (b : Burst) (s : State) : State :=
  let s1 := s.modCtl fun c =>
    { c with burst := some b, banks := c.banks.set (bankOf b.addr) (.opened (rowOf b.addr)) }
  if b.req = .table then s1.modArb fun a => { a with tableQueue := a.tableQueue.tail } else s1

/-- REFRESH is granted (R118, R131, R135): all banks are precharged. -/
def State.grantRefresh (s : State) : State :=
  (s.modArb fun a => { a with grant := .refresh, count := 0 }).modCtl fun c =>
    { c with state := .refreshing, banks := banksIdle }

/-- A press request is granted URGENT (R132). -/
def State.grantUrgent (b : Burst) (s : State) : State :=
  (s.modArb fun a => { a with grant := .urgent b.req, count := 0 }).startBurst b

/-- A new RUN begins (R133). -/
def State.grantRun (b : Burst) (s : State) : State :=
  (s.modArb fun a => { a with grant := .run b.req, count := 1, ring := b.req }).startBurst b

/-- A RUN goes on (R134). -/
def State.extendRun (b : Burst) (s : State) : State :=
  (s.modArb fun a => { a with count := min 32 (a.count + 1) }).startBurst b

/-- The urgent press request that waits, TABLE before PRESS (R130 case 2). -/
def State.urgentBurst (s : State) : Option Burst :=
  if s.arb.pressUrgent then
    if (s.arb.tableQueue.head?.map TableOp.byPress).getD false then s.presented .table else s.presented .press
  else none

/-- The burst with which the standing RUN continues (R130 case 3). A lane whose PROOF job was abandoned during its burst
and which has taken its next job continues its RUN with that job's burst (log 45). -/
def State.runBurst (s : State) : Option Burst :=
  match s.arb.grant with
  | .run r =>
    if s.arb.count < s.arb.runLimit || (ringOrder.filter (· != r)).all (fun q => !s.waits q) then s.presented r
    else none
  | _ => none

/-- The first burst found after the ring position (R130 case 4). -/
def State.ringBurst (s : State) : Option Burst := (ringAfter s.arb.ring).findSome? s.presented

/-- A grant decision (R130). -/
def State.grantDecision (s : State) : State :=
  if Config.owedMax ≤ s.ctl.owed then s.grantRefresh
  else
    match s.urgentBurst with
    | some b => s.grantUrgent b
    | none =>
      match s.runBurst with
      | some b => s.extendRun b
      | none =>
        match s.ringBurst with
        | some b => s.grantRun b
        | none =>
          if 0 < s.ctl.owed then s.grantRefresh
          else s.modArb fun a => { a with grant := .free, count := 0 }

/-- A decision is made when the controller is READY and no burst is in progress (R129). It comes after the whole effect of
a command: bursts that arrive in one command all stand before the decision, which ring order settles (log 44). -/
def State.arbitrate (s : State) : State :=
  if s.ctl.state = .ready ∧ s.ctl.burst = none then s.grantDecision else s

/-! ## The end of a burst (R115, R116, R120) -/

/-- A client that still wants the end of its operation: a copy stream aborted by link reset does not (R182). -/
def State.wantsEnd (s : State) : Client → Bool
  | .copy x serial => ((s.link x).stream serial).isSome
  | _ => true

/-- A TABLE operation has been made: a header initialisation goes on to its next records (R36), another client's
end waits for its end step (log 7). -/
def State.tableMade (op : TableOp) (ws : List ReadWord) (s : State) : State :=
  match op.client with
  | .headerInit page =>
    let s1 := s.modDir fun d =>
      { d with inits := d.inits.map fun h => if h.page = page then { h with written := h.written + 4 } else h }
    match s1.dir.inits.find? (fun h => h.page == page) with
    | some h =>
      if h.written < h.total then
        s1.placeOp ⟨.headerInit page, recordBurst h.header h.written,
          .write (List.replicate 8 0) (recordMask h.written (min 4 (h.total - h.written)))⟩
      else s1
    | none => s1
  | c => if s.wantsEnd c then s.modArb fun a => { a with tableEnds := a.tableEnds ++ [⟨op, ws⟩] } else s

/-- The end of a burst is delivered to its requester (R116). -/
def State.deliver (b : Burst) (ws : List ReadWord) (s : State) : State :=
  match b.req with
  | .intake x =>
    s.modIntake x fun k => { k with frame := k.frame.map fun f => { f with writes := f.writes.tail } }
  | .lane l =>
    match s.lane l with
    | .encoding j r => s.encodeBurst l j r b ws
    | .decoding j (.rows r k _) => s.proofRun l j r (k.feed s.map ws)
    | .decoding _ .recordRead => s
    | .idle => s
  | .press => s.pressFeed ws
  | .table =>
    match b.client with
    | some c => s.tableMade ⟨c, b.addr, b.access⟩ ws
    | none => s
  | .stream x => s.streamBurst x ws

/-- The store after a burst, and the words a read returns (R116, R119, R120); the devices' upsets come first. -/
def State.transfer (b : Burst) (us : List Upset) (s : State) : Memory × List ReadWord :=
  let m := s.store.upset s.powerOns b.addr us
  match b.access with
  | .write data mask => (m.writeBurst b.addr data mask, [])
  | .read taken _ => (m, m.readBurst s.powerOns b.addr taken)

/-- The words of a burst that is a checked read carry a parity failure signal (R120). -/
def Burst.signals (b : Burst) (ws : List ReadWord) : Bool :=
  match b.access with
  | .write _ _ => false
  | .read _ checked => checked && ws.any ReadWord.bad

/-- The end of the burst in progress (R115, R116), before the next decision. A signal that it delivers sets STORE_PARITY
(R161), that of a band record read here too and not in its end step, and whether or not the work it served goes on
(log 22). The end of a burst whose work has ended lets its client place the operation it has ready (R128); a failure
signalled on it counts, by the model's choice, no damage event (R159, log 61). -/
def State.endBurst (b : Burst) (us : List Upset) (s : State) : State :=
  let r := s.transfer b us
  let s1 := ({ s with store := r.1 } : State).modCtl fun c =>
    { c with burst := none, banks := if b.req = .table then c.banks.set (bankOf b.addr) .idle else c.banks }
  let s2 := s1.flagIf (b.signals r.2)
  if b.live then s2.deliver b r.2 else s2.placeDeferred

end Sys2Proof.Machine
end

