-- ==== Sys2Proof/Machine/Press.lean ====
section
/-!
DEFINITION. The commands of the press feed: the schedule requests (R140, R141), the settings (R143), the decoder's
steps (R147, R148) and the press port (R151 to R157).
-/
namespace Sys2Proof.Machine

/-! ## Requests -/

/-- PRINT, once taken (R140). A STOPPED decoder moves to the new entry (R146). The report of urgency comes before the
grant (log 50). -/
def State.servePrint (x : Link) (f : Frame) (s : State) : State :=
  let id := field 0 2 f.body
  let copies := max 1 (field 2 1 f.body)
  match s.page id with
  | none => s.reply x f (.refused .noPage)
  | some p =>
    if p.state = .failed ∨ p.state = .retiring then s.reply x f (.refused .pageState)
    else if Config.schedulePlaces ≤ s.press.schedule.length then s.reply x f (.refused .scheduleFull)
    else
      let e : PrintEntry := ⟨s.press.nextSerial, id, copies, x, false⟩
      let s1 := (s.modPress fun g => { g with schedule := g.schedule ++ [e], nextSerial := g.nextSerial + 1 }).modPage
        id fun q => { q with printRefs := q.printRefs + 1 }
      let s2 := if s.press.decState = .stopped then s1.pressEnter (some e) else s1
      (s2.testPress.reply x f (.done (.printed id copies))).arbitrate

/-- The command PRINT. -/
def execPrint (x : Link) (s : State) : Result :=
  .next (s.serveShort x (Frame.isKind ReqKind.print) (Frame.hasLength 3) (State.servePrint x))

/-- The entries of a page that a cancel may remove: all but the head entry while the press is in SHEET (R141). -/
def PressFeed.cancellable (f : PressFeed) (page : Nat) : Option PrintEntry :=
  (if f.state = .sheet then f.schedule.tail else f.schedule).find? fun e => e.page == page

/-- CANCEL PRINT, once taken (R141). -/
def State.serveCancelPrint (x : Link) (f : Frame) (s : State) : State :=
  let id := field 0 2 f.body
  match s.press.cancellable id with
  | some e => ((s.cancelEntry e).reply x f (.done .none)).arbitrate
  | none =>
    if s.press.schedule.any (fun e => e.page == id) then s.reply x f (.refused .printing)
    else s.reply x f (.refused .noPage)

/-- The command CANCEL_PRINT. -/
def execCancelPrint (x : Link) (s : State) : Result :=
  .next (s.serveShort x (Frame.isKind ReqKind.cancelPrint) (Frame.hasLength 2) (State.serveCancelPrint x))

/-- SET PRESS, once taken (R143). -/
def State.serveSetPress (x : Link) (f : Frame) (s : State) : State :=
  match pressOf f.body with
  | some t => (s.modPress fun g => { g with settings := t }).reply x f (.done (.press t))
  | none => s.reply x f (.refused .badRequest)

/-- The command SET_PRESS. -/
def execSetPress (x : Link) (s : State) : Result :=
  .next (s.serveShort x (Frame.isKind ReqKind.setPress) (Frame.hasLength 3) (State.serveSetPress x))

/-! ## The decoder's steps -/

/-- The command PRESS_RECORD_READ_END (R147). -/
def execPressRecordReadEnd (s : State) : Result :=
  match s.takeEnd (· == .press) with
  | some _ => .next s.pressTakeEnd.arbitrate
  | none => .next s

/-- The command PRESS_LINE_FINISH (R148): the C rows of the row in progress are complete. -/
def execPressLineFinish (s : State) : Result :=
  match s.lineDue with
  | some (d, p, rows) => .next (s.pressFinish d p rows).arbitrate
  | none => .next s

/-! ## The press port -/

/-- The codec answers on the port (R151). -/
def State.answerPress (l : List Answer) (s : State) : State :=
  s.modPress fun f => { f with answers := f.answers ++ l }

/-- The wake event of R124. -/
def State.wake (w : WakeCause) (held : Bool) (s : State) : State :=
  s.modCtl fun c =>
    { c with state := .waking, wakeCause := some w, wakeFrameHeld := held, refreshTimer := some Config.refreshTenths,
             startStep := some 1 }

/-- SHEET START in READY (R152). -/
def State.beginSheet (e : PrintEntry) (p : Page) (s : State) : State :=
  let o := ((s.press.latched ⟨e.serial, e.copies⟩).getD s.press.settings).order
  ((s.modPress fun f => { f with state := .sheet, delivered := 0, last := none }).testPress).answerPress
    [.sheetInfo p.id p.w p.ht p.c e.copies o]

/-- The head entry with its page. -/
def State.headPage (s : State) : Option (PrintEntry × Page) :=
  match s.press.head with
  | some e => (s.page e.page).map fun p => (e, p)
  | none => none

/-- SHEET START, once taken (R152, R112, R124). -/
def State.takeSheetStart (s : State) : State :=
  if s.ctl.state = .resting then s.wake .sheetStart false
  else if s.notServing then s.answerPress [.notReady]
  else
    match s.press.state, s.headPage with
    | .ready, some (e, p) => s.beginSheet e p
    | _, _ => s.answerPress [.notReady]

/-- The end of a sheet (R155), in the event that takes its Ht-th line: the copy is counted, an entry's last copy removes
it. The entry as it stood is kept while that line is being sent (R157, log 19). -/
def State.sheetDone (e : PrintEntry) (s : State) : State :=
  let s1 := s.modPress fun f =>
    { f with state := .idle, delivered := 0, last := none, counted := some e,
             latches := f.latches.filter fun l => l.sheet != ⟨e.serial, e.copies⟩ }
  if 1 < e.copies then
    s1.modPress fun f => { f with schedule := f.schedule.map fun q =>
      if q.serial = e.serial then { q with copies := q.copies - 1 } else q }
  else
    let s2 := s1.modPress fun f => { f with schedule := f.schedule.filter fun q => q.serial != e.serial }
    let s3 := if 0 < s.press.skip then s2.modPress fun f => { f with owedRef := some e.page }
      else s2.dropPrintRef e.page
    s3.notify e.link (.printDone e.page)

/-- The words a LINE REQUEST sends (R153, R154): the line at the head of the FIFO if it is of the sheet, else the
last line again or a line of zeros; `true` when it is an underrun. -/
def PressFeed.nextLine (f : PressFeed) (sh : SheetId) (lineWords : Nat) : List Word × Bool :=
  match f.fifo with
  | l :: _ => if l.sheet = sh then (l.words, false) else (f.last.getD (List.replicate lineWords 0), true)
  | [] => (f.last.getD (List.replicate lineWords 0), true)

/-- LINE REQUEST in SHEET (R153, R154): the line is taken and sent, and in the same event the Ht-th one ends the sheet
and is followed by SHEET DONE (R155). Where one request makes the press urgent and gives the decoder room for a burst,
the report comes before the grant (log 50). -/
def State.sendLine (e : PrintEntry) (p : Page) (s : State) : State :=
  let r := s.press.nextLine ⟨e.serial, e.copies⟩ p.lineWords
  let s1 :=
    if r.2 then
      (s.modPress fun f => { f with delivered := f.delivered + 1, skip := f.skip + 1,
                                    underruns := satAdd Config.countMax f.underruns 1 }).flagUnderrun
    else
      s.modPress fun f => { f with fifo := f.fifo.tail, delivered := f.delivered + 1, last := some r.1 }
  let s2 := s1.pressRoomFreed
  if p.ht ≤ s.press.delivered + 1 then (s2.sheetDone e).testPress.answerPress [.line r.1, .sheetDone p.id e.copies]
  else s2.testPress.answerPress [.line r.1]

/-- LINE REQUEST, once taken (R153, R151). -/
def State.takeLineRequest (s : State) : State :=
  if s.notServing then s.answerPress [.notReady]
  else
    match s.press.state, s.headPage with
    | .sheet, some (e, p) => s.sendLine e p
    | _, _ => s.answerPress [.notReady]

/-- SHEET ABORT, once taken (R156). -/
def State.takeSheetAbort (s : State) : State :=
  if s.press.state = .sheet then s.pressRestart else s.answerPress [.notReady]

/-- Takes one press signal. -/
def State.takeSignal (g : PressSignal) (s : State) : State :=
  match g with
  | .sheetStart => s.takeSheetStart
  | .lineRequest => s.takeLineRequest
  | .sheetAbort => s.takeSheetAbort

/-- A press signal that comes while an answer is being sent is taken when that answer ends (R151). -/
def State.pressSignal (g : PressSignal) (s : State) : State :=
  if s.press.answers.isEmpty then s.takeSignal g else s.modPress fun f => { f with signals := f.signals ++ [g] }

/-- Takes waiting signals until one is answered (R151). -/
def State.drainSignals : Nat → State → State
  | 0, s => s
  | n + 1, s =>
    match s.press.answers, s.press.signals with
    | [], g :: rest => State.drainSignals n ((s.modPress fun f => { f with signals := rest }).takeSignal g)
    | _, _ => s

/-- The waiting signals are taken while no answer is being sent. -/
def State.takeWaitingSignals (s : State) : State := s.drainSignals s.press.signals.length

/-- The command SHEET_START (R152). -/
def execSheetStart (s : State) : Result := .next (s.pressSignal .sheetStart).arbitrate

/-- The command LINE_REQUEST (R153). -/
def execLineRequest (s : State) : Result := .next (s.pressSignal .lineRequest).arbitrate

/-- The command SHEET_ABORT (R156). -/
def execSheetAbort (s : State) : Result := .next (s.pressSignal .sheetAbort).arbitrate

/-- The command PRESS_ANSWER_END (R151, R191): the strobe of the answer's last word. A line sent whole stays counted. -/
def execPressAnswerEnd (s : State) : Result :=
  match s.press.answers with
  | [] => .next s
  | _ :: rest => .next ((s.modPress fun f => { f with answers := rest, counted := none }).takeWaitingSignals).arbitrate

/-- PRESS RESET cuts the Ht-th line of a sheet: the line was not delivered and its sheet is not counted (R157, R158). The
copy is taken back, or the entry removed with its last copy returns to the head with its print ref (log 19). -/
def State.uncountSheet (s : State) : State :=
  match s.press.answers, s.press.counted with
  | .line _ :: _, some e =>
    if 1 < e.copies then
      s.modPress fun f => { f with schedule := f.schedule.map fun q =>
        if q.serial = e.serial then { q with copies := e.copies } else q }
    else if s.press.schedule.length < Config.schedulePlaces then
      (s.modPress fun f => { f with schedule := e :: f.schedule }).modPage e.page fun p =>
        { p with printRefs := p.printRefs + 1 }
    else s
  | _, _ => s

/-- The answer being sent is a line, which PRESS RESET cuts, with the SHEET DONE behind it (R157). -/
def PressFeed.cutAnswers (f : PressFeed) : PressFeed :=
  match f.answers with
  | .line _ :: _ => { f with answers := [], counted := none }
  | _ => f

/-- PRESS RESET, made now (R157). -/
def State.pressResetNow (s : State) : State :=
  (s.uncountSheet.pressRestart.modPress PressFeed.cutAnswers).takeWaitingSignals

/-- The command PRESS_RESET (R157, R124). In RESTING it only wakes the part, and the whole reset is made after READY: by
the model's choice a sheet's last line that is still on the port then (R122 lets REST be accepted meanwhile) goes on, and
is cut at WAKE_COMPLETE if it has not ended before (log 62). -/
def execPressReset (s : State) : Result :=
  if s.ctl.state = .resting then .next (s.wake .pressReset false) else .next s.pressResetNow.arbitrate

end Sys2Proof.Machine
end

