-- ==== Sys2Proof/Machine/Links.lean ====
section
/-!
DEFINITION. The commands of the link controllers: arrival (R171, R172), requests of no known kind (R173), status
(R183, R184), hold (R176), sending (R174, R175) and link reset (R182).
-/
namespace Sys2Proof.Machine

/-! ## Hold (R176) -/

/-- HOLD is taken: hold is in force, and the timer starts with its time, 0 being taken as 1. -/
def LinkCtl.holdFor (t : Nat) (c : LinkCtl) : LinkCtl := { c with hold := true, holdTimer := some (max 1 t) }

/-- Hold ends: the timer stops and sending goes on from the oldest frame. -/
def LinkCtl.endHold (c : LinkCtl) : LinkCtl :=
  if c.hold then ({ c with hold := false, holdTimer := none } : LinkCtl).startSend else c

/-- The effect of a HOLD frame. -/
def State.takeHold (x : Link) (f : Frame) (s : State) : State := s.modLink x (LinkCtl.holdFor (field 0 2 f.body))

/-- The effect of a RESUME frame. -/
def State.takeResume (x : Link) (s : State) : State := s.modLink x LinkCtl.endHold

/-- The command HOLD (R174, R176): one taken from the buffer gives its reply place up at once. -/
def execHold (x : Link) (s : State) : Result :=
  .next (s.serveShort x (Frame.isKind ReqKind.hold) (Frame.hasLength 2) fun f t => (t.takeHold x f).freeReplyPlace x)

/-- The command RESUME (R174, R176). -/
def execResume (x : Link) (s : State) : Result :=
  .next (s.serveShort x (Frame.isKind ReqKind.resume) (Frame.hasLength 0) fun _ t =>
    (t.takeResume x).freeReplyPlace x)

/-- The command HOLD_TIMER_EXPIRY (R176). -/
def execHoldTimerExpiry (x : Link) (s : State) : Result :=
  match (s.link x).holdTimer with
  | some _ => .next (s.modLink x LinkCtl.endHold)
  | none => .next s

/-! ## Arrival (R171, R172) -/

/-- A frame that passed its check (R172): HOLD and RESUME are taken at arrival in READY; the rest enter the buffer
or are lost to overrun. -/
def State.frameIn (x : Link) (f : Frame) (s : State) : State :=
  if s.part = .ready ∧ f.isHold = true then s.takeHold x f
  else if s.part = .ready ∧ f.isResume = true then s.takeResume x
  else if (s.link x).rx.length < Config.rxPlaces then s.modLink x fun c => { c with rx := c.rx ++ [f] }
  else s.modLink x LinkCtl.noteOverrun

/-- The command FRAME_ARRIVAL (R171, R124). While the link reset sequence lasts no frame arrives (R182). -/
def execFrameArrival (x : Link) (bytes : List Byte) (s : State) : Result :=
  if (s.link x).resetting then .next s
  else
    let held := (parseFrame bytes).isSome && decide ((s.link x).rx.length < Config.rxPlaces)
    let s1 := if s.ctl.state = .resting then s.wake (.frame x) held else s
    match parseFrame bytes with
    | some f => .next (s1.frameIn x f)
    | none => .next (s1.modLink x LinkCtl.noteFrameCheck)

/-- The command BAD_KIND_REQUEST (R173 step 2). -/
def execBadKindRequest (x : Link) (s : State) : Result :=
  .next (s.serveShort x Frame.badKind (fun _ => false) fun _ t => t)

/-! ## Status (R183, R184) -/

/-- The command READ_STATUS (R183): answered in every part state. -/
def execReadStatus (x : Link) (s : State) : Result :=
  match s.takeHead x (Frame.isKind ReqKind.readStatus) with
  | none => .next s
  | some (f, s1) =>
    if f.hasLength 0 then .next (s1.reply x f (.done (.status (s1.status x))))
    else .next (s1.reply x f (.refused .badRequest))

/-- CLEAR STATUS, once taken (R184): the reply carries the record as it stood. -/
def State.serveClearStatus (x : Link) (f : Frame) (s : State) : State :=
  (s.modLink x LinkCtl.clearStatus).reply x f (.done (.status (s.status x)))

/-- The command CLEAR_STATUS. -/
def execClearStatus (x : Link) (s : State) : Result :=
  .next (s.serveShort x (Frame.isKind ReqKind.clearStatus) (Frame.hasLength 0) (State.serveClearStatus x))

/-! ## Sending (R174, R175) -/

/-- The last byte of a frame has been sent: its place is free, and the next frame is sent. -/
def LinkCtl.sent (f : OutFrame) (c : LinkCtl) : LinkCtl :=
  ({ c with sending := none, replyUse := if f.isReply then c.replyUse - 1 else c.replyUse } : LinkCtl).startSend

/-- The command OUTBOUND_FRAME_SENT (R174, R175). -/
def execOutboundFrameSent (x : Link) (s : State) : Result :=
  match (s.link x).sending with
  | some f => .next (s.modLink x (LinkCtl.sent f))
  | none => .next s

/-! ## Link reset (R182) -/

/-- The link stands as a link reset leaves it: at its reset values but for the PAGE FAILED that the reset placed, being
sent, and the PRINT DROPPED notices behind it. -/
def LinkCtl.asReset (c : LinkCtl) : Bool :=
  (match c.sending with
   | some (.notice (.pageFailed id .linkReset)) => c.out.all fun f => f == .notice (.printDropped id)
   | _ => false) &&
    decide (c = { LinkCtl.initial with recordReads := c.recordReads, resetting := c.resetting, sending := c.sending,
                                       out := c.out })

/-- The link's own items at their reset values (R170); compressed READ BAND record reads in progress run on. Where a
second reset comes right after the first (`again`), the notices that the first placed stay (R182, log 23). -/
def LinkCtl.reset (again : Bool) (c : LinkCtl) : LinkCtl :=
  if again then { c with resetting := true }
  else { LinkCtl.initial with recordReads := c.recordReads, resetting := true }

/-- Every stream of the link is aborted (R182): its bursts are withdrawn, its page's stream refs falls. A failure
signalled on a record read whose end step will not come now counts, by the model's choice, no damage event (R159,
log 61). -/
def State.abortStreams (x : Link) (s : State) : State :=
  let s1 := (s.link x).streams.foldl (fun t st => t.dropStreamRef st.page) s
  (s1.disown fun b => b.req == .stream x).modArb fun a =>
    { a with tableEnds := a.tableEnds.filter fun e => !e.op.client.isCopy x }

/-- The intake of a reset link (R61): its frame and waiting frames go, hold ceases without RESUME, and its page
fails with LINK_RESET (R45). -/
def State.resetIntake (x : Link) (s : State) : State :=
  let s1 := (s.disown fun b => b.req == .intake x).modIntake x fun k =>
    { k with frame := none, waiting := [], hold := false }
  match (s.intake x).page with
  | some id => s1.failPage id .linkReset
  | none => s1

/-- The PROOF job a lane runs for a link is abandoned (R96). -/
def State.abandonProof (x : Link) (s : State) (l : Lane) : State :=
  match s.lane l with
  | .decoding j _ => if j.link = x then s.proofAbandon l j else s
  | _ => s

/-- The PROOF jobs of a reset link are removed or abandoned (R96). -/
def State.resetProofs (x : Link) (s : State) : State :=
  let s1 := s.takeOutJobs fun j =>
    match j.source with
    | .request y _ _ => y == x
    | .slot _ _ => false
  allLanes.foldl (State.abandonProof x) s1

/-- A LIST PAGE of a reset link ends its reads (R45). -/
def State.endListing (s : State) (q : Listing) : State :=
  ((s.withdraw (.listing q.link q.ticket)).modDir fun d =>
    { d with listings := d.listings.filter fun r => r.ticket != q.ticket }).endWork q.page

/-- The LIST PAGE reads of a reset link end. -/
def State.resetListings (x : Link) (s : State) : State :=
  (s.dir.listings.filter fun q => q.link == x).foldl State.endListing s

/-- A frame held as the wake cause is lost with its buffer (R125, R182). -/
def State.resetWake (x : Link) (s : State) : State :=
  if s.ctl.wakeCause = some (.frame x) then s.modCtl fun c => { c with wakeFrameHeld := false } else s

/-- Link reset (R182). Where it both abandons PROOF jobs and ends listings, the TABLE operations that this brings about
are placed in the order of the lanes L0 to L3, then of the listings (log 49). The flags of the other link stand. -/
def State.resetLink (x : Link) (s : State) : State :=
  let again := (s.intake x).page.isNone && (s.link x).asReset
  let s1 := ((s.abortStreams x).modLink x (LinkCtl.reset again)).resetWake x
  ((s1.resetIntake x).resetProofs x).resetListings x

/-- The command LINK_RESET (R182). -/
def execLinkReset (x : Link) (s : State) : Result :=
  if (s.link x).resetting then .next s else .next (s.resetLink x).arbitrate

/-- The command LINK_RESET_SEQUENCE_END (R182): frames are taken as usual again. -/
def execLinkResetSequenceEnd (x : Link) (s : State) : Result :=
  .next (s.modLink x fun c => { c with resetting := false })

end Sys2Proof.Machine
end

