-- ==== Sys2Proof/Machine/Controller.lean ====
section
/-!
DEFINITION. The commands of the store controller and the arbiter: power-on reset, settle and start-up (R109, R111),
refresh (R117, R118), the end of a burst (R116), rest and wake (R122 to R125), and SET STORE (R136).
-/
namespace Sys2Proof.Machine

/-- The store size the straps give (R97, R192). -/
def StoreSize.ofStraps (sz1 sz0 : Bool) : StoreSize :=
  match sz1, sz0 with
  | false, false => .mib128
  | false, true => .mib256
  | true, false => .mib512
  | true, true => .mib128

/-- The command POWER_ON_RESET (R109): every item at its value there; the queue of commands is the model's own. -/
def execPowerOnReset (sz1 sz0 : Bool) (s : State) : Result :=
  .next { State.powerOn (s.powerOns + 1) (StoreSize.ofStraps sz1 sz0) with pending := s.pending }

/-- The command SETTLE_TIMER_EXPIRY (R111): START is entered and the refresh timer starts. -/
def execSettleTimerExpiry (s : State) : Result :=
  if s.ctl.state = .settle then
    .next (s.modCtl fun c =>
      { c with state := .start, settleTimer := none, refreshTimer := some Config.refreshTenths, startStep := some 1 })
  else .next s

/-- Makes the next `k` steps of the start-up sequence short of the mode set (R111): the precharge, the two
refreshes. -/
def StoreCtl.startSteps : Nat → StoreCtl → StoreCtl
  | 0, c => c
  | k + 1, c =>
    match c.startStep with
    | some 1 => StoreCtl.startSteps k { c with banks := ⟨.idle, .idle, .idle, .idle⟩, startStep := some 2 }
    | some 2 => StoreCtl.startSteps k { c with owed := c.owed - 1, startStep := some 3 }
    | some 3 => StoreCtl.startSteps k { c with owed := c.owed - 1, startStep := some 4 }
    | _ => c

/-- Makes the next `k` wake refreshes short of the eighth (R124). -/
def StoreCtl.wakeSteps : Nat → StoreCtl → StoreCtl
  | 0, c => c
  | k + 1, c =>
    match c.startStep with
    | some n =>
      if n < 8 then StoreCtl.wakeSteps k { c with owed := c.owed - 1, startStep := some (n + 1) } else c
    | none => c

/-- The command START_SEQUENCE_COMPLETE (R111): the mode set has been made, and what was left before it. -/
def execStartSequenceComplete (s : State) : Result :=
  if s.ctl.state = .start then
    .next (s.modCtl fun c => { c.startSteps 3 with state := .ready, startStep := none, banks := banksIdle }).arbitrate
  else .next s

/-- One more refresh is owed, up to 8, and the timer starts over (R117). -/
def StoreCtl.duePoint (c : StoreCtl) : StoreCtl :=
  { c with owed := min Config.owedMax (c.owed + 1), refreshTimer := some Config.refreshTenths }

/-- The command REFRESH_DUE_POINT (R117), after `steps` further steps of a running sequence (log 13). -/
def execRefreshDuePoint (steps : Nat) (s : State) : Result :=
  match s.ctl.refreshTimer with
  | none => .next s
  | some _ =>
    match s.ctl.state with
    | .start => .next (s.modCtl fun c => (c.startSteps steps).duePoint)
    | .waking => .next (s.modCtl fun c => (c.wakeSteps steps).duePoint)
    | _ => .next (s.modCtl StoreCtl.duePoint).arbitrate

/-- The command REFRESH_MADE (R118). -/
def execRefreshMade (s : State) : Result :=
  if s.ctl.state = .refreshing then
    .next (s.modCtl fun c => { c with state := .ready, owed := c.owed - 1 }).arbitrate
  else .next s

/-- The whole effect of the end of a burst before the decision that follows it (R116): the press decoder has its next
burst at that decision (R132, R134, log 52). -/
def State.burstEnded (b : Burst) (us : List Upset) (s : State) : State := (s.endBurst b us).pressDue

/-- The command BURST_END (R116). -/
def execBurstEnd (us : List Upset) (s : State) : Result :=
  match s.ctl.burst with
  | none => .next s
  | some b =>
    if b.addr + 8 ≤ s.size.words then .next (s.burstEnded b us).arbitrate
    else .fault (.outsideStore b.addr)

/-! ## Rest (R122, R123) -/

/-- REST, once taken (R122): it waits at the store controller. -/
def State.serveRest (x : Link) (_f : Frame) (ticket : Nat) (s : State) : State :=
  s.modCtl fun c => { c with restWaiting := c.restWaiting ++ [⟨x, ticket⟩] }

/-- The command REST. -/
def execRest (x : Link) (s : State) : Result :=
  .next (s.serveLong x (Frame.isKind ReqKind.rest) (Frame.hasLength 0) (State.serveRest x))

/-- Nothing is left to be done on the pages (R122 conditions 1 and 2). -/
def Directory.restful (d : Directory) : Bool :=
  d.pages.all fun p => !p.canFail && p.state != .retiring && p.work == 0

/-- The lanes and their queues are idle (R122 condition 3). -/
def Dispatcher.restful (d : Dispatcher) : Bool :=
  allLanes.all (fun l => d.lanes.get l == .idle) && d.waiting.isEmpty

/-- An intake has no frame (R122 condition 4). -/
def Intake.restful (k : Intake) : Bool := k.frame.isNone && k.waiting.isEmpty

/-- The press feed is idle (R122 condition 5). -/
def PressFeed.restful (f : PressFeed) : Bool :=
  f.state == .idle && f.schedule.isEmpty && f.decState == .stopped

/-- A link runs no stream and reads no record for one (R122 conditions 6 and 7). -/
def LinkCtl.restful (c : LinkCtl) : Bool := c.streams.isEmpty && c.recordReads.isEmpty

/-- The seven conditions of R122. -/
def State.mayRest (s : State) : Bool :=
  s.dir.restful && s.disp.restful && (s.intake .a).restful && (s.intake .b).restful && s.press.restful &&
    (s.link .a).restful && (s.link .b).restful && s.arb.tableQueue.isEmpty

/-- The store goes to rest (R123). -/
def StoreCtl.enterRest (c : StoreCtl) : StoreCtl :=
  { c with state := .resting, banks := banksIdle, owed := 0, refreshTimer := none, wakeCause := none,
           wakeFrameHeld := false, restWaiting := [] }

/-- A frame that waited in a receive buffer when the rest was entered is a wake event at once (R123); where both
buffers hold one, `first` says which is taken first (log 12). -/
def State.wakeIfFrame (first : Link) (s : State) : State :=
  if !(s.link first).rx.isEmpty then s.wake (.frame first) true
  else if !(s.link (otherLink first)).rx.isEmpty then s.wake (.frame (otherLink first)) true
  else s

/-- REST is accepted (R122, R123): every REST that waits is answered DONE. -/
def State.acceptRest (first : Link) (s : State) : State :=
  let s1 := (s.modCtl StoreCtl.enterRest).modArb fun a => { a with grant := .free, count := 0 }
  (s.ctl.restWaiting.foldl (fun t q => t.answer q.link q.ticket (.done .none)) s1).wakeIfFrame first

/-- The command REST_TEST (R122): the first REST that waits is tested. -/
def execRestTest (first : Link) (s : State) : Result :=
  match s.ctl.restWaiting with
  | [] => .next s
  | q :: rest =>
    if s.ctl.state = .ready ∧ s.ctl.burst = none then
      if s.mayRest then .next (s.acceptRest first)
      else .next ((s.modCtl fun c => { c with restWaiting := rest }).answer q.link q.ticket (.refused .notIdle))
    else .next s

/-! ## Wake (R124, R125) -/

/-- What the wake cause is owed after READY (R125): a HOLD or RESUME frame is taken with its effect, SHEET START is
answered, PRESS RESET is made; another frame stands at the head of its buffer and its own step takes it. -/
def State.serveWake (w : Option WakeCause) (held : Bool) (s : State) : State :=
  match w with
  | some (.frame x) =>
    match (s.link x).rx with
    | f :: rest =>
      if held && s.canTake x && (f.isHold || f.isResume) then
        let s1 := s.modLink x fun c => { c with rx := rest }
        if f.isHold then s1.takeHold x f else s1.takeResume x
      else s
    | [] => s
  | some .sheetStart => s.takeSheetStart
  | some .pressReset => s.pressResetNow
  | none => s

/-- The command WAKE_COMPLETE (R124): the eighth wake refresh has been made, and what was left before it. -/
def execWakeComplete (s : State) : Result :=
  if s.ctl.state = .waking then
    .next ((s.modCtl fun c =>
      { c.wakeSteps 7 with state := .ready, owed := (c.wakeSteps 7).owed - 1, startStep := none, banks := banksIdle,
                           wakeCause := none, wakeFrameHeld := false }).serveWake s.ctl.wakeCause
        s.ctl.wakeFrameHeld).arbitrate
  else .next s

/-! ## The run limit (R136) -/

/-- SET STORE, once taken (R136): 0 is taken as 1, above 32 as 32. -/
def State.serveSetStore (x : Link) (f : Frame) (s : State) : State :=
  let m := max 1 (min 32 (field 0 1 f.body))
  (s.modArb fun a => { a with runLimit := m }).reply x f (.done (.runLimit m))

/-- The command SET_STORE. -/
def execSetStore (x : Link) (s : State) : Result :=
  .next (s.serveShort x (Frame.isKind ReqKind.setStore) (Frame.hasLength 1) (State.serveSetStore x))

end Sys2Proof.Machine
end

