-- ==== Sys2Proof/Machine/DirectoryCommands.lean ====
section
/-!
DEFINITION. The commands of the album directory: profiles (R33), opening (R34 to R36), retirement (R40 to R42),
listing (R44) and the DAMAGED mark (R31, R160).
-/
namespace Sys2Proof.Machine

/-! ## Profiles -/

/-- SET PROFILE, once taken (R33). -/
def State.serveSetProfile (x : Link) (f : Frame) (s : State) : State :=
  let q := ProfileFields.of f.body
  match q.profileGiven with
  | none => s.reply x f (.refused .badProfile)
  | some pr =>
    if h : q.profile < 8 then
      if 0 < s.dir.profiles[q.profile].uses then s.reply x f (.refused .profileInUse)
      else (s.modDir fun d => { d with profiles := d.profiles.set q.profile pr h }).reply x f (.done .none)
    else s.reply x f (.refused .badProfile)

/-- The command SET_PROFILE. -/
def execSetProfile (x : Link) (s : State) : Result :=
  .next (s.serveShort x (Frame.isKind ReqKind.setProfile) (Frame.hasLength 5) (State.serveSetProfile x))

/-! ## Opening a page -/

/-- The checks of R34, steps 2 to 5, in order. -/
def State.openRefusal (x : Link) (q : OpenFields) (s : State) : Option Refuse :=
  if q.page = 0 then some .badRequest
  else if q.w < 1 ∨ 16384 < q.w ∨ q.ht < 1 ∨ 16384 < q.ht ∨ q.c < 1 ∨ 4 < q.c ∨ q.order = none then
    some .badGeometry
  else if 7 < q.profile then some .badProfile
  else if (s.page q.page).isSome then some .pageExists
  else if Config.directoryPlaces ≤ s.dir.pages.length then some .directoryFull
  else if (s.intake x).page.isSome then some .intakeBusy
  else none

/-- A new page record (R25, R35). -/
def newPage (x : Link) (q : OpenFields) (pr : Profile) (cls : Nat) (target : Option Link) (header : Nat) : Page where
  id := q.page
  state := .opening
  cause := none
  origin := x
  profile := q.profile
  w := q.w
  ht := q.ht
  c := q.c
  order := q.order.getD .highFirst
  cls := cls
  copyTarget := target
  jobTag := q.jobTag
  b := bandsOf q.ht pr.hb
  nextPixel := some 0
  stored := 0
  damaged := false
  damageEvents := 0
  clamped := 0
  printRefs := 0
  streamRefs := 0
  work := 1
  header := header

/-- The page enters the directory and its header initialisation begins (R35, R36). -/
def State.enterPage (x : Link) (ticket : Nat) (p : Page) (s : State) : State :=
  let s1 := s.modDir fun d =>
    { d with pages := d.pages ++ [p],
             inits := d.inits ++ [⟨p.id, x, ticket, 0, p.records, p.header⟩],
             profiles := if h : p.profile < 8 then
                 d.profiles.set p.profile
                   { d.profiles[p.profile] with uses := d.profiles[p.profile].uses + 1 } h
               else d.profiles }
  (s1.modIntake x fun k => { k with page := some p.id }).placeOp
    ⟨.headerInit p.id, recordBurst p.header 0, .write (List.replicate 8 0) (recordMask 0 (min 4 p.records))⟩

/-- The admission of a page (R70, R35): the use of the count in LOW, the header take, the record. The header take is
made in this event (R101) and finds the mode as it stands: NORMAL, which at LW its own report then moves (R70, R71), or,
where a lane's take has met the request, LOW or CLOSED (R77). -/
def State.admitPage (x : Link) (ticket : Nat) (q : OpenFields) (cls : Nat) (target : Option Link) (met : Bool)
    (s : State) : State :=
  let s1 := if met then s else s.useAdmit
  match s1.takeHeadExtent q.page .header with
  | some (e, s2) =>
    (s2.enterPage x ticket
      (newPage x q (s.dir.profiles.toList.getD q.profile Profile.initial) cls target e)).arbitrate
  | none => s1.answer x ticket (.refused .storeLow)

/-- OPEN PAGE, once taken (R34). An empty pool is refused as R34 step 7 says, which R106 makes the same as a free
count of 0. Where the request has met a report that moved the mode, and was taken first (`met`), the check of R70 finds
the NORMAL mode that stood before the report: no admit is used (R77). -/
def State.serveOpenPage (x : Link) (met : Bool) (f : Frame) (ticket : Nat) (s : State) : State :=
  let q := OpenFields.of f.body
  match s.openRefusal x q with
  | some c => s.answer x ticket (.refused c)
  | none =>
    match s.adm.classify x q with
    | .refuse => s.answer x ticket (.refused .ruleRefused)
    | .accept cls target =>
      if (met = false ∧ s.adm.mode = .closed) ∨ s.adm.freeCount = 0 ∨ s.map.pool = [] then
        s.answer x ticket (.refused .storeLow)
      else s.admitPage x ticket q cls target met

/-- The link controller takes the OPEN PAGE at the head of its buffer (R173). -/
def State.takeOpenPage (x : Link) (met : Bool) (s : State) : State :=
  s.serveLong x (Frame.isKind ReqKind.openPage) (Frame.hasLength 11) (State.serveOpenPage x met)

/-- The end of the burst in progress, where a lane's take in it brings the free count below LW in NORMAL: its report may
meet an OPEN PAGE at the admission block (R71, R77). -/
def State.fallThatMeets (us : List Upset) (s : State) : Option State :=
  match s.ctl.burst with
  | none => none
  | some b =>
    let t := s.burstEnded b us
    if b.addr + 8 ≤ s.size.words ∧ s.adm.mode = .normal ∧ t.adm.mode ≠ .normal then some t else none

/-- The command OPEN_PAGE. One that meets the report of a lane's take below LW, and is taken first, comes in one event with
that take: the block checks it against NORMAL, then takes the report, and the header take of the same event (R101) finds
the mode already LOW or CLOSED (R77, log 58). Every other meeting is two commands in either order (log 4). -/
def execOpenPage (x : Link) (s : State) (met : Option (List Upset) := none) : Result :=
  match met with
  | none => .next (s.takeOpenPage x false)
  | some us =>
    match s.fallThatMeets us with
    | none => .next s
    | some t =>
      match t.takeHead x (Frame.isKind ReqKind.openPage) with
      | none => .next s
      | some _ => .next (t.takeOpenPage x true).arbitrate

/-- The header initialisation of a page has ended (R36). -/
def State.headerDone (h : HeaderInit) (s : State) : State :=
  let s1 := s.modDir fun d => { d with inits := d.inits.filter fun i => i.page != h.page }
  match s.page h.page with
  | none => s1
  | some p =>
    let s2 :=
      if p.state = .opening then
        (s1.modPage p.id fun q => { q with state := .filling }).answer h.link h.ticket
          (.done (.opened p.id p.b p.cls p.copyTarget))
      else if p.state = .retiring then s1.answer h.link h.ticket (.refused .pageRetiring)
      else s1
    s2.endWork p.id

/-- The command HEADER_INIT_COMPLETE (R36): the last record has been written. -/
def execHeaderInitComplete (page : Nat) (s : State) : Result :=
  match s.dir.inits.find? (fun h => h.page == page) with
  | some h => if h.total ≤ h.written then .next (s.headerDone h).arbitrate else .next s
  | none => .next s

/-! ## Retiring a page -/

/-- The retire is taken (R40 steps 4 to 6). From here on a sheet of the page that has just been counted stays counted
(log 19). -/
def State.retire (x : Link) (ticket : Nat) (p : Page) (s : State) : State :=
  let s0 := s.modPress fun f => { f with counted := f.counted.filter fun e => e.page != p.id }
  let s1 := [Link.a, Link.b].foldl (State.ceaseIntake p.id) (s0.removeJobs p.id .noPage)
  let s2 := s1.modPage p.id fun q => { q with state := .retiring, cause := none, nextPixel := none }
  let s3 := s2.modDir fun d => { d with releases := d.releases ++ [⟨p.id, x, ticket, false, 0⟩] }
  if p.work = 0 then s3.beginRelease p.id else s3

/-- RETIRE PAGE, once taken (R40). -/
def State.serveRetirePage (x : Link) (f : Frame) (ticket : Nat) (s : State) : State :=
  match s.page (field 0 2 f.body) with
  | none => s.answer x ticket (.refused .noPage)
  | some p =>
    if p.state = .retiring then s.answer x ticket (.refused .pageRetiring)
    else if 0 < p.printRefs ∨ 0 < p.streamRefs then s.answer x ticket (.refused .pageInUse)
    else (s.retire x ticket p).arbitrate

/-- The command RETIRE_PAGE. -/
def execRetirePage (x : Link) (s : State) : Result :=
  .next (s.serveLong x (Frame.isKind ReqKind.retirePage) (Frame.hasLength 2) (State.serveRetirePage x))

/-- A record of a release has been read (R42, R104): its chain returns, then the next record is read or the release
ends. -/
def State.releaseStep (r : Release) (p : Page) (e : TableEnd) (s : State) : State :=
  let rec_ := (readRecord r.next e.words).1
  let s1 := if rec_.state = .pending then s else s.returnChain (s.map.chooseChain p.id r.next rec_.first)
  if r.next + 1 < p.records then
    (s1.modDir fun d =>
      { d with releases := d.releases.map fun q => if q.page = p.id then { q with next := q.next + 1 } else q }).placeRead
        (.release p.id) p.header (r.next + 1) 1 false
  else s1.endRelease r p

/-- The command RELEASE_RECORD_READ (R104), of the page named. -/
def execReleaseRecordRead (page : Nat) (s : State) : Result :=
  match s.takeEnd (· == .release page), s.dir.releases.find? (fun r => r.page == page), s.page page with
  | some (e, s1), some r, some p => .next (s1.releaseStep r p e).arbitrate
  | _, _, _ => .next s

/-! ## Listing a page -/

/-- LIST PAGE, once taken (R44). -/
def State.serveListPage (x : Link) (f : Frame) (ticket : Nat) (s : State) : State :=
  let first := field 2 2 f.body
  let count := field 4 2 f.body
  match s.page (field 0 2 f.body) with
  | none => s.answer x ticket (.refused .noPage)
  | some p =>
    if p.state = .retiring then s.answer x ticket (.refused .pageRetiring)
    else if 1024 < count then s.answer x ticket (.refused .badRequest)
    else if 0 < count ∧ p.state = .opening then s.answer x ticket (.refused .pageState)
    else if 0 < count ∧ p.records ≤ first then s.answer x ticket (.refused .badRequest)
    else if count = 0 then s.answer x ticket (.done (.listed p.listing []))
    else
      let s1 := s.modPage p.id fun q => { q with work := q.work + 1 }
      let s2 := s1.modDir fun d =>
        { d with listings := d.listings ++ [⟨x, ticket, p.id, first, min (first + count) p.records, []⟩] }
      (s2.placeRead (.listing x ticket) p.header first 1 true).arbitrate

/-- The command LIST_PAGE. -/
def execListPage (x : Link) (s : State) : Result :=
  .next (s.serveLong x (Frame.isKind ReqKind.listPage) (Frame.hasLength 6) (State.serveListPage x))

/-- The record listing of a record as read (R44, R189): a record with a parity failure is unreadable; the two words
stand as read. -/
def recordListing (index : Nat) (ws : List ReadWord) : RecordListing :=
  let p := recordWords index ws
  ⟨!(p.1.bad || p.2.bad), p.1.word, p.2.word⟩

/-- A record of a listing has been read (R44). -/
def State.listStep (q : Listing) (e : TableEnd) (s : State) : State :=
  let got := q.got ++ [recordListing q.next e.words]
  if q.next + 1 < q.stop then
    let s1 := s.modDir fun d =>
      { d with listings := d.listings.map fun r =>
          if r.ticket = q.ticket then { r with next := r.next + 1, got := got } else r }
    match s.page q.page with
    | some p => s1.placeRead (.listing q.link q.ticket) p.header (q.next + 1) 1 true
    | none => s1
  else
    let s1 := s.modDir fun d => { d with listings := d.listings.filter fun r => r.ticket != q.ticket }
    match s.page q.page with
    | some p => (s1.answer q.link q.ticket (.done (.listed p.listing got))).endWork q.page
    | none => s1

/-- The operation is a listing's, of this link. -/
def Client.isListing (x : Link) : Client → Bool
  | .listing y _ => y == x
  | _ => false

/-- The listing an ended operation belongs to. -/
def Directory.listingOf (d : Directory) : Client → Option Listing
  | .listing y k => d.listings.find? fun q => q.link == y && q.ticket == k
  | _ => none

/-- The command LIST_PAGE_READ_END (R44): the earliest ended read of a listing of the link. -/
def execListPageReadEnd (x : Link) (s : State) : Result :=
  match s.takeEnd (Client.isListing x) with
  | none => .next s
  | some (e, s1) =>
    match s1.dir.listingOf e.op.client with
    | some q => .next (s1.listStep q e).arbitrate
    | none => .next s1

/-! ## The DAMAGED mark -/

/-- The operation is a DAMAGED mark. -/
def Client.isMark : Client → Bool
  | .mark _ _ _ => true
  | _ => false

/-- The command DAMAGED_MARK_WRITE_END (R31, R160): the record stands DAMAGED in the store since the end of its
burst; nothing else changes. -/
def execDamagedMarkWriteEnd (s : State) : Result :=
  match s.takeEnd Client.isMark with
  | some (_, s1) => .next s1
  | none => .next s

end Sys2Proof.Machine
end

