-- ==== Sys2Proof/Machine/Lanes.lean ====
section
/-!
DEFINITION. The commands of the intake and of the lanes: PIXELS and the end of its writing (R49, R53), the ends of
an ENCODE job (R89), the PROOF job (R83, R92, R93), and SET LANE TABLE (R81).
-/
namespace Sys2Proof.Machine

/-! ## Intake -/

/-- The command PIXELS (R48, R49). -/
def execPixels (x : Link) (s : State) : Result :=
  .next (s.serveShort x (Frame.isKind ReqKind.pixels) Frame.hasPixelsPart (State.servePixels x)).arbitrate

/-- The last burst of an intake's frame is being made. -/
def State.lastBurst (x : Link) (f : FrameWriting) (s : State) : Bool :=
  match s.ctl.burst with
  | some b => b.live && b.req == .intake x && f.writes.length == 1
  | none => false

/-- The command PIXELS_WRITE_END (R53): every write of the frame in progress has been handed over, the last one made or
being made. In the second case the burst is made whole for nobody, and the next frame may be taken before it ends, which
lets the intake's RUN go on into that frame (R134, log 39). -/
def execPixelsWriteEnd (x : Link) (s : State) : Result :=
  match (s.intake x).frame with
  | some f =>
    if f.writes.isEmpty then .next (s.pixelsWritten x f).arbitrate
    else if s.lastBurst x f then .next ((s.disown fun b => b.req == .intake x).pixelsWritten x f).arbitrate
    else .next s
  | none => .next s

/-! ## ENCODE -/

/-- The command ENCODE_END (R89, R91): the last payload word has been written. The page's state is tested here: a failure
or retire taken between the end of the last burst and this command counts as before the end (log 43). -/
def execEncodeEnd (l : Lane) (s : State) : Result :=
  match s.lane l with
  | .encoding j r => if r.finished then .next (s.encodeEnded l j r).arbitrate else .next s
  | _ => .next s

/-- The STORED record of a lane's job has been written (R89 steps 2 to 4). -/
def State.bandRecorded (l : Lane) (j : Job) (s : State) : State := (s.recordStored j.page).encodeOver l j

/-- The command BAND_RECORD_WRITE_END (R89). -/
def execBandRecordWriteEnd (l : Lane) (s : State) : Result :=
  match s.lane l, s.takeEnd (· == .lane l) with
  | .encoding j r, some (_, s1) => if r.phase = .recording then .next (s1.bandRecorded l j).arbitrate else .next s
  | _, _ => .next s

/-! ## PROOF -/

/-- A job is a PROOF job of this band-component (R83 step 5). -/
def Job.proves (page band comp : Nat) (j : Job) : Bool :=
  match j.source with
  | .request _ _ _ => j.page == page && j.band == band && j.comp == comp
  | .slot _ _ => false

/-- The job a lane runs. -/
def LaneState.job : LaneState → Option Job
  | .idle => none
  | .encoding j _ => some j
  | .decoding j _ => some j

/-- A PROOF job of this band-component is queued or running (R83 step 5). -/
def Dispatcher.proving (d : Dispatcher) (page band comp : Nat) : Bool :=
  d.waiting.any (Job.proves page band comp) ||
    allLanes.any fun l => ((d.lanes.get l).job.map (Job.proves page band comp)).getD false

/-- READ BAND in decoded form, once taken (R83). -/
def State.serveReadBandDecoded (x : Link) (f : Frame) (ticket : Nat) (s : State) : State :=
  let q := BandFields.of f.body
  match s.page q.page with
  | none => s.answer x ticket (.refused .noPage)
  | some p =>
    if p.state = .retiring then s.answer x ticket (.refused .pageRetiring)
    else if p.state = .opening then s.answer x ticket (.refused .notCoded)
    else if p.b ≤ q.band ∨ p.c ≤ q.comp then s.answer x ticket (.refused .badRequest)
    else if s.disp.proving p.id q.band q.comp then s.answer x ticket (.refused .lanesBusy)
    else
      let l := s.disp.destined p.id q.band q.comp
      if Config.laneQueuePlaces ≤ (s.disp.queues.get l).length then s.answer x ticket (.refused .lanesBusy)
      else
        let j : Job := ⟨p.id, q.band, q.comp, p.cls, .request x ticket f.tag, l, s.disp.nextArrival⟩
        ((s.modDisp fun d =>
          { d with nextArrival := d.nextArrival + 1, queues := d.queues.set l (d.queues.get l ++ [j]) }).laneTake
            l).arbitrate

/-- The command READ_BAND_DECODED. -/
def execReadBandDecoded (x : Link) (s : State) : Result :=
  .next (s.serveLong x Frame.takenAsDecoded Frame.readBandOk (State.serveReadBandDecoded x))

/-- The command PROOF_RECORD_READ_END (R92). -/
def execProofRecordReadEnd (l : Lane) (s : State) : Result :=
  match s.lane l, s.takeEnd (· == .lane l) with
  | .decoding j .recordRead, some (e, s1) => .next (s1.proofRecord l j e).arbitrate
  | _, _ => .next s

/-- A lane that waits for a general place gets it (R175), places the frames of its row and decodes on (R93). -/
def State.proofPlace (l : Lane) (j : Job) (r : BandRecord) (k : Decoder) (f : OutFrame) (rest : List OutFrame)
    (s : State) : State :=
  let s1 := s.modLink j.link fun c => ({ c with waiters := c.waiters.tail } : LinkCtl).place f
  match s1.placeRows l j.link rest with
  | ([], s2) => s2.proofRun l j r k
  | (g :: more, s2) => s2.setLane l (.decoding j (.rows r k (g :: more)))

/-- The command PROOF_ROW_PLACE (R93, R175): a general place is free and this lane has waited longest. -/
def execProofRowPlace (l : Lane) (s : State) : Result :=
  match s.lane l with
  | .decoding j (.rows r k (f :: rest)) =>
    if (s.link j.link).hasPlace && (s.link j.link).waiters.head? == some (.lane l) then
      .next (s.proofPlace l j r k f rest).arbitrate
    else .next s
  | _ => .next s

/-! ## The indirection table -/

/-- The 32 entries as lanes, if each is one (R81). -/
def laneTableOf (ns : List Nat) : Option (Vector Lane 32) :=
  if ns.all (fun n => decide (n ≤ 3)) then some (Vector.ofFn fun i => Lane.ofNat (ns.getD i.val 0)) else none

/-- SET LANE TABLE, once taken (R81): table bits of 0 are taken as 1. -/
def State.serveSetLaneTable (x : Link) (f : Frame) (s : State) : State :=
  let b := max 1 (field 0 1 f.body)
  match laneTableOf (laneEntries f.body) with
  | some t =>
    if b ≤ 5 then
      (s.modDisp fun d => { d with tableBits := b, table := t }).reply x f (.done (.laneTable b))
    else s.reply x f (.refused .badRequest)
  | none => s.reply x f (.refused .badRequest)

/-- The command SET_LANE_TABLE. -/
def execSetLaneTable (x : Link) (s : State) : Result :=
  .next (s.serveShort x (Frame.isKind ReqKind.setLaneTable) (Frame.hasLength 33) (State.serveSetLaneTable x))

end Sys2Proof.Machine
end

