-- ==== Sys2Proof/Machine/Streams.lean ====
section
/-!
DEFINITION. The commands of the stream engine (R168, R178 to R181).
-/
namespace Sys2Proof.Machine

/-- READ BAND in compressed form, once taken (R178): the checks, then the record read. -/
def State.serveReadBandCompressed (x : Link) (f : Frame) (ticket : Nat) (s : State) : State :=
  let q := BandFields.of f.body
  match s.page q.page with
  | none => s.answer x ticket (.refused .noPage)
  | some p =>
    if p.state = .retiring then s.answer x ticket (.refused .pageRetiring)
    else if p.state = .opening then s.answer x ticket (.refused .notCoded)
    else if p.b ≤ q.band ∨ p.c ≤ q.comp then s.answer x ticket (.refused .badRequest)
    else
      ((s.modLink x fun c =>
        { c with recordReads := c.recordReads ++ [⟨ticket, f.tag, p.id, q.band, q.comp, q.check, false⟩] }).placeRead
          (.readBand x ticket) p.header (q.band * p.c + q.comp) 1 true).arbitrate

/-- The command READ_BAND_COMPRESSED. -/
def execReadBandCompressed (x : Link) (s : State) : Result :=
  .next (s.serveLong x Frame.takenAsCompressed Frame.readBandOk (State.serveReadBandCompressed x))

/-- The operation is the record read of a compressed READ BAND of this link. -/
def Client.isReadBand (x : Link) : Client → Bool
  | .readBand y _ => y == x
  | _ => false

/-- The record read an ended operation belongs to. -/
def LinkCtl.recordRead (c : LinkCtl) : Client → Option RecordRead
  | .readBand _ k => c.recordReads.find? fun q => q.ticket == k
  | _ => none

/-- The request is still outstanding: link reset has not dropped it (R182). -/
def LinkCtl.outstanding (c : LinkCtl) (ticket : Nat) : Bool := c.long.any fun q => q.ticket == ticket

/-- The record of a compressed READ BAND has been read (R178); one dropped by link reset starts no stream (R182). -/
def State.readBandEnded (x : Link) (q : RecordRead) (e : TableEnd) (s : State) : State :=
  let s1 := s.modLink x fun c =>
    { c with recordReads := c.recordReads.filter fun r => r.ticket != q.ticket }
  if (s.link x).outstanding q.ticket then s1.readBandRecord x q e else s1

/-- The command READ_BAND_RECORD_READ_END (R178): the earliest ended one of the link. -/
def execReadBandRecordReadEnd (x : Link) (s : State) : Result :=
  match s.takeEnd (Client.isReadBand x) with
  | none => .next s
  | some (e, s1) =>
    match (s1.link x).recordRead e.op.client with
    | some q => .next (s1.readBandEnded x q e).arbitrate
    | none => .next s1

/-- The command STREAM_PLACE_CLAIM (R179, R175). -/
def execStreamPlaceClaim (x : Link) (s : State) : Result :=
  if (s.link x).filling.isNone && (s.link x).engineMay then .next (s.streamClaim x).arbitrate else .next s

/-- The copy stream an ended operation belongs to: the one whose frame the engine fills, since it reads a record in the
place it has claimed (R179). -/
def LinkCtl.copyOf (c : LinkCtl) : Client → Option Stream
  | .copy _ serial => if c.filling.map Filling.serial = some serial then c.stream serial else none
  | _ => none

/-- The command COPY_RECORD_READ_END (R168, R180). -/
def execCopyRecordReadEnd (x : Link) (s : State) : Result :=
  match s.takeEnd (Client.isCopy x) with
  | none => .next s
  | some (e, s1) =>
    match (s1.link x).copyOf e.op.client with
    | some st => .next (s1.copyRecord x st e).arbitrate
    | none => .next s1

/-- The command STREAM_FRAME_PLACED (R179, R181): the words of the frame have been read. -/
def execStreamFramePlaced (x : Link) (s : State) : Result :=
  match (s.link x).filled with
  | some (st, ws) => .next (s.streamPlaced x st ws)
  | none => .next s

/-- A copy stream that has sent its last band-component places COPY DONE and leaves the list (R168, R180). -/
def State.copyFinish (x : Link) (st : Stream) (s : State) : State :=
  (s.modLink x fun c =>
    (({ c with waiters := c.waiters.filter (· != .engine) } : LinkCtl).place
      (.notice (.copyDone st.page st.marked))).dropStream st.serial).dropStreamRef st.page

/-- The command COPY_DONE (R180): of several copy streams that owe it the first in the link's list places it (log 60).
-/
def execCopyDone (x : Link) (s : State) : Result :=
  match (s.link x).streams.find? Stream.finished with
  | some st => if (s.link x).engineMay then .next (s.copyFinish x st) else .next s
  | none => .next s

end Sys2Proof.Machine
end

