-- ==== Sys2Proof/Machine/Dispatch.lean ====
section
/-!
DEFINITION. The dispatch of the commands: one arm for each constructor of Instr, each a direct call of its meaning.
-/
namespace Sys2Proof.Machine

/-- The effect of a command on everything but the queue of commands. -/
def exec (i : Instr) (s : State) : Host.Outcome State Fault Refusal :=
  match i with
  | .powerOnReset sz1 sz0 => Sys2Proof.Machine.execPowerOnReset sz1 sz0 s
  | .settleTimerExpiry => Sys2Proof.Machine.execSettleTimerExpiry s
  | .startSequenceComplete => Sys2Proof.Machine.execStartSequenceComplete s
  | .refreshDuePoint steps => Sys2Proof.Machine.execRefreshDuePoint steps s
  | .refreshMade => Sys2Proof.Machine.execRefreshMade s
  | .burstEnd upsets => Sys2Proof.Machine.execBurstEnd upsets s
  | .frameArrival x bytes => Sys2Proof.Machine.execFrameArrival x bytes s
  | .wakeComplete => Sys2Proof.Machine.execWakeComplete s
  | .badKindRequest x => Sys2Proof.Machine.execBadKindRequest x s
  | .openPage x met => Sys2Proof.Machine.execOpenPage x s met
  | .headerInitComplete page => Sys2Proof.Machine.execHeaderInitComplete page s
  | .pixels x => Sys2Proof.Machine.execPixels x s
  | .pixelsWriteEnd x => Sys2Proof.Machine.execPixelsWriteEnd x s
  | .encodeEnd l => Sys2Proof.Machine.execEncodeEnd l s
  | .bandRecordWriteEnd l => Sys2Proof.Machine.execBandRecordWriteEnd l s
  | .readBandDecoded x => Sys2Proof.Machine.execReadBandDecoded x s
  | .proofRecordReadEnd l => Sys2Proof.Machine.execProofRecordReadEnd l s
  | .proofRowPlace l => Sys2Proof.Machine.execProofRowPlace l s
  | .damagedMarkWriteEnd => Sys2Proof.Machine.execDamagedMarkWriteEnd s
  | .retirePage x => Sys2Proof.Machine.execRetirePage x s
  | .releaseRecordRead page => Sys2Proof.Machine.execReleaseRecordRead page s
  | .listPage x => Sys2Proof.Machine.execListPage x s
  | .listPageReadEnd x => Sys2Proof.Machine.execListPageReadEnd x s
  | .setProfile x => Sys2Proof.Machine.execSetProfile x s
  | .setRule x => Sys2Proof.Machine.execSetRule x s
  | .setDefaultClass x => Sys2Proof.Machine.execSetDefaultClass x s
  | .setWatermarks x => Sys2Proof.Machine.execSetWatermarks x s
  | .setLaneTable x => Sys2Proof.Machine.execSetLaneTable x s
  | .setPress x => Sys2Proof.Machine.execSetPress x s
  | .setStore x => Sys2Proof.Machine.execSetStore x s
  | .readStatus x => Sys2Proof.Machine.execReadStatus x s
  | .clearStatus x => Sys2Proof.Machine.execClearStatus x s
  | .rest x => Sys2Proof.Machine.execRest x s
  | .restTest first => Sys2Proof.Machine.execRestTest first s
  | .hold x => Sys2Proof.Machine.execHold x s
  | .resume x => Sys2Proof.Machine.execResume x s
  | .holdTimerExpiry x => Sys2Proof.Machine.execHoldTimerExpiry x s
  | .outboundFrameSent x => Sys2Proof.Machine.execOutboundFrameSent x s
  | .linkReset x => Sys2Proof.Machine.execLinkReset x s
  | .readBandCompressed x => Sys2Proof.Machine.execReadBandCompressed x s
  | .readBandRecordReadEnd x => Sys2Proof.Machine.execReadBandRecordReadEnd x s
  | .streamPlaceClaim x => Sys2Proof.Machine.execStreamPlaceClaim x s
  | .copyRecordReadEnd x => Sys2Proof.Machine.execCopyRecordReadEnd x s
  | .streamFramePlaced x => Sys2Proof.Machine.execStreamFramePlaced x s
  | .copyDone x => Sys2Proof.Machine.execCopyDone x s
  | .print x => Sys2Proof.Machine.execPrint x s
  | .cancelPrint x => Sys2Proof.Machine.execCancelPrint x s
  | .pressRecordReadEnd => Sys2Proof.Machine.execPressRecordReadEnd s
  | .pressLineFinish => Sys2Proof.Machine.execPressLineFinish s
  | .sheetStart => Sys2Proof.Machine.execSheetStart s
  | .lineRequest => Sys2Proof.Machine.execLineRequest s
  | .pressAnswerEnd => Sys2Proof.Machine.execPressAnswerEnd s
  | .sheetAbort => Sys2Proof.Machine.execSheetAbort s
  | .pressReset => Sys2Proof.Machine.execPressReset s
  | .linkResetSequenceEnd x => Sys2Proof.Machine.execLinkResetSequenceEnd x s

end Sys2Proof.Machine
end

