-- ==== Sys2Proof/Safety.lean ====
section
/-!
DEFINITION. The vocabulary of the statements: what a request on offer is, what taking and answering it does to its
link, the parts of the state that most commands leave alone, and the invariants of the part.
-/
namespace Sys2Proof.Machine

/-! ## Requests -/

/-- A request of kind `k` stands at the head of the link's receive buffer, a reply place is free and the part is
READY: the link controller takes it (R172, R173). -/
def State.offers (s : State) (x : Link) (k : Nat) (f : Frame) : Bool :=
  (s.link x).rx.head? == some f && f.k == k && decide ((s.link x).replyUse < Config.replyPlaces) && s.part == .ready

/-- The link after a frame has been taken: the frame has left the buffer and holds a reply place (R173). -/
def LinkCtl.took (c : LinkCtl) : LinkCtl := { c with rx := c.rx.tail, replyUse := c.replyUse + 1 }

/-- The link after a request has been taken and answered in the same event (R173, R174). -/
def LinkCtl.answered (c : LinkCtl) (f : Frame) (r : ReplyResult) : LinkCtl := c.took.place (.reply f.k f.tag r)

/-- The state after the request at the head of a link has been taken and answered: the link alone changes. -/
def State.answeredAt (x : Link) (f : Frame) (r : ReplyResult) (s : State) : State :=
  { s with links := s.links.set x ((s.link x).answered f r) }

/-- The state after a long request has been taken and answered in the same event: the link alone changes, and one
ticket more has been given out (log 6). -/
def State.answeredLong (x : Link) (f : Frame) (r : ReplyResult) (s : State) : State :=
  { s with links := s.links.set x ((s.link x).answered f r), nextTicket := s.nextTicket + 1 }

/-- The link after a long request has been taken and made outstanding under ticket `n` (R173 step 5). -/
def LinkCtl.tookLong (c : LinkCtl) (f : Frame) (n : Nat) : LinkCtl :=
  { c.took with long := c.long ++ [⟨n, f.k, f.tag⟩] }

/-- The link after an outstanding long request has been answered (R174). -/
def LinkCtl.repliedLong (c : LinkCtl) (q : LongReq) (r : ReplyResult) : LinkCtl :=
  ({ c with long := c.long.filter fun p => p.ticket != q.ticket } : LinkCtl).place (.reply q.kind q.tag r)

/-- The long requests of the link were made outstanding under tickets below the counter (log 6). -/
def State.freshTickets (s : State) : Bool :=
  [Link.a, Link.b].all fun x => (s.link x).long.all fun q => decide (q.ticket < s.nextTicket)

/-- The commands that take a request from a receive buffer and do nothing else, each with its link and the frames it
takes. -/
def requestOf : Instr → Option (Link × (Frame → Bool))
  | .badKindRequest x => some (x, Frame.badKind)
  | .openPage x none => some (x, Frame.isKind 1)
  | .pixels x => some (x, Frame.isKind 2)
  | .retirePage x => some (x, Frame.isKind 3)
  | .print x => some (x, Frame.isKind 4)
  | .cancelPrint x => some (x, Frame.isKind 5)
  | .readBandDecoded x => some (x, Frame.takenAsDecoded)
  | .readBandCompressed x => some (x, Frame.takenAsCompressed)
  | .listPage x => some (x, Frame.isKind 7)
  | .readStatus x => some (x, Frame.isKind 8)
  | .clearStatus x => some (x, Frame.isKind 9)
  | .setProfile x => some (x, Frame.isKind 10)
  | .setRule x => some (x, Frame.isKind 11)
  | .setDefaultClass x => some (x, Frame.isKind 12)
  | .setLaneTable x => some (x, Frame.isKind 13)
  | .setWatermarks x => some (x, Frame.isKind 14)
  | .setPress x => some (x, Frame.isKind 15)
  | .setStore x => some (x, Frame.isKind 16)
  | .rest x => some (x, Frame.isKind 17)
  | .hold x => some (x, Frame.isKind 18)
  | .resume x => some (x, Frame.isKind 19)
  | _ => none

/-- The body has the length its kind requires, and the fields of READ BAND that select between forms hold one
(R173 step 3, R186); a frame of no request kind has none. -/
def Frame.lengthOk (f : Frame) : Bool :=
  match f.k with
  | 1 => f.body.length == 11
  | 2 => decide (8 ≤ f.body.length)
  | 3 => f.body.length == 2
  | 4 => f.body.length == 3
  | 5 => f.body.length == 2
  | 6 => f.body.length == 7 && decide (field 5 1 f.body ≤ 1) && decide (field 6 1 f.body ≤ 1)
  | 7 => f.body.length == 6
  | 8 => f.body.length == 0
  | 9 => f.body.length == 0
  | 10 => f.body.length == 5
  | 11 => f.body.length == 11
  | 12 => f.body.length == 1
  | 13 => f.body.length == 33
  | 14 => f.body.length == 5
  | 15 => f.body.length == 3
  | 16 => f.body.length == 1
  | 17 => f.body.length == 0
  | 18 => f.body.length == 2
  | 19 => f.body.length == 0
  | _ => false

/-- The kinds of the long requests (R173): OPEN PAGE, RETIRE PAGE, READ BAND, LIST PAGE, REST. -/
def Frame.isLong (f : Frame) : Bool := f.k == 1 || f.k == 3 || f.k == 6 || f.k == 7 || f.k == 17

/-- A long request on offer that will reach its owner (R173): of the right length, with a long-request slot free, its
link's tickets in order (log 6). -/
def State.offersLong (s : State) (x : Link) (k : Nat) (f : Frame) : Bool :=
  s.offers x k f && f.lengthOk && decide ((s.link x).long.length < Config.longSlots) && s.freshTickets

/-- The state with the long request at the head of a link made outstanding, and nothing else done. -/
def State.madeLong (x : Link) (f : Frame) (s : State) : State :=
  { s with links := s.links.set x ((s.link x).tookLong f s.nextTicket), nextTicket := s.nextTicket + 1 }

/-! ## The coding context -/

/-- Every reconstruction a context holds lies in 0..MAXVAL, and its previous row is whole (R3, R4). -/
def Context.healthy (c : Context) : Prop :=
  (∀ up, c.prev = some up → up.length = c.w ∧ ∀ y ∈ up, y ≤ maxVal c.d) ∧ ∀ y ∈ c.cur, y ≤ maxVal c.d

/-! ## What most commands leave alone -/

/-- The store with the index of its free contents, the latched store size, the queue of commands and the owed
refresh count: one burst, one reset or one timer changes them. -/
def State.still (s : State) : Memory × Nat × StoreSize × List Instr × Nat :=
  (s.store, s.powerOns, s.size, s.pending, s.ctl.owed)

/-- The settings that only the SET requests write, and the two receive buffers: what no store event, no end of work
and no reply changes. -/
def State.tuned (s : State) :
    (Vector Rule 8 × Nat × Nat × Nat × Nat) × (Nat × Vector Lane 32) × Nat × PressSettings × List Frame × List Frame :=
  ((s.adm.rules, s.adm.defaultClass, s.adm.lw, s.adm.hw, s.adm.k), (s.disp.tableBits, s.disp.table), s.arb.runLimit,
    s.press.settings, (s.link .a).rx, (s.link .b).rx)

/-! ## Ends of work -/

/-- An intake after one ENCODE job of a slot has ended (R56, R58): the last one empties the slot, and hold ceases. -/
def Intake.slotEnded (k : Intake) (t : SlotId) : Intake :=
  if (k.slots.get t).jobs ≤ 1 then { k with slots := k.slots.set t ⟨.empty, none, none, 0, 0⟩, hold := false }
  else { k with slots := k.slots.set t { k.slots.get t with jobs := (k.slots.get t).jobs - 1 } }

/-- An intake after those of these ENCODE jobs that are jobs of its slots have ended, one after another (R56, R95). -/
def Intake.jobsEnded (y : Link) (l : List Job) (k : Intake) : Intake :=
  l.foldl (fun k j =>
    match j.source with
    | .slot z t => if z = y then k.slotEnded t else k
    | .request _ _ _ => k) k

/-- A slot is FILLING with a page. -/
def Slot.fills (id : Nat) (t : Slot) : Bool := t.state == .filling && t.page == some id

/-- An intake after a page has ceased to be its intake page, if it was (R47, R60): the frame in progress is void, and a
slot FILLING with the page becomes EMPTY, with which hold ceases. -/
def Intake.ceased (id : Nat) (k : Intake) : Intake :=
  if k.page = some id then
    let emptied (t : Slot) : Slot := if t.fills id then ⟨.empty, none, none, 0, 0⟩ else t
    { k with
      page := none
      frame := k.frame.map fun f => { f with void := true }
      slots := ⟨emptied k.slots.s0, emptied k.slots.s1⟩
      hold := k.hold && !(k.slots.s0.fills id || k.slots.s1.fills id) }
  else k

/-- The frame has been placed on the link: it is being sent or waits in the queue. -/
def LinkCtl.holds (c : LinkCtl) (g : OutFrame) : Bool := c.sending == some g || c.out.contains g

/-- How many frames equal to this one have been placed on the link and not yet sent. -/
def LinkCtl.placed (c : LinkCtl) (g : OutFrame) : Nat := (c.sending.toList ++ c.out).count g

/-- The link after another event holds the notice, or has counted it discarded (R175). -/
def LinkCtl.told (after before : LinkCtl) (n : Notice) : Prop :=
  after.holds (.notice n) = true ∨ after.noticesDiscarded = 65535 ∨ before.noticesDiscarded < after.noticesDiscarded

/-- The links with STORE_PARITY set on both if `bad` holds (R161). -/
def parityFlagged (bad : Bool) (l : Pair LinkCtl) : Pair LinkCtl :=
  if bad then ⟨{ l.a with flags := { l.a.flags with storeParity := true } },
    { l.b with flags := { l.b.flags with storeParity := true } }⟩
  else l

/-- The links after an outstanding long request has been answered; one that link reset has dropped is not (R182). -/
def longReplied (x : Link) (ticket : Nat) (r : ReplyResult) (l : Pair LinkCtl) : Pair LinkCtl :=
  match (l.get x).long.find? (fun q => q.ticket == ticket) with
  | none => l
  | some q => l.set x ((l.get x).repliedLong q r)

/-- No job waits for an idle lane (R84, R85): its queue is empty and no pending job is destined for it. -/
def State.lanesTaken (s : State) : Bool :=
  allLanes.all fun l => s.lane l != .idle || ((s.disp.queues.get l).isEmpty && s.disp.allPending.all fun j => j.lane != l)

/-- The job waits, or a lane runs it. -/
def Dispatcher.holds (d : Dispatcher) (j : Job) : Bool :=
  d.waiting.contains j || allLanes.any fun l => (d.lanes.get l).job == some j

/-- The page records with one of a page changed. -/
def pagesWith (id : Nat) (f : Page → Page) (l : List Page) : List Page :=
  l.map fun q => if q.id = id then f q else q

/-- The TABLE queue after the work of a page has ended (R41, R42): a RETIRING page with no work left has its first
record read for the release. -/
def queueAfterWork (p : Page) (q : List TableOp) : List TableOp :=
  if p.state = .retiring ∧ p.work ≤ 1 then
    q ++ [⟨.release p.id, recordBurst p.header 0, .read (recordMask 0 1) false⟩]
  else q

/-- The TABLE queue after the press decoder has placed an operation: after its own that wait, before all others
(R128). -/
def pressQueued (op : TableOp) (q : List TableOp) : List TableOp :=
  q.takeWhile TableOp.byPress ++ op :: q.dropWhile TableOp.byPress

/-- The arbiter after an operation has been placed: at its place in the TABLE queue, or, while the client's granted
operation of ended work is still being made, among the deferred ones (R128). -/
def State.opPlaced (s : State) (op : TableOp) : Arbiter :=
  if s.stillMade op.client then { s.arb with deferred := s.arb.deferred ++ [op] }
  else { s.arb with
    tableQueue := if op.byPress then pressQueued op s.arb.tableQueue else s.arb.tableQueue ++ [op] }

/-- The page record after a damage event (R159). -/
def Page.damagedOnce (p : Page) : Page := { p with damaged := true, damageEvents := min 255 (p.damageEvents + 1) }

/-- The arbiter after a payload failure has been found in a record read as `r` (R160): the DAMAGED mark of a record read
STORED waits at TABLE. -/
def State.markPlaced (s : State) (p : Page) (index : Nat) (r : BandRecord) (byPress : Bool) : Arbiter :=
  if r.state = .stored then
    s.opPlaced ⟨.mark p.id index byPress, recordBurst p.header index,
      .write (recordData index { r with state := .damaged }) (recordMask index 1)⟩
  else s.arb

/-- The map after these extents have gone to the tail of the pool one after another, their entries FREE (R103). -/
def ExtentMap.freed (m : ExtentMap) (es : List Nat) : ExtentMap := ⟨es.foldl planeDrop m.table, m.pool ++ es⟩

/-- The extents of the chain that begins at an extent, if one is named. -/
def ExtentMap.chainOf (m : ExtentMap) (first : Option Nat) : List Nat :=
  match first with
  | none => []
  | some e => m.chainFrom m.table.length e

/-- The map after the chains that begin at these extents have gone to the tail of the pool one after another (R105). -/
def ExtentMap.freedChains (m : ExtentMap) (firsts : List Nat) : ExtentMap :=
  firsts.foldl (fun m e => m.freed (m.chainOf (some e))) m

/-- The state after `n` extents have gone to the tail of the pool one after another, as far as their reports tell: each
reports the free count that its return leaves (R72, R103, R106). -/
def State.risen (n : Nat) (s : State) : State :=
  (List.range n).foldl (fun u i => u.reportRise (s.map.pool.length + i + 1)) s

/-- The links after one ENCODE job of a slot has ended (R56, R58): RESUME where that empties the slot and hold is in
force. -/
def State.resumed (x : Link) (t : SlotId) (s : State) : Pair LinkCtl :=
  if ((s.intake x).slots.get t).jobs ≤ 1 ∧ (s.intake x).hold = true then
    s.links.set x ((s.link x).placeNotice .resume)
  else s.links

/-! ## Invariants -/

/-- The free count as last reported is the number of extents in the pool (R99, R106). -/
def State.countedPool (s : State) : Bool := s.adm.freeCount == s.map.pool.length

/-- The places of a link (R170): the receive buffer, the long requests outstanding, the two saturating counts. -/
def LinkCtl.bounded (c : LinkCtl) : Bool :=
  decide (c.rx.length ≤ Config.rxPlaces) && decide (c.long.length ≤ Config.longSlots) &&
    decide (c.framesDiscarded ≤ Config.countMax) && decide (c.noticesDiscarded ≤ Config.countMax)

/-- Both links keep their bounds (R170). -/
def State.linksBounded (s : State) : Bool := s.links.a.bounded && s.links.b.bounded

/-- The free count is the pool's, the links keep their bounds, and the tickets given out lie below the counter. -/
def State.sound (s : State) : Bool := s.countedPool && s.linksBounded && s.freshTickets

/-- The places of the outbound queue (R170, R175): eight for replies, 24 held by notices, DATA frames and the claim. -/
def LinkCtl.roomy (c : LinkCtl) : Bool :=
  decide (c.replyUse ≤ Config.replyPlaces) && decide (c.generalUse ≤ Config.generalPlaces)

/-- No more is held than there are places for: outbound frames on each link (R175), pages (R24), jobs in each lane queue
(R82), print entries (R139), words of the press FIFO (R145). -/
def State.withinPlaces (s : State) : Bool :=
  s.links.a.roomy && s.links.b.roomy && decide (s.dir.pages.length ≤ Config.directoryPlaces) &&
    allLanes.all (fun l => decide ((s.disp.queues.get l).length ≤ Config.laneQueuePlaces)) &&
    decide (s.press.schedule.length ≤ Config.schedulePlaces) && decide (s.press.fifoWords ≤ Config.fifoWords)

/-- The settings in force lie in their ranges (R64, R79, R126, R143). -/
def State.settingsLegal (s : State) : Bool :=
  decide (s.adm.defaultClass ≤ 4) && decide (s.adm.lw ≤ s.adm.hw) && decide (s.adm.k ≤ 15) &&
    decide (1 ≤ s.disp.tableBits) && decide (s.disp.tableBits ≤ 5) &&
    decide (1 ≤ s.arb.runLimit) && decide (s.arb.runLimit ≤ 32) &&
    decide (1 ≤ s.press.settings.u) && decide (s.press.settings.u ≤ s.press.settings.p) &&
    decide (s.press.settings.p ≤ 64)

end Sys2Proof.Machine
end

