-- ==== Sys2Proof/WellFormed.lean ====
section
/-!
DEFINITION. Which commands are well formed: the ranges of the operands, from the rules that give them.
A frame's bytes may be anything (R171 says what the part does with a bad one).
-/
namespace Sys2Proof

/-- Each byte of a burst (R116: 32 of them) is named at most once. -/
def Upset.wf (us : List Upset) : Bool :=
  us.all (fun u => decide (u.byte < 32)) && decide (us.map Upset.byte).Nodup

/-- A page id lies in 1..65535 (R25). -/
def pageIdWf (page : Nat) : Bool := decide (1 ≤ page) && decide (page ≤ 65535)

/-- The operands a command may carry. -/
def Instr.wf : Instr → Bool
  | .powerOnReset _ _ => true
  | .settleTimerExpiry => true
  | .startSequenceComplete => true
  | .refreshDuePoint steps => decide (steps ≤ 7)
  | .refreshMade => true
  | .burstEnd us => Upset.wf us
  | .frameArrival _ _ => true
  | .wakeComplete => true
  | .badKindRequest _ => true
  | .openPage _ met => (met.map Upset.wf).getD true
  | .headerInitComplete page => pageIdWf page
  | .pixels _ => true
  | .pixelsWriteEnd _ => true
  | .encodeEnd _ => true
  | .bandRecordWriteEnd _ => true
  | .readBandDecoded _ => true
  | .proofRecordReadEnd _ => true
  | .proofRowPlace _ => true
  | .damagedMarkWriteEnd => true
  | .retirePage _ => true
  | .releaseRecordRead page => pageIdWf page
  | .listPage _ => true
  | .listPageReadEnd _ => true
  | .setProfile _ => true
  | .setRule _ => true
  | .setDefaultClass _ => true
  | .setWatermarks _ => true
  | .setLaneTable _ => true
  | .setPress _ => true
  | .setStore _ => true
  | .readStatus _ => true
  | .clearStatus _ => true
  | .rest _ => true
  | .restTest _ => true
  | .hold _ => true
  | .resume _ => true
  | .holdTimerExpiry _ => true
  | .outboundFrameSent _ => true
  | .linkReset _ => true
  | .readBandCompressed _ => true
  | .readBandRecordReadEnd _ => true
  | .streamPlaceClaim _ => true
  | .copyRecordReadEnd _ => true
  | .streamFramePlaced _ => true
  | .copyDone _ => true
  | .print _ => true
  | .cancelPrint _ => true
  | .pressRecordReadEnd => true
  | .pressLineFinish => true
  | .sheetStart => true
  | .lineRequest => true
  | .pressAnswerEnd => true
  | .sheetAbort => true
  | .pressReset => true
  | .linkResetSequenceEnd _ => true

end Sys2Proof
end

