-- ==== Sys2Proof/Certificates/Slice0/Obligations.lean ====
section
/-!
DEFINITION. The statements for the provers. Each says what a rule of the spec, or the model with a choice its log
names, does: the band codec, the layout links, the directory, admission, the lanes and the intake, the press feed,
the streams, the store and its arbiter, and the invariants every step keeps.
-/
open Sys2Proof Sys2Proof.Machine

/-! ## The band codec (R5 to R23) -/

/-- R6: quantisation rounds to the nearest multiple of the step, is symmetric, is the identity at e = 0, and is what
the encoder applies to x − p. -/
def Obligations.ResidualsQuantiseToTheNearestStep : Prop :=
  (∀ (e : Nat) (r : Int),
    (0 ≤ r → quantise e r = (r + e) / (2 * e + 1)) ∧
    (r < 0 → quantise e r = -((-r + e) / (2 * e + 1))) ∧
    (r - quantise e r * (2 * e + 1)).natAbs ≤ e ∧
    quantise e (-r) = -quantise e r ∧ quantise 0 r = r) ∧
  (∀ d x p : Nat, x ≤ maxVal d → p ≤ maxVal d → ((x : Int) - p).natAbs ≤ maxVal d) ∧
  (∀ (d e : Nat) (r : Int), r.natAbs ≤ maxVal d →
    (quantise e r).natAbs ≤ (maxVal d + e) / (2 * e + 1) ∧ (maxVal d + e) / (2 * e + 1) ≤ maxVal d) ∧
  [-4, -3, -2, -1, 0, 1, 2, 3, 4].map (quantise 1) = [-1, -1, -1, 0, 0, 0, 1, 1, 1] ∧
  quantise 1 5 = 2 ∧ quantise 1 (-5) = -2 ∧
  (∀ (c c2 : Context) (x : Nat) (bits : List Bool), c.encode x = some (c2, bits) →
    bits = codeOf c.d (riceParam c.a c.n c.d) (mapValue (quantise c.e ((x : Int) - c.prediction))))

/-- R7: the reconstruction is p + q·s clamped into 0..MAXVAL, within e of the sample before clamping and no further
after it, exact at e = 0, and is what the encoder stores in its current row. -/
def Obligations.ReconstructionStaysWithinTheErrorBound : Prop :=
  (∀ (d e p : Nat) (q : Int),
    (p + q * (2 * e + 1) < 0 → reconstruct d e p q = 0) ∧
    ((maxVal d : Int) < p + q * (2 * e + 1) → reconstruct d e p q = maxVal d) ∧
    (0 ≤ p + q * (2 * e + 1) → p + q * (2 * e + 1) ≤ maxVal d →
      (reconstruct d e p q : Int) = p + q * (2 * e + 1))) ∧
  (∀ (e : Nat) (r : Int), -(e : Int) ≤ r - quantise e r * (2 * e + 1) ∧ r - quantise e r * (2 * e + 1) ≤ e) ∧
  (∀ d e p x : Nat, x ≤ maxVal d →
    (p + quantise e ((x : Int) - p) * (2 * e + 1) - x).natAbs ≤ e ∧
    ((reconstruct d e p (quantise e ((x : Int) - p)) : Int) - x).natAbs ≤
      (p + quantise e ((x : Int) - p) * (2 * e + 1) - x).natAbs ∧
    (e = 0 → reconstruct d e p (quantise e ((x : Int) - p)) = x)) ∧
  (∀ (c c2 : Context) (x : Nat) (bits : List Bool), c.encode x = some (c2, bits) →
    let y := reconstruct c.d c.e c.prediction (quantise c.e ((x : Int) - c.prediction))
    (c.cur.length + 1 ≠ c.w → c2.cur = c.cur ++ [y] ∧ c2.prev = c.prev) ∧
    (c.cur.length + 1 = c.w → c2.cur = [] ∧ c2.prev = some (c.cur ++ [y])))

/-- R8: the mapping of q to m and its inverse. -/
def Obligations.MappingNumbersTheQuantisedValues : Prop :=
  (∀ q : Int, (0 ≤ q → (mapValue q : Int) = 2 * q) ∧ (q < 0 → (mapValue q : Int) = -(2 * q) - 1)) ∧
  [0, -1, 1, -2, 2].map mapValue = [0, 1, 2, 3, 4] ∧
  (∀ (d : Nat) (q : Int), q.natAbs ≤ maxVal d →
    mapValue q ≤ 2 * maxVal d ∧ 2 * maxVal d < 2 ^ (d + 1)) ∧
  (∀ m : Nat, (m % 2 = 0 → unmapValue m = (m : Int) / 2) ∧ (m % 2 = 1 → unmapValue m = -(((m : Int) + 1) / 2))) ∧
  (∀ q : Int, unmapValue (mapValue q) = q)

/-- R9: the Rice parameter is the smallest k whose N·2^k reaches A, capped at d; it is what both the encoder and the
decoder use for the sample at hand, from the state after the previous sample. -/
def Obligations.RiceParameterIsTheSmallestThatReaches : Prop :=
  (∀ a n d : Nat,
    riceParam a n d ≤ d ∧ (∀ j, j < riceParam a n d → n * 2 ^ j < a) ∧
    (riceParam a n d < d → a ≤ n * 2 ^ riceParam a n d) ∧
    (a = 0 → riceParam a n d = 0) ∧ (a ≤ n → riceParam a n d = 0)) ∧
  (∀ d : Nat, initialA d = (maxVal d + 32) / 64) ∧ initialA 8 = 4 ∧ initialA 10 = 16 ∧ initialA 12 = 64 ∧
  (∀ (pr : Profile) (w hr : Nat) (form : Form),
    (Context.fresh pr w hr form).a = initialA pr.d ∧ (Context.fresh pr w hr form).n = 1) ∧
  riceParam (initialA 8) 1 8 = 2 ∧ riceParam (initialA 10) 1 10 = 4 ∧ riceParam (initialA 12) 1 12 = 6 ∧
  (∀ (c c2 : Context) (x : Nat) (bits : List Bool), c.encode x = some (c2, bits) →
    ∃ m, bits = codeOf c.d (riceParam c.a c.n c.d) m) ∧
  (∀ (c c2 : Context) (buf rest : List (Option Bool)), c.form ≠ .raw → c.decode buf = .got c2 rest →
    ∃ m, fetchCode c.d (riceParam c.a c.n c.d) buf = .got m rest)

/-- R11 and R12: the ordinary code and the escape, their lengths, and the longest of each. -/
def Obligations.CodesAreUnaryWithRemainderOrEscape : Prop :=
  (∀ d k m : Nat,
    (m / 2 ^ k < 24 →
      codeOf d k m = List.replicate (m / 2 ^ k) false ++ [true] ++
        ((List.range k).reverse.map fun i => m.testBit i) ∧
      (codeOf d k m).length = m / 2 ^ k + 1 + k) ∧
    (24 ≤ m / 2 ^ k →
      codeOf d k m = List.replicate 24 false ++ [true] ++
        ((List.range (d + 1)).reverse.map fun i => m.testBit i) ∧
      (codeOf d k m).length = d + 26)) ∧
  (∀ d m : Nat, m < 24 → codeOf d 0 m = List.replicate m false ++ [true]) ∧
  (∀ d k m : Nat, 4 ≤ d → k ≤ d → m < 2 ^ (d + 1) →
    (m / 2 ^ k < 24 → (codeOf d k m).length ≤ d + 20) ∧
    (m / 2 ^ k < 24 → (codeOf d k m).length = d + 20 → m / 2 ^ k = 23 ∧ k = d - 4) ∧
    (23 ≤ m / 2 ^ k → k ≤ d - 4) ∧ (codeOf d k m).length ≤ d + 26 ∧ (k = d → m / 2 ^ k ≤ 1)) ∧
  (∀ d : Nat, 4 ≤ d → ∃ m, m < 2 ^ (d + 1) ∧ m / 2 ^ (d - 4) = 23 ∧ (codeOf d (d - 4) m).length = d + 20) ∧
  (∀ d : Nat, d = 8 ∨ d = 10 ∨ d = 12 →
    24 ≤ mapValue (quantise 0 ((0 : Int) - midVal d)) / 2 ^ riceParam (initialA d) 1 d)

/-- R13 to R16, R18 to R20, R22 (derived): a code reads back as the value it was made from, with nothing of the bits
after it taken; packed words give back their bits, then zeros. A row of raw samples reads back exactly and leaves the
Rice state alone. Coding is abandoned exactly at the first sample whose code would bring the total above the raw size,
nothing of that sample being entered, and the encoder then rewrites the band-component raw from its first sample. A
decoding stops on a 25th zero bit and on nothing else of a code with cause STREAM, on a bit of a word that was signalled
with cause PARITY, and where the bits read end within a code or a raw value it wants the next words, or stops with cause
STREAM if the payload or its chain ends there. -/
def Obligations.CodesAndWordsReadBackAsWritten : Prop :=
  (∀ (d k m : Nat) (rest : List (Option Bool)), m < 2 ^ (d + 1) →
    fetchCode d k ((codeOf d k m).map some ++ rest) = .got m rest) ∧
  (∀ (d k : Nat) (buf : List (Option Bool)), fetchCode d k buf = .stop .stream ↔
    ∃ rest, buf = List.replicate 25 (some false) ++ rest) ∧
  (∀ d k m i : Nat, m / 2 ^ k < 24 ∨ m < 2 ^ (d + 1) → i < (codeOf d k m).length →
    let begun := ((codeOf d k m).take i).map some
    fetchCode d k begun = .short ∧ ∀ rest, fetchCode d k (begun ++ none :: rest) = .stop .parity) ∧
  (∀ r : ReadWord, readBits r = if r.bad = true then List.replicate 32 none else (wordBits r.word).map some) ∧
  (∀ (c : Context) (buf : List (Option Bool)), c.form ≠ .raw →
    (fetchCode c.d (riceParam c.a c.n c.d) buf = .short → c.decode buf = .short) ∧
    (∀ cause, fetchCode c.d (riceParam c.a c.n c.d) buf = .stop cause → c.decode buf = .stop cause)) ∧
  (∀ (c : Context) (begun : List Bool), c.form = .raw → begun.length < c.d →
    c.decode (begun.map some) = .short ∧ ∀ rest, c.decode (begun.map some ++ none :: rest) = .stop .parity) ∧
  (∀ k : Decoder,
    k.runRow = k.samples (k.ctx.w - k.ctx.cur.length) ∧ k.samples 0 = (k, .rowDone) ∧
    ∀ n : Nat,
      (∀ c rest, k.ctx.decode k.buf = .got c rest → k.samples (n + 1) = { k with ctx := c, buf := rest }.samples n) ∧
      (∀ cause, k.ctx.decode k.buf = .stop cause → k.samples (n + 1) = (k, .failed cause)) ∧
      (k.ctx.decode k.buf = .short → k.fetched < k.words → k.ext ≠ none → k.samples (n + 1) = (k, .needWords)) ∧
      (k.ctx.decode k.buf = .short → k.words ≤ k.fetched ∨ k.ext = none →
        k.samples (n + 1) = (k, .failed .stream))) ∧
  (∀ (n : Nat) (bits : List Bool), bits.length ≤ 32 * n →
    (packBits n bits).length = n ∧
    (packBits n bits).flatMap wordBits = bits ++ List.replicate (32 * n - bits.length) false) ∧
  (∀ (k : Decoder) (xs : List Nat) (rest : List (Option Bool)),
    k.ctx.form = .raw → k.ctx.cur = [] → 0 < k.ctx.w → xs.length = k.ctx.w → (∀ x ∈ xs, x < 2 ^ k.ctx.d) →
    k.buf = (xs.flatMap fun x => (List.range k.ctx.d).reverse.map fun i => some (x.testBit i)) ++ rest →
    ∃ k2 : Decoder, k.runRow = (k2, .rowDone) ∧ k2.buf = rest ∧ k2.lastRow = some xs ∧
      k2.ctx.row = k.ctx.row + 1 ∧ k2.ctx.a = k.ctx.a ∧ k2.ctx.n = k.ctx.n ∧
      k2.ctx.bits = k.ctx.bits + k.ctx.w * k.ctx.d) ∧
  (∀ (c : Context) (x : Nat),
    let code := codeOf c.d (riceParam c.a c.n c.d) (mapValue (quantise c.e ((x : Int) - c.prediction)))
    (c.encode x = none ↔ c.hr * c.w * c.d < c.bits + code.length) ∧
    (∀ c2 bits, c.encode x = some (c2, bits) → bits = code ∧ c2.bits = c.bits + code.length)) ∧
  (∀ (c : Context) (xs : List Nat),
    c.encodeAll xs = none ↔ ∃ pre x post c1 bits,
      xs = pre ++ x :: post ∧ c.encodeAll pre = some (c1, bits) ∧ c1.encode x = none) ∧
  (∀ (r : EncodeRun) (ws : List ReadWord),
    let xs := (ws.flatMap fun w =>
      [w.word.toNat / 65536 % 2 ^ r.ctx.d, w.word.toNat % 65536 % 2 ^ r.ctx.d]).take (min 16 r.left)
    (r.phase = .coding →
      (∀ c bits, r.ctx.encodeAll xs = some (c, bits) →
        r.feed ws = { r with ctx := c, left := r.left - xs.length, out := r.out ++ bits }) ∧
      (∀ pre x post c bits, xs = pre ++ x :: post → r.ctx.encodeAll pre = some (c, bits) → c.encode x = none →
        r.feed ws = { r with phase := .rewriting, ctx := { c with form := .abandoned }, left := r.ctx.hr * r.ctx.w
                             out := [], words := 0 })) ∧
    (r.phase = .rewriting → r.feed ws = { r with
      left := r.left - xs.length
      out := r.out ++ xs.flatMap fun x => (List.range r.ctx.d).reverse.map fun i => x.testBit i })) ∧
  (∀ c : Context,
    (c.form = .abandoned → c.result = (.raw, (c.hr * c.w * c.d + 31) / 32)) ∧
    (c.form ≠ .abandoned → c.result = (.coded, (c.bits + 31) / 32)))

/-- R3, R4, R5, R10, R21, R23 (derived), of the codec as a whole: a fresh context; the neighbours of a sample at each of
the four positions, the predictions LEFT, ABOVE and EDGE, and the Rice state after each sample, in the encoder and in
the decoder; and a row that the encoder coded decodes, from the same context, to a row within e of every sample, taking
exactly the row's bits and leaving the decoder's context where the encoder's stands, so that the next row decodes
likewise. -/
def Obligations.EncodedRowsDecodeWithinTheErrorBound : Prop :=
  (∀ (pr : Profile) (w hr : Nat) (form : Form), Context.fresh pr w hr form =
    { predictor := pr.predictor, e := pr.e, d := pr.d, w := w, hr := hr, row := 0, a := (2 ^ pr.d - 1 + 32) / 64, n := 1
      prev := none, cur := [], bits := 0, form := form }) ∧
  (∀ c : Context,
    (c.prev = none → c.cur = [] → c.neighbours = (2 ^ (c.d - 1), 2 ^ (c.d - 1), 2 ^ (c.d - 1))) ∧
    (∀ ys y, c.prev = none → c.cur = ys ++ [y] → c.neighbours = (y, y, y)) ∧
    (∀ up y, c.prev = some up → c.cur = [] → up[0]? = some y → c.neighbours = (y, y, y)) ∧
    (∀ up ys y above corner, c.prev = some up → c.cur = ys ++ [y] → up[ys.length + 1]? = some above →
      up[ys.length]? = some corner → c.neighbours = (y, above, corner)) ∧
    (∀ a b cc, c.neighbours = (a, b, cc) →
      (c.predictor = .left → c.prediction = a) ∧ (c.predictor = .above → c.prediction = b) ∧
      (c.predictor = .edge → max a b ≤ cc → c.prediction = min a b) ∧
      (c.predictor = .edge → cc ≤ min a b → c.prediction = max a b) ∧
      (c.predictor = .edge → min a b < cc → cc < max a b → (c.prediction : Int) = a + b - cc) ∧
      min a b ≤ c.prediction ∧ c.prediction ≤ max a b)) ∧
  (∀ c c2 : Context,
    let updated (q : Int) : Prop :=
      (c.n + 1 ≠ 64 → c2.a = c.a + q.natAbs ∧ c2.n = c.n + 1) ∧
      (c.n + 1 = 64 → c2.a = (c.a + q.natAbs) / 2 ∧ c2.n = 32)
    (∀ x bits, c.encode x = some (c2, bits) → updated (quantise c.e ((x : Int) - c.prediction))) ∧
    (∀ buf rest, c.form ≠ .raw → c.decode buf = .got c2 rest →
      ∃ m, fetchCode c.d (riceParam c.a c.n c.d) buf = .got m rest ∧ updated (unmapValue m))) ∧
  ∀ (c c2 : Context) (xs : List Nat) (bits : List Bool) (rest : List (Option Bool)) (k : Decoder),
    c.healthy → 1 ≤ c.d → c.cur = [] → 0 < c.w → xs.length = c.w → (∀ x ∈ xs, x ≤ maxVal c.d) →
    c.encodeAll xs = some (c2, bits) →
    k.ctx = { c with form := .coded, bits := k.ctx.bits } → k.buf = bits.map some ++ rest →
    ∃ (k2 : Decoder) (ys : List Nat),
      k.runRow = (k2, .rowDone) ∧ k2.buf = rest ∧ k2.lastRow = some ys ∧
      List.Forall₂ (fun (x y : Nat) => ((x : Int) - y).natAbs ≤ c.e) xs ys ∧
      { k2.ctx with form := c2.form, bits := c2.bits } = c2 ∧ c2.healthy

/-! ## The layout links (R109, R112, R124, R170 to R186) -/

/-- The order in which commands run (the queue is the model's own, log 4): a step runs the command at the front of
the queue on the state with the queue's rest, and on an empty queue changes nothing. -/
def Obligations.StepRunsTheFrontCommand : Prop :=
  (∀ (c : Instr) (rest : List Instr) (s : State), s.pending = c :: rest → step s = exec c { s with pending := rest }) ∧
  (∀ s : State, s.pending = [] → step s = .next s)

/-- R171, R185 to R191 (derived; a table of two columns of fields is read down the left column, then down the right: log
36; runs of fewer than six bytes: log 14; bits of an answer with no field: log 57): a frame is its header (kind, tag,
body length), its body and its check, the CRC-16 of polynomial 0x1021 over header and body from 0xFFFF, each byte most
significant bit first and nothing inverted, with numbers most significant byte first. A run of bytes passes exactly when
it is a whole frame with a body of at most 16,384 bytes. The bytes of every frame the part sends, the words of a band
record and of the answers of the press port, are those the tables of R185 to R191 give; every frame within the sizes of
R188 and R189 passes. -/
def Obligations.FramesPassExactlyWhenWhole : Prop :=
  (∀ (bytes : List Byte) (f : Frame),
    parseFrame bytes = some f ↔ f.body.length ≤ 16384 ∧ bytes = frameBytes f.kind.toNat f.tag f.body) ∧
  (∀ f : OutFrame,
    (match f with
      | .proofRow _ _ _ _ _ _ _ samples => samples.length ≤ 8000
      | .payload _ _ _ _ _ _ _ _ _ data _ _ => data.length ≤ 4000
      | .reply _ _ (.done (.listed _ records)) => records.length ≤ 1024
      | _ => True) → ∃ g, parseFrame f.bytes = some g) ∧
  [PageState.opening, .filling, .coding, .sealed, .failed, .retiring].map PageState.code = List.range 6 ∧
  [Refuse.noPage, .pageExists, .directoryFull, .badGeometry, .badProfile, .profileInUse, .ruleRefused, .storeLow,
    .intakeBusy, .outOfOrder, .held, .pageState, .pageInUse, .pageRetiring, .scheduleFull, .printing, .notCoded,
    .damaged, .lanesBusy, .notIdle, .starting, .busy, .badRequest].map Refuse.code = List.range' 1 23 ∧
  [none, some FailCause.storeFull, some .storeParity, some .intakeAborted, some .linkReset].map causeCode =
    List.range 5 ∧
  [none, some Detail.parity, some .stream, some .record].map detailCode = List.range 4 ∧
  let fields (l : List (Nat × Nat)) : List Byte :=
    l.flatMap fun p => (List.range p.1).reverse.map fun i => BitVec.ofNat 8 (p.2 / 256 ^ i)
  let link (x : Link) : Nat := match x with | .a => 0 | .b => 1
  let target (t : Option Link) : Nat := match t with | none => 0 | some .a => 1 | some .b => 2
  let yes (b : Bool) : Nat := if b = true then 1 else 0
  let entered (r : Nat) (bit : Bool) : Nat :=
    if xor (decide (32768 ≤ r)) bit = true then (2 * r % 65536) ^^^ 0x1021 else 2 * r % 65536
  let check (bytes : List Byte) : Nat :=
    bytes.foldl (fun r b => [7, 6, 5, 4, 3, 2, 1, 0].foldl (fun r i => entered r (b.getLsbD i)) r) 0xFFFF
  (∀ (kind : Nat) (tag : Byte) (body : List Byte),
    let head := fields [(1, kind)] ++ [tag] ++ fields [(2, body.length)]
    frameBytes kind tag body = head ++ body ++ fields [(2, check (head ++ body))]) ∧
  let mode (m : Mode) : Nat := match m with | .coded => 0 | .raw => 1
  let admission (m : AdmMode) : Nat := match m with | .normal => 0 | .low => 1 | .closed => 2
  (∀ (kind : Nat) (tag : Byte),
    (∀ d, (OutFrame.reply kind tag (.done d)).bytes = frameBytes 32 tag (fields [(1, kind), (1, 0), (1, 0)] ++ d.bytes)) ∧
    (∀ c, (OutFrame.reply kind tag (.refused c)).bytes = frameBytes 32 tag (fields [(1, kind), (1, 1), (1, c.code)])) ∧
    (∀ d i, (OutFrame.reply kind tag (.damaged d i)).bytes =
      frameBytes 32 tag (fields [(1, kind), (1, 1), (1, 18), (1, detailCode (some d)), (4, i)]))) ∧
  Details.bytes .none = [] ∧
  (∀ page b cls t, (Details.opened page b cls t).bytes = fields [(2, page), (2, b), (1, cls), (1, target t)]) ∧
  (∀ page copies, (Details.printed page copies).bytes = fields [(2, page), (1, copies)]) ∧
  (∀ page band comp m words hr, (Details.proofDone page band comp m words hr).bytes =
    fields [(2, page), (2, band), (1, comp), (1, mode m), (4, words), (1, hr)]) ∧
  (∀ page band comp m words hr (st : RecState) mm, (Details.bandDone page band comp m words hr st mm).bytes =
    fields [(2, page), (2, band), (1, comp), (1, mode m), (4, words), (1, hr),
      (1, match st with | .pending => 0 | .stored => 1 | .damaged => 2), (4, mm)]) ∧
  (∀ (p : PageListing) records, (Details.listed p records).bytes =
    fields [(2, p.id), (1, p.state.code), (1, causeCode p.cause), (1, link p.origin), (1, p.profile), (2, p.w),
      (2, p.ht), (1, p.c), (1, match p.order with | .highFirst => 0 | .lowFirst => 1), (1, p.cls),
      (1, target p.copyTarget), (2, p.jobTag), (2, p.b), (1, yes p.nextPixel.isSome), (4, p.nextPixel.getD 0),
      (2, p.stored), (1, yes p.damaged), (1, p.damageEvents), (2, p.clamped), (1, p.printRefs), (1, p.streamRefs)] ++
    records.flatMap fun r => fields [(1, yes r.ok), (4, r.word0.toNat), (4, r.word1.toNat)]) ∧
  (∀ r : StatusRecord,
    let lane (q : LaneShown × Nat) : List (Nat × Nat) :=
      [(1, match q.1 with | .idle => 0 | .encoding => 1 | .decoding => 2), (1, q.2)]
    (Details.status r).bytes = fields (
      [(1, match r.part with | .starting => 0 | .ready => 1 | .resting => 2 | .waking => 3),
        (1, match r.size with | .mib128 => 0 | .mib256 => 1 | .mib512 => 2), (2, r.freeCount), (1, admission r.mode),
        (1, r.admits), (2, r.directory)] ++ lane r.lanes.f0 ++ lane r.lanes.f1 ++ lane r.lanes.f2 ++ lane r.lanes.f3 ++
      [(1, yes r.flags.overrun + 2 * yes r.flags.frameCheck + 4 * yes r.flags.clamped + 8 * yes r.flags.storeParity +
          16 * yes r.flags.underrun),
        (1, match r.press with | .idle => 0 | .preroll => 1 | .ready => 2 | .sheet => 3), (1, r.schedule),
        (4, r.fifoLines), (2, r.underruns), (1, yes r.hold), (1, r.long), (1, r.streams), (2, r.framesDiscarded),
        (2, r.noticesDiscarded)])) ∧
  (∀ n, (Details.laneTable n).bytes = fields [(1, n)] ∧ (Details.runLimit n).bytes = fields [(1, n)]) ∧
  (∀ lw hw k m, (Details.watermarks lw hw k m).bytes = fields [(2, lw), (2, hw), (1, k), (1, admission m)]) ∧
  (∀ t : PressSettings, (Details.press t).bytes =
    fields [(1, match t.order with | .sequential => 0 | .interleaved => 1), (1, t.p), (1, t.u)]) ∧
  (∀ n : Notice, (OutFrame.notice n).bytes = match n with
    | .pageSealed page => frameBytes 48 0 (fields [(2, page)])
    | .pageFailed page cause => frameBytes 49 0 (fields [(2, page), (1, causeCode (some cause))])
    | .printDone page => frameBytes 50 0 (fields [(2, page)])
    | .printDropped page => frameBytes 51 0 (fields [(2, page)])
    | .bandDamaged page band comp copy d row => frameBytes 52 0
        (fields [(2, page), (2, band), (1, comp), (1, copy), (1, detailCode (some d)), (1, row)])
    | .storeLow n => frameBytes 53 0 (fields [(2, n)])
    | .storeOpen n => frameBytes 54 0 (fields [(2, n)])
    | .copyDone page marked => frameBytes 55 0 (fields [(2, page), (2, marked)])
    | .hold => frameBytes 56 0 []
    | .resume => frameBytes 57 0 []) ∧
  (∀ (tag : Byte) (page band comp row col : Nat) (o : ContainerOrder) (samples : List Nat),
    (OutFrame.proofRow tag page band comp row col o samples).bytes = frameBytes 33 tag
      (fields [(1, 0), (2, page), (2, band), (1, comp), (1, row), (2, col), (2, samples.length)] ++
        samples.flatMap fun v => match o with
          | .highFirst => fields [(2, v)]
          | .lowFirst => (fields [(2, v)]).reverse)) ∧
  (∀ (copy : Bool) (tag : Byte) (page band comp : Nat) (m : Mode) (mark : Option Detail) (words first : Nat)
      (data : List Word) (index : Nat) (st : Option RecState),
    (OutFrame.payload copy tag page band comp m mark words first data index st).bytes =
      frameBytes 33 (if copy = true then 0 else tag)
        (fields ([(1, if copy = true then 2 else 1), (2, page), (2, band), (1, comp), (1, mode m), (1, detailCode mark),
          (4, words), (4, first), (2, data.length), (4, index)] ++ data.map fun w => (4, w.toNat)))) ∧
  (∀ r : BandRecord, r.lane < 4 → r.first < 8192 → r.words < 262144 →
    r.toWords.1.toNat = (match r.state with | .pending => 0 | .stored => 1 | .damaged => 2) * 2 ^ 30 +
      mode r.mode * 2 ^ 29 + r.lane * 2 ^ 27 + r.first ∧
    r.toWords.2.toNat = r.words ∧ BandRecord.ofWords r.toWords.1 r.toWords.2 = r) ∧
  (∀ w0 w1 : Word, BandRecord.ofWords w0 w1 =
    { state := if w0.toNat / 2 ^ 30 = 1 then .stored else if w0.toNat / 2 ^ 30 = 2 then .damaged else .pending
      mode := if w0.toNat / 2 ^ 29 % 2 = 1 then .raw else .coded
      lane := w0.toNat / 2 ^ 27 % 4
      first := w0.toNat % 8192
      words := w1.toNat % 262144 }) ∧
  (∀ ws : List Word, (Answer.line ws).kind = 0 ∧ (Answer.line ws).words = ws) ∧
  (∀ page w ht c copy (o : ComponentOrder), page < 65536 → w < 65536 → ht < 65536 → c < 8 → copy < 256 →
    (Answer.sheetInfo page w ht c copy o).kind = 1 ∧
    (Answer.sheetInfo page w ht c copy o).words.map BitVec.toNat =
      [page * 65536 + copy * 256 + (match o with | .sequential => 0 | .interleaved => 128) + c, w * 65536 + ht] ∧
    (Answer.sheetDone page copy).kind = 2 ∧
    (Answer.sheetDone page copy).words.map BitVec.toNat = [page * 65536 + copy * 256]) ∧
  Answer.notReady.kind = 3 ∧ Answer.notReady.words = [0]

/-- R171, R172, R176 (derived; a run of fewer than six bytes does not pass: log 14; a HOLD or RESUME of a wrong length
enters the buffer: log 18): what the arrival of a frame does while the part does not rest: a bad check is flagged
and counted, HOLD and RESUME are taken at once in READY, another frame enters the buffer or is lost to overrun. While
the link reset sequence lasts nothing arrives (R182). -/
def Obligations.FrameArrivalTakesBuffersOrDiscards : Prop :=
  ∀ (x : Link) (bytes : List Byte) (s : State),
    ((s.link x).resetting = true → exec (.frameArrival x bytes) s = .next s) ∧
    ((s.link x).resetting = false → s.ctl.state ≠ .resting →
      (parseFrame bytes = none → exec (.frameArrival x bytes) s = .next { s with
        links := s.links.set x { s.link x with
          flags := { (s.link x).flags with frameCheck := true }
          framesDiscarded := min 65535 ((s.link x).framesDiscarded + 1) } }) ∧
      (∀ f, parseFrame bytes = some f →
        (s.part = .ready → f.k = 18 → f.body.length = 2 → exec (.frameArrival x bytes) s = .next { s with
          links := s.links.set x { s.link x with hold := true, holdTimer := some (max 1 (field 0 2 f.body)) } }) ∧
        (s.part = .ready → f.k = 19 → f.body.length = 0 → (s.link x).hold = false →
          exec (.frameArrival x bytes) s = .next s) ∧
        (s.part = .ready → f.k = 19 → f.body.length = 0 → (s.link x).hold = true →
          exec (.frameArrival x bytes) s = .next { s with
            links := s.links.set x (LinkCtl.startSend { s.link x with hold := false, holdTimer := none }) }) ∧
        (¬ (s.part = .ready ∧ (f.k = 18 ∧ f.body.length = 2 ∨ f.k = 19 ∧ f.body.length = 0)) →
          ((s.link x).rx.length < 4 → exec (.frameArrival x bytes) s = .next { s with
            links := s.links.set x { s.link x with rx := (s.link x).rx ++ [f] } }) ∧
          (4 ≤ (s.link x).rx.length → exec (.frameArrival x bytes) s = .next { s with
            links := s.links.set x { s.link x with
              flags := { (s.link x).flags with overrun := true }
              framesDiscarded := min 65535 ((s.link x).framesDiscarded + 1) } }))))

/-- R124 (derived): every frame that arrives during RESTING wakes the part, whatever becomes of the frame. -/
def Obligations.FramesWakeTheRestingPart : Prop :=
  ∀ (x : Link) (bytes : List Byte) (s : State), (s.link x).resetting = false → s.ctl.state = .resting →
    exec (.frameArrival x bytes) s = .next { s with
      ctl := { s.ctl with
        state := .waking
        wakeCause := some (.frame x)
        wakeFrameHeld := (parseFrame bytes).isSome && decide ((s.link x).rx.length < 4)
        refreshTimer := some 78
        startStep := some 1 }
      links := s.links.set x
        (match parseFrame bytes with
         | none => { s.link x with
             flags := { (s.link x).flags with frameCheck := true }
             framesDiscarded := min 65535 ((s.link x).framesDiscarded + 1) }
         | some f =>
           if (s.link x).rx.length < 4 then { s.link x with rx := (s.link x).rx ++ [f] }
           else { s.link x with
             flags := { (s.link x).flags with overrun := true }
             framesDiscarded := min 65535 ((s.link x).framesDiscarded + 1) }) }

/-- R112, R173 step 1 (derived): until the part is READY every request but READ STATUS is answered STARTING and
changes nothing else; the frame held as the wake cause waits (R125). -/
def Obligations.RequestsAreAnsweredStartingUntilReady : Prop :=
  ∀ (c : Instr) (s : State) (x : Link) (mine : Frame → Bool) (f : Frame),
    requestOf c = some (x, mine) → c ≠ .readStatus x → (s.link x).rx.head? = some f → mine f = true →
    (s.link x).replyUse < 8 → s.part = .starting ∨ s.part = .waking →
    ¬ (s.ctl.wakeFrameHeld = true ∧ s.ctl.wakeCause = some (.frame x)) →
    exec c s = .next (s.answeredAt x f (.refused .starting))

/-- R173 steps 2 to 4, R186 (derived): a frame of no request kind or of a wrong length is refused BAD_REQUEST, a fifth
long request BUSY, and nothing else changes; after a PIXELS frame a grant decision is made (log 4). -/
def Obligations.MalformedAndSurplusRequestsAreRefused : Prop :=
  (∀ (x : Link) (s : State) (f : Frame), s.offers x f.k f = true → f.k < 1 ∨ 19 < f.k →
    exec (.badKindRequest x) s = .next (s.answeredAt x f (.refused .badRequest))) ∧
  ∀ (c : Instr) (s : State) (x : Link) (mine : Frame → Bool) (f : Frame),
    requestOf c = some (x, mine) → s.offers x f.k f = true → mine f = true →
    (f.lengthOk = false → c ≠ .pixels x → exec c s = .next (s.answeredAt x f (.refused .badRequest))) ∧
    (f.lengthOk = false → c = .pixels x → exec c s = .next (s.answeredAt x f (.refused .badRequest)).arbitrate) ∧
    (f.lengthOk = true → f.isLong = true → 4 ≤ (s.link x).long.length →
      exec c s = .next (s.answeredAt x f (.refused .busy)))

/-- R63, R183, R184 (derived; the next pixel, for which the record's bytes have no place: log 40): READ STATUS is
answered in every part state with the record of what stands, with the intake page's next pixel as it stood before a
frame being written; CLEAR STATUS is answered with it as it stood, the link's flags clear and its counts 0. -/
def Obligations.StatusIsReportedAndCleared : Prop :=
  ∀ (x : Link) (s : State) (f : Frame),
    let r : StatusRecord := {
      part := s.part, size := s.size, freeCount := s.adm.freeCount, mode := s.adm.mode, admits := s.adm.admits,
      directory := s.dir.pages.length,
      lanes := ⟨((s.lane .l0).shown, s.disp.queues.f0.length), ((s.lane .l1).shown, s.disp.queues.f1.length),
        ((s.lane .l2).shown, s.disp.queues.f2.length), ((s.lane .l3).shown, s.disp.queues.f3.length)⟩,
      press := s.press.state, schedule := s.press.schedule.length, fifoLines := s.press.fifo.length,
      underruns := s.press.underruns, hold := (s.link x).hold, long := (s.link x).long.length,
      streams := min 255 (s.link x).streams.length, flags := (s.link x).flags,
      framesDiscarded := (s.link x).framesDiscarded, noticesDiscarded := (s.link x).noticesDiscarded,
      nextPixel := match (s.intake x).page with
        | none => none
        | some id => match s.page id with
          | none => none
          | some p => p.nextPixel }
    ((s.link x).rx.head? = some f → f.k = 8 → f.body.length = 0 → s.canTake x = true →
      exec (.readStatus x) s = .next (s.answeredAt x f (.done (.status r)))) ∧
    (s.offers x 9 f = true → f.body.length = 0 → exec (.clearStatus x) s = .next { s with
      links := s.links.set x (LinkCtl.place (.reply 9 f.tag (.done (.status r)))
        { (s.link x).took with
          flags := ⟨false, false, false, false, false⟩
          framesDiscarded := 0
          noticesDiscarded := 0 }) })

/-- R174, R176 (derived): HOLD and RESUME taken from the buffer in READY have their effect and give their reply place
up; when the timer runs out hold ceases and sending goes on. -/
def Obligations.HoldStartsAndEnds : Prop :=
  ∀ (x : Link) (s : State) (f : Frame),
    (s.offers x 18 f = true → f.body.length = 2 → exec (.hold x) s = .next { s with
      links := s.links.set x { s.link x with
        rx := (s.link x).rx.tail
        hold := true
        holdTimer := some (max 1 (field 0 2 f.body)) } }) ∧
    (s.offers x 19 f = true → f.body.length = 0 → (s.link x).hold = false → exec (.resume x) s = .next { s with
      links := s.links.set x { s.link x with rx := (s.link x).rx.tail } }) ∧
    (s.offers x 19 f = true → f.body.length = 0 → (s.link x).hold = true → exec (.resume x) s = .next { s with
      links := s.links.set x
        (LinkCtl.startSend { s.link x with rx := (s.link x).rx.tail, hold := false, holdTimer := none }) }) ∧
    ((s.link x).hold = true → (s.link x).holdTimer.isSome = true → exec (.holdTimerExpiry x) s = .next { s with
      links := s.links.set x (LinkCtl.startSend { s.link x with hold := false, holdTimer := none }) })

/-- R174, R175 (derived): the frame sent frees its place, and the next is the oldest in the queue, or while hold is in
force the oldest HOLD or RESUME notice; a notice takes a free general place at the end of the queue, or is discarded
and counted. -/
def Obligations.FramesAreSentInOrderAndNoticesPlaced : Prop :=
  (∀ (x : Link) (s : State) (f : OutFrame), (s.link x).sending = some f →
    let use := if f.isReply = true then (s.link x).replyUse - 1 else (s.link x).replyUse
    ((s.link x).out = [] → exec (.outboundFrameSent x) s = .next { s with
      links := s.links.set x { s.link x with sending := none, replyUse := use } }) ∧
    (∀ g rest, (s.link x).hold = false → (s.link x).out = g :: rest → exec (.outboundFrameSent x) s = .next { s with
      links := s.links.set x { s.link x with sending := some g, out := rest, replyUse := use } }) ∧
    (∀ pre g post, (s.link x).hold = true → (s.link x).out = pre ++ g :: post → g.passesHold = true →
      (∀ h ∈ pre, OutFrame.passesHold h = false) → exec (.outboundFrameSent x) s = .next { s with
        links := s.links.set x { s.link x with sending := some g, out := pre ++ post, replyUse := use } }) ∧
    ((s.link x).hold = true → (∀ h ∈ (s.link x).out, OutFrame.passesHold h = false) →
      exec (.outboundFrameSent x) s = .next { s with
        links := s.links.set x { s.link x with sending := none, replyUse := use } })) ∧
  (∀ (c : LinkCtl) (n : Notice),
    (24 ≤ c.generalUse → c.placeNotice n = { c with noticesDiscarded := min 65535 (c.noticesDiscarded + 1) }) ∧
    (c.generalUse < 24 → c.hold = false →
      (c.placeNotice n).sending.toList ++ (c.placeNotice n).out = c.sending.toList ++ c.out ++ [.notice n]) ∧
    (c.generalUse < 24 → c.sending.isSome = true →
      (c.placeNotice n).sending = c.sending ∧ (c.placeNotice n).out = c.out ++ [.notice n]))

/-- R182, R45, R61, R96 (derived; a second reset while the sequence lasts, or right after it, does nothing: log 23; the
notices: log 17; the order of the TABLE operations it brings about: log 49; no damage event for a read whose end step
will not come: log 61): link reset empties its link, clears its flags, and leaves the other link's receive buffer and
flags, the store, the profiles and every setting. Where it finds the link as a link reset has left it, the PAGE FAILED
being sent and the PRINT DROPPED notices behind it stay. The link's intake page fails with LINK_RESET, its notice the
first frame sent after the reset; no PROOF job of the link is left waiting or running and no listing of it. Where the
reset finds nothing of these, the other link stands as it is, and only its intake and the stream refs change besides
its link; where it abandons one PROOF job, or ends one listing, the other link stands too, the job's or listing's
waiting operation is withdrawn and the page's work in flight falls. The link's streams are aborted: of each page the
stream refs fall by the number of its streams there, their bursts serve no one, and their ended record reads are
dropped, while those still placed are made. Of the store controller only whether the burst in progress serves its work,
and whether the frame of a wake is held, change. When the sequence ends, frames are taken again. -/
def Obligations.LinkResetEmptiesItsLink : Prop :=
  ∀ (x : Link) (s : State),
    let freed : LinkCtl := { LinkCtl.initial with recordReads := (s.link x).recordReads, resetting := true }
    let again : Prop := (∃ id, (s.link x).sending = some (.notice (.pageFailed id .linkReset)) ∧
        ∀ f ∈ (s.link x).out, f = .notice (.printDropped id)) ∧
      s.link x = { LinkCtl.initial with
        recordReads := (s.link x).recordReads, sending := (s.link x).sending, out := (s.link x).out }
    let copies : Client → Bool
      | .copy y _ => y == x
      | _ => false
    let aborted (id : Nat) : Nat := ((s.link x).streams.filter fun st => st.page == id).length
    let pages : List Page := s.dir.pages.map fun q => { q with streamRefs := q.streamRefs - aborted q.id }
    let ends (client : Option Client) (b : Burst) : Prop :=
      b.req = .stream x ∨ b.req = .intake x ∨ (client ≠ none ∧ b.client = client) ∨
        ∃ l, client = some (.lane l) ∧ b.req = .lane l
    let wakeHeld : Bool := s.ctl.wakeFrameHeld && s.ctl.wakeCause != some (.frame x)
    let lost (client : Option Client) (t : State) : Prop :=
      (∀ b, s.ctl.burst = some b →
        (ends client b → t.ctl.burst = some { b with live := false }) ∧ (¬ ends client b → t.ctl.burst = some b)) ∧
      (s.ctl.burst = none → t.ctl.burst = none) ∧
      t.ctl = { s.ctl with burst := t.ctl.burst, wakeFrameHeld := wakeHeld } ∧
      t.arb = { s.arb with
        tableQueue := t.arb.tableQueue, deferred := t.arb.deferred
        tableEnds := s.arb.tableEnds.filter fun e => !(copies e.op.client || some e.op.client == client) } ∧
      (again → t.link x = { s.link x with resetting := true }) ∧ (¬ again → t.link x = freed) ∧
      t.link (otherLink x) = s.link (otherLink x) ∧
      t.intakes = s.intakes.set x { s.intake x with frame := none, waiting := [], hold := false } ∧
      t.adm = s.adm ∧ t.map = s.map ∧ t.press = s.press ∧ t.dir.profiles = s.dir.profiles ∧ t.still = s.still
    ((s.link x).resetting = true → exec (.linkReset x) s = .next s) ∧
    ((s.link x).resetting = false → ∃ t : State, exec (.linkReset x) s = .next t ∧
      (t.link x).rx = [] ∧ (t.link x).long = [] ∧ (t.link x).streams = [] ∧ (t.link x).flags = LinkFlags.clear ∧
      (t.link x).resetting = true ∧
      (t.link (otherLink x)).rx = (s.link (otherLink x)).rx ∧
      (t.link (otherLink x)).flags = (s.link (otherLink x)).flags ∧ t.still = s.still ∧
      t.adm.rules = s.adm.rules ∧ t.adm.defaultClass = s.adm.defaultClass ∧ t.adm.lw = s.adm.lw ∧
      t.adm.hw = s.adm.hw ∧ t.adm.k = s.adm.k ∧ t.disp.tableBits = s.disp.tableBits ∧ t.disp.table = s.disp.table ∧
      t.arb.runLimit = s.arb.runLimit ∧ t.press.settings = s.press.settings ∧ t.dir.profiles = s.dir.profiles ∧
      (t.intake x).frame = none ∧ (t.intake x).waiting = [] ∧
      (∀ j ∈ t.disp.waiting, ∀ k g, j.source ≠ .request x k g) ∧
      (∀ l j r, t.lane l = .decoding j r → j.link ≠ x) ∧ (∀ q ∈ t.dir.listings, q.link ≠ x) ∧
      (∀ id p, (s.intake x).page = some id → s.page id = some p →
        p.state = .opening ∨ p.state = .filling ∨ p.state = .coding →
        (t.intake x).page = none ∧
        (∃ q, t.page id = some q ∧ q.state = .failed ∧ q.cause = some .linkReset ∧ q.nextPixel = none ∧
          q.printRefs = 0) ∧
        (∀ u, ((s.intake x).slots.get u).state = .filling → ((s.intake x).slots.get u).page = some id →
          (t.intake x).slots.get u = ⟨.empty, none, none, 0, 0⟩) ∧
        (p.origin = x → (t.link x).sending = some (.notice (.pageFailed id .linkReset)))) ∧
      ∃ u : State, t = u.arbitrate ∧ u.ctl = { s.ctl with burst := u.ctl.burst, wakeFrameHeld := wakeHeld } ∧
        (∀ b, s.ctl.burst = some b → b.req = .stream x → u.ctl.burst = some { b with live := false }) ∧
        ∀ id p, s.page id = some p → ∃ q, u.page id = some q ∧ q.streamRefs = p.streamRefs - aborted id) ∧
    ((s.link x).resetting = false → (s.intake x).page = none →
      (∀ j ∈ s.disp.waiting, ∀ k g, j.source ≠ .request x k g) →
      (∀ l j r, s.lane l = .decoding j r → j.link ≠ x) → (∀ q ∈ s.dir.listings, q.link ≠ x) →
      ∃ t : State, exec (.linkReset x) s = .next t.arbitrate ∧ lost none t ∧ t.disp = s.disp ∧
        t.arb.tableQueue = s.arb.tableQueue ∧ t.arb.deferred = s.arb.deferred ∧
        t.dir = { s.dir with pages := pages }) ∧
    (∀ l j r p, (s.link x).resetting = false → (s.intake x).page = none →
      (∀ k ∈ s.disp.waiting, ∀ n g, k.source ≠ .request x n g) →
      s.lane l = .decoding j r → j.link = x → (∀ m k q, m ≠ l → s.lane m = .decoding k q → k.link ≠ x) →
      s.disp.queues.get l = [] → (∀ q ∈ s.dir.listings, q.link ≠ x) → s.page j.page = some p →
      ∃ t : State, exec (.linkReset x) s = .next t.arbitrate ∧ lost (some (.lane l)) t ∧
        t.disp = { s.disp with lanes := s.disp.lanes.set l .idle } ∧
        t.dir.pages = pagesWith p.id (fun q => { q with work := q.work - 1 }) pages ∧
        t.arb.tableQueue = queueAfterWork p (s.arb.tableQueue.filter fun op => op.client != .lane l) ∧
        t.arb.deferred = s.arb.deferred.filter fun op => op.client != .lane l) ∧
    (∀ q p, (s.link x).resetting = false → (s.intake x).page = none →
      (∀ k ∈ s.disp.waiting, ∀ n g, k.source ≠ .request x n g) →
      (∀ l j r, s.lane l = .decoding j r → j.link ≠ x) → s.dir.listings = [q] → q.link = x →
      s.page q.page = some p →
      ∃ t : State, exec (.linkReset x) s = .next t.arbitrate ∧ lost (some (.listing x q.ticket)) t ∧
        t.disp = s.disp ∧ t.dir.listings = [] ∧
        t.dir.pages = pagesWith p.id (fun r => { r with work := r.work - 1 }) pages ∧
        t.arb.tableQueue = queueAfterWork p (s.arb.tableQueue.filter fun op => op.client != .listing x q.ticket) ∧
        t.arb.deferred = s.arb.deferred.filter fun op => op.client != .listing x q.ticket) ∧
    exec (.linkResetSequenceEnd x) s = .next { s with links := s.links.set x { s.link x with resetting := false } }

/-! ## The album directory (R24 to R45, R98 to R107, R160) -/

/-- R40, R44, R83, R178 (derived): the long requests that name a page are refused, each for its own causes, and
nothing but their link changes; LIST PAGE of no records is answered at once with the page record. -/
def Obligations.RequestsNamingAPageAreRefused : Prop :=
  ∀ (x : Link) (s : State) (f : Frame),
    (s.offersLong x 3 f = true →
      (s.page (field 0 2 f.body) = none → exec (.retirePage x) s = .next (s.answeredLong x f (.refused .noPage))) ∧
      (∀ p, s.page (field 0 2 f.body) = some p →
        (p.state = .retiring → exec (.retirePage x) s = .next (s.answeredLong x f (.refused .pageRetiring))) ∧
        (p.state ≠ .retiring → 0 < p.printRefs ∨ 0 < p.streamRefs →
          exec (.retirePage x) s = .next (s.answeredLong x f (.refused .pageInUse))))) ∧
    (s.offersLong x 7 f = true →
      (s.page (field 0 2 f.body) = none → exec (.listPage x) s = .next (s.answeredLong x f (.refused .noPage))) ∧
      (∀ p, s.page (field 0 2 f.body) = some p →
        (p.state = .retiring → exec (.listPage x) s = .next (s.answeredLong x f (.refused .pageRetiring))) ∧
        (p.state ≠ .retiring → 1024 < field 4 2 f.body →
          exec (.listPage x) s = .next (s.answeredLong x f (.refused .badRequest))) ∧
        (p.state = .opening → 0 < field 4 2 f.body → field 4 2 f.body ≤ 1024 →
          exec (.listPage x) s = .next (s.answeredLong x f (.refused .pageState))) ∧
        (p.state ≠ .retiring → p.state ≠ .opening → 0 < field 4 2 f.body → field 4 2 f.body ≤ 1024 →
          p.b * p.c ≤ field 2 2 f.body →
          exec (.listPage x) s = .next (s.answeredLong x f (.refused .badRequest))) ∧
        (p.state ≠ .retiring → field 4 2 f.body = 0 →
          exec (.listPage x) s = .next (s.answeredLong x f (.done (.listed
            { id := p.id, state := p.state, cause := if p.state = .failed then p.cause else none, origin := p.origin,
              profile := p.profile, w := p.w, ht := p.ht, c := p.c, order := p.order, cls := p.cls,
              copyTarget := p.copyTarget, jobTag := p.jobTag, b := p.b,
              nextPixel := if p.state = .opening ∨ p.state = .filling then p.nextPixel else none,
              stored := p.stored, damaged := p.damaged, damageEvents := p.damageEvents, clamped := p.clamped,
              printRefs := p.printRefs, streamRefs := p.streamRefs } [])))))) ∧
    (s.offersLong x 6 f = true → ∀ c : Instr,
      (c = .readBandDecoded x ∧ field 5 1 f.body = 0 ∨ c = .readBandCompressed x ∧ field 5 1 f.body = 1) →
      (s.page (field 0 2 f.body) = none → exec c s = .next (s.answeredLong x f (.refused .noPage))) ∧
      (∀ p, s.page (field 0 2 f.body) = some p →
        (p.state = .retiring → exec c s = .next (s.answeredLong x f (.refused .pageRetiring))) ∧
        (p.state = .opening → exec c s = .next (s.answeredLong x f (.refused .notCoded))) ∧
        (p.state ≠ .retiring → p.state ≠ .opening → p.b ≤ field 2 2 f.body ∨ p.c ≤ field 4 1 f.body →
          exec c s = .next (s.answeredLong x f (.refused .badRequest))) ∧
        (p.state ≠ .retiring → p.state ≠ .opening → field 2 2 f.body < p.b → field 4 1 f.body < p.c →
          c = .readBandDecoded x →
          ((∃ j, (j ∈ s.disp.waiting ∨ ∃ l, (s.lane l).job = some j) ∧ (∃ y k g, j.source = .request y k g) ∧
              j.page = p.id ∧ j.band = field 2 2 f.body ∧ j.comp = field 4 1 f.body) →
            exec c s = .next (s.answeredLong x f (.refused .lanesBusy))) ∧
          (∀ (i : Nat) (h : i < 32),
            i = (5 * p.id + 3 * field 2 2 f.body + field 4 1 f.body) % 32 % 2 ^ s.disp.tableBits →
            8 ≤ (s.disp.queues.get s.disp.table[i]).length →
            exec c s = .next (s.answeredLong x f (.refused .lanesBusy))))))

/-- R34, R77 (derived; OPEN PAGE and a report that meet: log 58): OPEN PAGE is checked in order, stops at the first
refusal, and a refused one changes nothing but its link. The rules' decision is that of `Admission.classify` (R66 to
R68). One that meets the report of a lane's take below LW comes in one event with the end of the burst that holds the
take (O56); taken first, it is checked against NORMAL, so that of the mode check only the empty pool refuses it. Where
no such report can come, or no OPEN PAGE waits, the meeting changes nothing; a wrong length and four outstanding
requests are refused in it as R173 says. -/
def Obligations.OpenPageIsRefusedInOrder : Prop :=
  (∀ (x : Link) (s : State) (f : Frame) (met : Option (List Upset)) (found : State) (r : Refuse),
    (met = none ∧ found = s) ∨ (∃ us, met = some us ∧ s.fallThatMeets us = some found) →
    found.offersLong x 1 f = true → found.countedPool = true →
    (if field 0 2 f.body = 0 then some .badRequest
     else if field 2 2 f.body = 0 ∨ 16384 < field 2 2 f.body ∨ field 4 2 f.body = 0 ∨ 16384 < field 4 2 f.body ∨
         field 6 1 f.body = 0 ∨ 4 < field 6 1 f.body ∨ 1 < field 8 1 f.body then some .badGeometry
     else if 7 < field 7 1 f.body then some .badProfile
     else if (found.page (field 0 2 f.body)).isSome = true then some .pageExists
     else if 256 ≤ found.dir.pages.length then some .directoryFull
     else if (found.intake x).page.isSome = true then some .intakeBusy
     else if found.adm.classify x (OpenFields.of f.body) = .refuse then some .ruleRefused
     else if (met = none ∧ found.adm.mode = .closed) ∨ found.map.pool = [] then some .storeLow
     else none) = some r →
    (met = none → exec (.openPage x met) s = .next (found.answeredLong x f (.refused r))) ∧
    (met ≠ none → exec (.openPage x met) s = .next (found.answeredLong x f (.refused r)).arbitrate)) ∧
  (∀ (s found : State) (us : List Upset), s.fallThatMeets us = some found ↔
    ∃ b, s.ctl.burst = some b ∧ b.addr + 8 ≤ s.size.extents * 16384 ∧ found = s.burstEnded b us ∧
      exec (.burstEnd us) s = .next found.arbitrate ∧ s.adm.mode = .normal ∧ found.adm.mode ≠ .normal) ∧
  (∀ (x : Link) (s : State) (us : List Upset),
    (∀ found, s.fallThatMeets us = some found → (found.link x).rx.head?.any (fun f => f.kind == 1) = false) →
    exec (.openPage x (some us)) s = .next s) ∧
  ∀ (x : Link) (s : State) (us : List Upset) (found : State) (f : Frame),
    s.fallThatMeets us = some found → found.offers x 1 f = true →
    (f.body.length ≠ 11 →
      exec (.openPage x (some us)) s = .next (found.answeredAt x f (.refused .badRequest)).arbitrate) ∧
    (f.body.length = 11 → 4 ≤ (found.link x).long.length →
      exec (.openPage x (some us)) s = .next (found.answeredAt x f (.refused .busy)).arbitrate)

/-- R34 step 8, R35, R70, R71, R77, R100, R106 (derived; OPEN PAGE and a report that meet: log 58): an admitted page
enters the directory with the extent at the head of the pool as its header, its profile's use count rises, it is the
intake page of its link, and the first write of its header initialisation waits at TABLE. In LOW an admit is used, and
the header take reports the fallen free count: the mode, the admits remaining and the STORE LOW notices are those of
O30. One that meets the report of a lane's take below LW, and is taken first, is admitted in NORMAL without using an
admit: its header take finds the mode that the report has left, LOW or CLOSED, so that besides the free count it
changes nothing there and places no notice. No reply is sent. -/
def Obligations.OpenPageAdmitsThePage : Prop :=
  ∀ (x : Link) (s : State) (f : Frame) (met : Option (List Upset)) (found : State) (e : Nat) (rest : List Nat)
    (cls : Nat) (target : Option Link) (h : field 7 1 f.body < 8),
    (met = none ∧ found = s ∧ s.adm.mode ≠ .closed) ∨ (∃ us, met = some us ∧ s.fallThatMeets us = some found) →
    found.offersLong x 1 f = true → found.countedPool = true →
    0 < field 0 2 f.body → 0 < field 2 2 f.body → field 2 2 f.body ≤ 16384 → 0 < field 4 2 f.body →
    field 4 2 f.body ≤ 16384 → 0 < field 6 1 f.body → field 6 1 f.body ≤ 4 → field 8 1 f.body ≤ 1 →
    found.page (field 0 2 f.body) = none → found.dir.pages.length < 256 → (found.intake x).page = none →
    found.adm.classify x (OpenFields.of f.body) = .accept cls target → found.map.pool = e :: rest →
    let pr := found.dir.profiles[field 7 1 f.body]
    let bands := (field 4 2 f.body + pr.hb - 1) / pr.hb
    ∃ t : State, exec (.openPage x met) s = .next t.arbitrate ∧
      t.dir.pages = found.dir.pages ++ [{
        id := field 0 2 f.body, state := .opening, cause := none, origin := x, profile := field 7 1 f.body,
        w := field 2 2 f.body, ht := field 4 2 f.body, c := field 6 1 f.body,
        order := if field 8 1 f.body = 0 then .highFirst else .lowFirst, cls := cls, copyTarget := target,
        jobTag := field 9 2 f.body, b := bands, nextPixel := some 0, stored := 0, damaged := false,
        damageEvents := 0, clamped := 0, printRefs := 0, streamRefs := 0, work := 1, header := e }] ∧
      t.dir.profiles = found.dir.profiles.set (field 7 1 f.body) { pr with uses := pr.uses + 1 } ∧
      t.dir.inits = found.dir.inits ++ [⟨field 0 2 f.body, x, found.nextTicket, 0, bands * field 6 1 f.body, e⟩] ∧
      t.dir.releases = found.dir.releases ∧ t.dir.listings = found.dir.listings ∧
      t.intakes = found.intakes.set x { found.intake x with page := some (field 0 2 f.body) } ∧
      t.map.pool = rest ∧ t.map.table = planePut found.map.table e ⟨.last, field 0 2 f.body, .header⟩ ∧
      t.adm.freeCount = rest.length ∧ t.adm.rules = found.adm.rules ∧ t.adm.lw = found.adm.lw ∧
      t.adm.hw = found.adm.hw ∧
      (met = none →
        t.adm = (State.reportFall rest.length (s.madeLong x f).useAdmit).adm ∧
        t.links = (State.reportFall rest.length (s.madeLong x f).useAdmit).links) ∧
      (met ≠ none →
        t.adm = { found.adm with freeCount := rest.length } ∧ t.links = (found.madeLong x f).links) ∧
      t.arb.tableQueue = found.arb.tableQueue ++ [⟨.headerInit (field 0 2 f.body), recordBurst e 0,
        .write (List.replicate 8 0) (recordMask 0 (min 4 (bands * field 6 1 f.body)))⟩] ∧
      (t.link x).long = (found.link x).long ++ [⟨found.nextTicket, 1, f.tag⟩] ∧
      (t.link x).rx = (found.link x).rx.tail ∧ (t.link x).replyUse = (found.link x).replyUse + 1 ∧
      t.nextTicket = found.nextTicket + 1 ∧ t.disp = found.disp ∧ t.press = found.press ∧ t.ctl = found.ctl ∧
      t.still = found.still

/-- R33 (derived): SET PROFILE is refused BAD_PROFILE for a number or field outside its set, PROFILE_IN_USE for a
profile in use, and else replaces the four fields. -/
def Obligations.SetProfileReplacesAnUnusedProfile : Prop :=
  ∀ (x : Link) (s : State) (f : Frame), s.offers x 10 f = true → f.body.length = 5 →
    (7 < field 0 1 f.body ∨ 2 < field 1 1 f.body ∨ 7 < field 2 1 f.body ∨
        (field 3 1 f.body ≠ 8 ∧ field 3 1 f.body ≠ 16 ∧ field 3 1 f.body ≠ 32) ∨
        (field 4 1 f.body ≠ 8 ∧ field 4 1 f.body ≠ 10 ∧ field 4 1 f.body ≠ 12) →
      exec (.setProfile x) s = .next (s.answeredAt x f (.refused .badProfile))) ∧
    (∀ h : field 0 1 f.body < 8, field 1 1 f.body ≤ 2 → field 2 1 f.body ≤ 7 →
        (field 3 1 f.body = 8 ∨ field 3 1 f.body = 16 ∨ field 3 1 f.body = 32) →
        (field 4 1 f.body = 8 ∨ field 4 1 f.body = 10 ∨ field 4 1 f.body = 12) →
      (0 < s.dir.profiles[field 0 1 f.body].uses →
        exec (.setProfile x) s = .next (s.answeredAt x f (.refused .profileInUse))) ∧
      (s.dir.profiles[field 0 1 f.body].uses = 0 → exec (.setProfile x) s = .next { s with
        dir := { s.dir with
          profiles := s.dir.profiles.set (field 0 1 f.body)
            ⟨if field 1 1 f.body = 0 then .left else if field 1 1 f.body = 1 then .above else .edge,
              field 2 1 f.body, field 3 1 f.body, field 4 1 f.body, 0⟩ }
        links := s.links.set x ((s.link x).answered f (.done .none)) }))

/-- R36 (derived): when the last record of a header initialisation has been written, an OPENING page becomes FILLING
and OPEN PAGE is answered DONE if it is still outstanding; a FAILED page stays FAILED with no reply; a RETIRING page's
OPEN PAGE is answered PAGE_RETIRING, and its release begins when no work is left. -/
def Obligations.HeaderInitialisationEndsOpening : Prop :=
  ∀ (page : Nat) (s : State) (h : HeaderInit) (p : Page),
    s.dir.inits.find? (fun i => i.page == page) = some h → h.total ≤ h.written → s.page page = some p →
    let replied (r : ReplyResult) : Pair LinkCtl :=
      match (s.link h.link).long.find? (fun q => q.ticket == h.ticket) with
      | none => s.links
      | some q => s.links.set h.link ((s.link h.link).repliedLong q r)
    ∀ st, st = p.state →
    (st = .opening ∨ st = .failed ∨ st = .retiring) →
    ∃ t : State, exec (.headerInitComplete page) s = .next t.arbitrate ∧
      t.page page = some { p with state := if st = .opening then .filling else st, work := p.work - 1 } ∧
      t.dir.inits = s.dir.inits.filter (fun i => i.page != page) ∧
      t.links = (if st = .opening then replied (.done (.opened page p.b p.cls p.copyTarget))
        else if st = .retiring then replied (.refused .pageRetiring) else s.links) ∧
      t.arb.tableQueue = (if st = .retiring ∧ p.work ≤ 1 then
          s.arb.tableQueue ++ [⟨.release page, recordBurst p.header 0, .read (recordMask 0 1) false⟩]
        else s.arb.tableQueue) ∧
      t.map = s.map ∧ t.adm = s.adm ∧ t.intakes = s.intakes ∧ t.disp = s.disp ∧ t.press = s.press ∧ t.ctl = s.ctl ∧
      t.dir.profiles = s.dir.profiles ∧ t.dir.listings = s.dir.listings ∧ t.still = s.still

/-- R40 steps 4 to 6, R41, R42, R47, R60, R95 (derived; a sheet of the page just counted stays counted: log 19): RETIRE
PAGE taken: the page is RETIRING, is no link's intake page, no job of it waits, and its release begins at once if no
work is in flight. Each ENCODE job removed ends at its slot, with RESUME where hold ceases, and each PROOF job removed
is answered NO_PAGE. -/
def Obligations.RetirePageBeginsRetirement : Prop :=
  ∀ (x : Link) (s : State) (f : Frame) (p : Page),
    s.offersLong x 3 f = true → s.page (field 0 2 f.body) = some p → p.state ≠ .retiring → p.printRefs = 0 →
    p.streamRefs = 0 →
    ∃ t : State, exec (.retirePage x) s = .next t.arbitrate ∧
      t.dir.pages = s.dir.pages.map (fun q => if q.id = p.id then
        { q with state := .retiring, cause := none, nextPixel := none } else q) ∧
      (p.work = 0 → ⟨p.id, x, s.nextTicket, true, 0⟩ ∈ t.dir.releases ∧
        t.arb.tableQueue = s.arb.tableQueue ++
          [⟨.release p.id, recordBurst p.header 0, .read (recordMask 0 1) false⟩]) ∧
      (0 < p.work → ⟨p.id, x, s.nextTicket, false, 0⟩ ∈ t.dir.releases ∧ t.arb.tableQueue = s.arb.tableQueue) ∧
      (∀ y, (t.intake y).page ≠ some p.id) ∧ (∀ j ∈ t.disp.waiting, j.page ≠ p.id) ∧
      (let gone := s.disp.waiting.filter fun j => j.page == p.id
       (∀ y, t.intake y = ((s.intake y).jobsEnded y gone).ceased p.id) ∧
       (∀ y, (s.intake y).hold = true → (t.intake y).hold = false → (t.link y).told (s.link y) .resume) ∧
       (∀ j ∈ gone, ∀ y k g, j.source = .request y k g → ∀ q,
         (s.link y).long.find? (fun q => q.ticket == k) = some q →
         (t.link y).holds (.reply q.kind q.tag (.refused .noPage)) = true ∧ ∀ r ∈ (t.link y).long, r.ticket ≠ k)) ∧
      t.dir.profiles = s.dir.profiles ∧ t.map = s.map ∧ t.adm = s.adm ∧
      t.press = { s.press with counted := s.press.counted.filter fun e => e.page != p.id } ∧ t.still = s.still

/-- R42, R72, R103 to R107, R178 (derived): the end of a release's record read: the chain of a record that is not
PENDING goes to the tail of the pool, its entries FREE, then the next record is read, not checked, or after the last the
chains the page still owns follow in rising record index, then its header, the page leaves the directory, its band
record reads find it gone, and RETIRE PAGE is answered. Each extent returned reports the risen free count: the mode, the
admits remaining and the STORE OPEN notices are those of O30, one report after another. Where the page's chains do not
meet and hold all its entries but the header, the pool has grown by exactly these extents and no entry is the page's any
more. The chain of a record is the one it names, if its entry is first, of the page and of the record index; else the
one whose first entry the table holds for them; else none. Opening and following a chain answer by the entry, and a
chain is what following gives. -/
def Obligations.ReleaseReturnsChainsThenThePage : Prop :=
  (∀ (m : ExtentMap) (page index first : Nat),
    let isFirst (e : Nat) : Prop := ∃ kind, m.entry e = some ⟨kind, page, .payload index true⟩
    (isFirst first → m.openChain page index first = some first ∧ m.chooseChain page index first = some first) ∧
    (¬ isFirst first → m.openChain page index first = none) ∧
    (¬ isFirst first → planeWf m.table = true →
      (∀ e, m.chooseChain page index first = some e → isFirst e) ∧
      (m.chooseChain page index first = none → ∀ e, ¬ isFirst e) ∧
      (∀ e, isFirst e → (∀ d, isFirst d → d = e) → m.chooseChain page index first = some e)) ∧
    (∀ e d owner use, m.entry e = some ⟨.next d, owner, use⟩ → m.follow e = some d) ∧
    (∀ e owner use, m.entry e = some ⟨.last, owner, use⟩ → m.follow e = none) ∧
    (∀ e, m.entry e = none → m.follow e = none) ∧
    m.chainOf none = [] ∧
    (∀ e, m.entry e ≠ none → (m.chainOf (some e)).head? = some e) ∧
    (∀ e i a b, (m.chainOf (some e))[i]? = some a → (m.chainOf (some e))[i + 1]? = some b → m.follow a = some b) ∧
    (∀ e i a b, (m.chainOf (some e))[i]? = some a → m.follow a = some b → m.entry b ≠ none →
      i + 1 < m.table.length → (m.chainOf (some e))[i + 1]? = some b)) ∧
  ∀ (page : Nat) (s : State) (e : TableEnd) (r : Release) (p : Page),
    s.arb.tableEnds.find? (fun e => e.op.client == .release page) = some e →
    s.dir.releases.find? (fun r => r.page == page) = some r → s.page page = some p →
    let record := (readRecord r.next e.words).1
    let chain : List Nat :=
      if record.state = .pending then [] else s.map.chainOf (s.map.chooseChain page r.next record.first)
    let map := s.map.freed chain
    let owned : List (Nat × Nat) := map.ownedChains page
    (r.next + 1 < p.b * p.c → ∃ t : State, exec (.releaseRecordRead page) s = .next t.arbitrate ∧
      t.map = map ∧ t.adm = (s.risen chain.length).adm ∧ t.links = (s.risen chain.length).links ∧
      t.arb.tableQueue = s.arb.tableQueue ++
        [⟨.release page, recordBurst p.header (r.next + 1), .read (recordMask (r.next + 1) 1) false⟩] ∧
      t.arb.tableEnds = s.arb.tableEnds.erase e ∧
      t.dir.pages = s.dir.pages ∧ t.dir.profiles = s.dir.profiles ∧
      t.dir.releases = s.dir.releases.map (fun q => if q.page = page then { q with next := q.next + 1 } else q) ∧
      t.disp = s.disp ∧ t.press = s.press ∧ t.intakes = s.intakes ∧ t.still = s.still) ∧
    (p.b * p.c ≤ r.next + 1 → ∃ t : State, exec (.releaseRecordRead page) s = .next t.arbitrate ∧
      t.map = (map.freedChains (owned.map Prod.snd)).freed [p.header] ∧
      t.adm.freeCount = t.map.pool.length ∧
      (let reported := s.risen (t.map.pool.length - s.map.pool.length)
       let gone (c : LinkCtl) : LinkCtl :=
         { c with recordReads := c.recordReads.map fun q => if q.page = page then { q with gone := true } else q }
       t.adm = reported.adm ∧
       t.links = longReplied r.link r.ticket (.done .none) ⟨gone reported.links.a, gone reported.links.b⟩) ∧
      ((owned.flatMap fun q => map.chainOf (some q.2)).Nodup → planeWf map.table = true →
        t.map.pool = s.map.pool ++ chain ++ (owned.flatMap fun q => map.chainOf (some q.2)) ++ [p.header]) ∧
      ((owned.flatMap fun q => map.chainOf (some q.2)).Nodup → planeWf map.table = true →
        (∀ q ∈ map.table, q.2.owner = page →
          q.1 = p.header ∨ q.1 ∈ owned.flatMap fun q => map.chainOf (some q.2)) →
        ∀ q ∈ t.map.table, q.2.owner ≠ page) ∧
      (∀ i, owned[i + 1]?.isSome = true → (owned.map Prod.fst).getD i 0 ≤ (owned.map Prod.fst).getD (i + 1) 0) ∧
      t.dir.pages = s.dir.pages.filter (fun q => q.id != page) ∧
      t.dir.releases = s.dir.releases.filter (fun q => q.page != page) ∧
      (∀ h : p.profile < 8, t.dir.profiles[p.profile].uses = s.dir.profiles[p.profile].uses - 1) ∧
      (∀ y, (t.link y).recordReads =
        (s.link y).recordReads.map fun q => if q.page = page then { q with gone := true } else q) ∧
      (∀ q ∈ (t.link r.link).long, q.ticket ≠ r.ticket) ∧
      (∀ q, (s.link r.link).long.find? (fun q => q.ticket == r.ticket) = some q →
        OutFrame.reply q.kind q.tag (.done .none) ∈ (t.link r.link).sending.toList ++ (t.link r.link).out) ∧
      t.arb.tableQueue = s.arb.tableQueue ∧ t.arb.tableEnds = s.arb.tableEnds.erase e ∧
      t.disp = s.disp ∧ t.press = s.press ∧ t.intakes = s.intakes ∧ t.still = s.still)

/-- R44, R160 (derived): LIST PAGE with records reads them one after another, each checked, and is answered when the
last has been read with the page record as it then stands; a record whose read was signalled is listed unreadable, its
flag set since the end of its burst (O56). The end of a DAMAGED mark's write changes nothing more. -/
def Obligations.ListPageReadsItsRecords : Prop :=
  (∀ (x : Link) (s : State) (f : Frame) (p : Page),
    s.offersLong x 7 f = true → s.page (field 0 2 f.body) = some p → p.state ≠ .retiring → p.state ≠ .opening →
    0 < field 4 2 f.body → field 4 2 f.body ≤ 1024 → field 2 2 f.body < p.b * p.c →
    exec (.listPage x) s = .next (State.arbitrate { s.madeLong x f with
      dir := { s.dir with
        pages := s.dir.pages.map (fun q => if q.id = p.id then { q with work := q.work + 1 } else q)
        listings := s.dir.listings ++ [⟨x, s.nextTicket, p.id, field 2 2 f.body,
          min (field 2 2 f.body + field 4 2 f.body) (p.b * p.c), []⟩] }
      arb := { s.arb with
        tableQueue := s.arb.tableQueue ++ [⟨.listing x s.nextTicket, recordBurst p.header (field 2 2 f.body),
            .read (recordMask (field 2 2 f.body) 1) true⟩] } })) ∧
  (∀ (x : Link) (s : State) (e : TableEnd) (k : Nat) (q : Listing) (p : Page),
    s.arb.tableEnds.find? (fun e => e.op.client.isListing x) = some e → e.op.client = .listing x k →
    s.dir.listings.find? (fun q => q.link == x && q.ticket == k) = some q → s.page q.page = some p →
    let got := q.got ++ [⟨!((recordWords q.next e.words).1.bad || (recordWords q.next e.words).2.bad),
      (recordWords q.next e.words).1.word, (recordWords q.next e.words).2.word⟩]
    (q.next + 1 < q.stop → exec (.listPageReadEnd x) s = .next (State.arbitrate { s with
      dir := { s.dir with listings := s.dir.listings.map (fun r =>
        if r.ticket = q.ticket then { r with next := r.next + 1, got := got } else r) }
      arb := { s.arb with
        tableEnds := s.arb.tableEnds.erase e
        tableQueue := s.arb.tableQueue ++ [⟨.listing x k, recordBurst p.header (q.next + 1),
          .read (recordMask (q.next + 1) 1) true⟩] } })) ∧
    (q.stop ≤ q.next + 1 → ∃ t : State, exec (.listPageReadEnd x) s = .next t.arbitrate ∧
      t.dir.listings = s.dir.listings.filter (fun r => r.ticket != q.ticket) ∧
      t.dir.pages = s.dir.pages.map (fun r => if r.id = p.id then { r with work := r.work - 1 } else r) ∧
      t.dir.profiles = s.dir.profiles ∧ t.arb.tableEnds = s.arb.tableEnds.erase e ∧
      t.arb.tableQueue = (if p.state = .retiring ∧ p.work ≤ 1 then
          s.arb.tableQueue ++ [⟨.release p.id, recordBurst p.header 0, .read (recordMask 0 1) false⟩]
        else s.arb.tableQueue) ∧
      t.links = longReplied x k (.done (.listed p.listing got)) s.links ∧
      t.map = s.map ∧ t.adm = s.adm ∧ t.disp = s.disp ∧ t.press = s.press ∧ t.intakes = s.intakes ∧
      t.ctl = s.ctl ∧ t.still = s.still)) ∧
  (∀ (s : State) (e : TableEnd), s.arb.tableEnds.find? (fun e => e.op.client.isMark) = some e →
    exec .damagedMarkWriteEnd s = .next { s with
      arb := { s.arb with tableEnds := s.arb.tableEnds.erase e } })

/-! ## Admission and the settings (R64 to R77, R81, R136, R143) -/

/-- R65 (derived; a yes or no byte above 1: log 16): SET RULE is refused BAD_REQUEST for a number or field outside its
set, and else replaces the whole rule record. -/
def Obligations.SetRuleReplacesARule : Prop :=
  ∀ (x : Link) (s : State) (f : Frame), s.offers x 11 f = true → f.body.length = 11 →
    (7 < field 0 1 f.body ∨ 1 < field 1 1 f.body ∨ 6 < field 2 1 f.body ∨ 3 < field 3 1 f.body ∨
        1 < field 8 1 f.body ∨ 4 < field 9 1 f.body ∨ 2 < field 10 1 f.body →
      exec (.setRule x) s = .next (s.answeredAt x f (.refused .badRequest))) ∧
    (∀ h : field 0 1 f.body < 8, field 1 1 f.body ≤ 1 → field 2 1 f.body ≤ 6 → field 3 1 f.body ≤ 3 →
        field 8 1 f.body ≤ 1 → field 9 1 f.body ≤ 4 → field 10 1 f.body ≤ 2 →
      exec (.setRule x) s = .next { s with
        adm := { s.adm with
          rules := s.adm.rules.set (field 0 1 f.body) {
            enabled := field 1 1 f.body == 1
            field := match field 2 1 f.body with
              | 0 => .pageId | 1 => .width | 2 => .height | 3 => .components | 4 => .profile | 5 => .jobTag
              | _ => .origin
            op := match field 3 1 f.body with
              | 0 => .eq | 1 => .ne | 2 => .gt | _ => .lt
            value := BitVec.ofNat 16 (field 4 2 f.body)
            mask := BitVec.ofNat 16 (field 6 2 f.body)
            andNext := field 8 1 f.body == 1
            action := if field 9 1 f.body = 0 then .refuse else .cls (field 9 1 f.body)
            copyTarget := if field 10 1 f.body = 0 then none else if field 10 1 f.body = 1 then some .a else some .b } }
        links := s.links.set x ((s.link x).answered f (.done .none)) })

/-- R66, R67, R68 (derived): the first rule that leads a group and whose group matches decides; a disabled leader
skips its group, a disabled later member counts as matching; with no match the default class decides. -/
def Obligations.FirstMatchingGroupDecides : Prop :=
  ∀ (a : Admission) (x : Link) (q : OpenFields),
    let compares (r : Rule) : Prop :=
      let number : Nat := match r.field with
        | .pageId => q.page | .width => q.w | .height => q.ht | .components => q.c | .profile => q.profile
        | .jobTag => q.jobTag | .origin => if x = .a then 0 else 1
      let p := (BitVec.ofNat 16 number &&& r.mask).toNat
      let v := (r.value &&& r.mask).toNat
      match r.op with
        | .eq => p = v | .ne => p ≠ v | .gt => v < p | .lt => p < v
    let leads (i : Fin 8) : Prop := ∀ j : Fin 8, j.val + 1 = i.val → a.rules[j].andNext = false
    let hits (i : Fin 8) : Prop := a.rules[i].enabled = true ∧ compares a.rules[i] ∧
      ∀ j : Fin 8, i < j → (∀ k : Fin 8, i ≤ k → k < j → a.rules[k].andNext = true) → a.rules[j].enabled = true →
        compares a.rules[j]
    (∀ i : Fin 8, leads i → hits i → (∀ j : Fin 8, j < i → leads j → ¬ hits j) →
      (a.rules[i].action = .refuse → a.classify x q = .refuse) ∧
      (∀ n, a.rules[i].action = .cls n → a.classify x q = .accept n a.rules[i].copyTarget)) ∧
    ((∀ i : Fin 8, leads i → ¬ hits i) →
      a.classify x q = if a.defaultClass = 0 then .refuse else .accept a.defaultClass none)

/-- R69, R136 (derived): SET DEFAULT CLASS takes 0 to 4 and refuses the rest; SET STORE sets the run limit, 0 taken as 1
and above 32 as 32. -/
def Obligations.DefaultClassAndRunLimitAreSet : Prop :=
  ∀ (x : Link) (s : State) (f : Frame), f.body.length = 1 →
    (s.offers x 12 f = true →
      (field 0 1 f.body ≤ 4 → exec (.setDefaultClass x) s = .next { s with
        adm := { s.adm with defaultClass := field 0 1 f.body }
        links := s.links.set x ((s.link x).answered f (.done .none)) }) ∧
      (4 < field 0 1 f.body → exec (.setDefaultClass x) s = .next (s.answeredAt x f (.refused .badRequest)))) ∧
    (s.offers x 16 f = true →
      let m := if field 0 1 f.body = 0 then 1 else if 32 < field 0 1 f.body then 32 else field 0 1 f.body
      exec (.setStore x) s = .next { s with
        arb := { s.arb with runLimit := m }
        links := s.links.set x ((s.link x).answered f (.done (.runLimit m))) })

/-- R75, R76, R73 (derived): SET WATERMARKS clamps the two watermarks, replaces the three settings, re-evaluates the
mode against the free count as last reported and answers with all four; a count K above 15 is refused. -/
def Obligations.SetWatermarksClampsAndReevaluates : Prop :=
  ∀ (x : Link) (s : State) (f : Frame), s.offers x 14 f = true → f.body.length = 5 →
    (15 < field 4 1 f.body → exec (.setWatermarks x) s = .next (s.answeredAt x f (.refused .badRequest))) ∧
    (field 4 1 f.body ≤ 15 →
      let lw := min (field 0 2 f.body) (s.size.extents - 256)
      let hw := max (min (field 2 2 f.body) (s.size.extents - 256)) lw
      let k := field 4 1 f.body
      let F := s.adm.freeCount
      let took := s.links.set x (s.link x).took
      let result (mode : AdmMode) (admits : Nat) (notice : Option Notice) : State :=
        let told : Pair LinkCtl := match notice with
          | none => took
          | some n => ⟨took.a.placeNotice n, took.b.placeNotice n⟩
        { s with
          adm := { s.adm with lw := lw, hw := hw, k := k, mode := mode, admits := admits }
          links := told.set x ((told.get x).place (.reply 14 f.tag (.done (.watermarks lw hw k mode)))) }
      (hw ≤ F → exec (.setWatermarks x) s =
        .next (result .normal 0 (if s.adm.mode = .closed then some (.storeOpen F) else none))) ∧
      (F < hw → s.adm.mode = .normal → F < lw → 0 < k → exec (.setWatermarks x) s = .next (result .low k none)) ∧
      (F < hw → s.adm.mode = .normal → F < lw → k = 0 →
        exec (.setWatermarks x) s = .next (result .closed 0 (some (.storeLow F)))) ∧
      (F < hw → s.adm.mode ≠ .normal ∨ lw ≤ F →
        exec (.setWatermarks x) s = .next (result s.adm.mode s.adm.admits none)))

/-- R70, R71, R72, R73 (derived): how a report of a fallen or risen free count and an admission in LOW move the
admission mode, and which notices they place on both links. -/
def Obligations.ReportsMoveTheAdmissionMode : Prop :=
  ∀ (s : State) (n : Nat),
    let told (m : Notice) : Pair LinkCtl := ⟨s.links.a.placeNotice m, s.links.b.placeNotice m⟩
    (s.adm.mode = .normal → n < s.adm.lw → 0 < s.adm.k →
      s.reportFall n = { s with adm := { s.adm with freeCount := n, mode := .low, admits := s.adm.k } }) ∧
    (s.adm.mode = .normal → n < s.adm.lw → s.adm.k = 0 →
      s.reportFall n = { s with
        adm := { s.adm with freeCount := n, mode := .closed, admits := 0 }, links := told (.storeLow n) }) ∧
    (s.adm.mode ≠ .normal ∨ s.adm.lw ≤ n → s.reportFall n = { s with adm := { s.adm with freeCount := n } }) ∧
    (s.adm.mode = .low → s.adm.hw ≤ n →
      s.reportRise n = { s with adm := { s.adm with freeCount := n, mode := .normal, admits := 0 } }) ∧
    (s.adm.mode = .closed → s.adm.hw ≤ n →
      s.reportRise n = { s with
        adm := { s.adm with freeCount := n, mode := .normal, admits := 0 }, links := told (.storeOpen n) }) ∧
    (s.adm.mode = .normal ∨ n < s.adm.hw → s.reportRise n = { s with adm := { s.adm with freeCount := n } }) ∧
    (s.adm.mode ≠ .low → s.useAdmit = s) ∧
    (s.adm.mode = .low → 1 < s.adm.admits →
      s.useAdmit = { s with adm := { s.adm with admits := s.adm.admits - 1 } }) ∧
    (s.adm.mode = .low → s.adm.admits = 1 →
      s.useAdmit = { s with
        adm := { s.adm with mode := .closed, admits := 0 }, links := told (.storeLow s.adm.freeCount) })

/-- R81 (derived): SET LANE TABLE is refused for an entry above 3 or table bits above 5; else it replaces the table and
its bits, 0 taken as 1. -/
def Obligations.SetLaneTableReplacesTheTable : Prop :=
  ∀ (x : Link) (s : State) (f : Frame), s.offers x 13 f = true → f.body.length = 33 →
    let b := if field 0 1 f.body = 0 then 1 else field 0 1 f.body
    (5 < b ∨ (∃ i, i < 32 ∧ 3 < field (1 + i) 1 f.body) →
      exec (.setLaneTable x) s = .next (s.answeredAt x f (.refused .badRequest))) ∧
    (b ≤ 5 → (∀ i, i < 32 → field (1 + i) 1 f.body ≤ 3) →
      exec (.setLaneTable x) s = .next { s with
        disp := { s.disp with
          tableBits := b
          table := Vector.ofFn (fun i : Fin 32 =>
            match field (1 + i.val) 1 f.body with
            | 0 => .l0 | 1 => .l1 | 2 => .l2 | _ => .l3) }
        links := s.links.set x ((s.link x).answered f (.done (.laneTable b))) })

/-- R143 (derived; no press test and no report of urgency: log 37): SET PRESS is refused for a value outside its range;
else the press settings are replaced, with an urgent level above the preroll taken as the preroll, and nothing else of
the press feed changes. -/
def Obligations.SetPressReplacesTheSettings : Prop :=
  ∀ (x : Link) (s : State) (f : Frame), s.offers x 15 f = true → f.body.length = 3 →
    let p := field 1 1 f.body
    let u := field 2 1 f.body
    (1 < field 0 1 f.body ∨ p = 0 ∨ 64 < p ∨ u = 0 ∨ 16 < u →
      exec (.setPress x) s = .next (s.answeredAt x f (.refused .badRequest))) ∧
    (field 0 1 f.body ≤ 1 → 0 < p → p ≤ 64 → 0 < u → u ≤ 16 →
      let t : PressSettings := ⟨if field 0 1 f.body = 0 then .sequential else .interleaved, p, if p < u then p else u⟩
      exec (.setPress x) s = .next { s with
        press := { s.press with settings := t }
        links := s.links.set x ((s.link x).answered f (.done (.press t))) })

/-! ## The coding lanes (R78 to R96) -/

/-- R83 step 7, R85, R128 (derived): READ BAND in decoded form that passes its checks joins the queue of its destined
lane with no reply; an idle lane takes it at once and its band record is read, checked, when no operation of the lane's
ended work is still being made. -/
def Obligations.ReadBandDecodedQueuesAProofJob : Prop :=
  ∀ (x : Link) (s : State) (f : Frame) (p : Page) (i : Nat) (hi : i < 32),
    s.offersLong x 6 f = true → field 5 1 f.body = 0 → s.page (field 0 2 f.body) = some p → p.state ≠ .retiring →
    p.state ≠ .opening → field 2 2 f.body < p.b → field 4 1 f.body < p.c →
    (∀ j, (j ∈ s.disp.waiting ∨ ∃ l, (s.lane l).job = some j) → (∃ y k g, j.source = .request y k g) →
      j.page = p.id → j.band = field 2 2 f.body → j.comp ≠ field 4 1 f.body) →
    i = (5 * p.id + 3 * field 2 2 f.body + field 4 1 f.body) % 32 % 2 ^ s.disp.tableBits →
    let l := s.disp.table[i]
    let j : Job := {
      page := p.id, band := field 2 2 f.body, comp := field 4 1 f.body, cls := p.cls,
      source := .request x s.nextTicket f.tag, lane := l, arrival := s.disp.nextArrival }
    (s.lane l ≠ .idle → (s.disp.queues.get l).length < 8 →
      exec (.readBandDecoded x) s = .next (State.arbitrate { s.madeLong x f with
        disp := { s.disp with
          nextArrival := s.disp.nextArrival + 1
          queues := s.disp.queues.set l (s.disp.queues.get l ++ [j]) } })) ∧
    (s.lane l = .idle → s.disp.queues.get l = [] → (∀ k ∈ s.disp.allPending, k.lane ≠ l) →
      exec (.readBandDecoded x) s = .next (State.arbitrate { s.madeLong x f with
        disp := { s.disp with
          nextArrival := s.disp.nextArrival + 1
          lanes := s.disp.lanes.set l (.decoding j .recordRead) }
        dir := { s.dir with pages := pagesWith p.id (fun q => { q with work := q.work + 1 }) s.dir.pages }
        arb := s.opPlaced ⟨.lane l, recordBurst p.header (j.band * p.c + j.comp),
          .read (recordMask (j.band * p.c + j.comp) 1) true⟩ }))

/-- R3, R29, R78, R80, R82, R84, R85, R87, R92, R128 (derived): a new ENCODE job goes to the lane that the hash of its
band-component selects in the table: to that lane's queue, where an idle lane takes it, or to its slot's pending-issue
list where the queue is full. An idle lane takes from its queue the job of the lowest class, the earliest within it:
the page's work in flight rises by 1, an ENCODE job begins with a fresh context of the page's profile, every sample of
the band still to code and no extent taken, and a PROOF job has its record read placed; the place freed is handed on. A
place free in a queue goes to the earliest pending job destined for its lane, and to no other. -/
def Obligations.LanesTakeByClassAndPlacesByArrival : Prop :=
  (∀ (s : State) (p : Page) (band comp : Nat) (x : Link) (t : SlotId) (i : Nat) (hi : i < 32),
    i = (5 * p.id + 3 * band + comp) % 32 % 2 ^ s.disp.tableBits →
    let l := s.disp.table[i]
    let j : Job := ⟨p.id, band, comp, p.cls, .slot x t, l, s.disp.nextArrival⟩
    ((s.disp.queues.get l).length < 8 → s.dispatchEncode p band x t comp = State.laneTake l { s with
      disp := { s.disp with
        nextArrival := s.disp.nextArrival + 1
        queues := s.disp.queues.set l (s.disp.queues.get l ++ [j]) } }) ∧
    (8 ≤ (s.disp.queues.get l).length → s.dispatchEncode p band x t comp = { s with
      disp := { s.disp with
        nextArrival := s.disp.nextArrival + 1
        pendings := s.disp.pendings.set x ((s.disp.pendings.get x).set t ((s.disp.pendings.get x).get t ++ [j])) } })) ∧
  ∀ (l : Lane) (s : State),
    (s.lane l = .idle → s.disp.queues.get l ≠ [] →
      ∃ j ∈ s.disp.queues.get l, ((s.laneTake l).lane l).job = some j ∧
        (∀ k ∈ s.disp.queues.get l, j.cls < k.cls ∨ (j.cls = k.cls ∧ j.arrival ≤ k.arrival)) ∧
        ∀ p, s.page j.page = some p →
          let pr := s.profileOf p
          let rows := min pr.hb (p.ht - j.band * pr.hb)
          let index := j.band * p.c + j.comp
          let began (v : LaneState) : State := { s with
            disp := { s.disp with
              queues := s.disp.queues.set l ((s.disp.queues.get l).filter fun k => k.arrival != j.arrival)
              lanes := s.disp.lanes.set l v }
            dir := { s.dir with pages := pagesWith p.id (fun q => { q with work := q.work + 1 }) s.dir.pages } }
          (∀ x t, j.source = .slot x t → s.laneTake l = State.movePending l (began (.encoding j
            { phase := .coding, left := rows * p.w, out := [], words := 0, first := none, last := none, taken := 0
              ctx := { predictor := pr.predictor, e := pr.e, d := pr.d, w := p.w, hr := rows, row := 0
                       a := (2 ^ pr.d - 1 + 32) / 64, n := 1, prev := none, cur := [], bits := 0, form := .coding } }))) ∧
          (∀ x n g, j.source = .request x n g → s.laneTake l = State.movePending l { began (.decoding j .recordRead) with
            arb := s.opPlaced ⟨.lane l, recordBurst p.header index, .read (recordMask index 1) true⟩ })) ∧
    (s.disp.queues.get l = [] → s.laneTake l = s) ∧
    (s.lane l ≠ .idle → s.laneTake l = s) ∧
    ((∀ k ∈ s.disp.allPending, k.lane ≠ l) → s.movePending l = s) ∧
    (8 ≤ (s.disp.queues.get l).length → s.movePending l = s) ∧
    ((s.disp.queues.get l).length < 8 → (∃ k ∈ s.disp.allPending, k.lane = l) →
      ∃ j ∈ s.disp.allPending, j.lane = l ∧ (∀ k ∈ s.disp.allPending, k.lane = l → j.arrival ≤ k.arrival) ∧
        let kept (y : Link) (t : SlotId) := ((s.disp.pendings.get y).get t).filter fun k => k.arrival != j.arrival
        s.movePending l = { s with disp := { s.disp with
          queues := s.disp.queues.set l (s.disp.queues.get l ++ [j])
          pendings := ⟨⟨kept .a .s0, kept .a .s1⟩, ⟨kept .b .s0, kept .b .s1⟩⟩ } })

/-- R39, R56, R58, R72, R85, R87, R88, R89 step 1, R90, R91, R103, R106 (derived; when a payload burst is wanted, and so
an extent taken: log 10; when the end of an encoding is tested: log 43): after each burst of an ENCODE job the lane
takes the extent its next payload burst touches; with the pool empty the job fails STORE_FULL, and a slot word with a
parity failure fails it STORE_PARITY: the chain returns to the pool, its entries FREE, each extent with its report of
the risen free count (O30), the page fails unless it no longer can (O43), and the job ends at its slot, with RESUME
where that empties the slot and hold is in force. At the end of an encoding the band record of a FILLING or CODING page
is written STORED; for a page in another state the output chain returns in chain order with its reports, the job ends at
its slot, the work in flight falls and the lane is free. A lane that is free takes its next job at once (O34). -/
def Obligations.EncodedBandIsRecordedOrReturned : Prop :=
  ∀ (l : Lane) (s : State) (j : Job) (r : EncodeRun) (p : Page), s.lane l = .encoding j r → s.page j.page = some p →
    let index := j.band * p.c + j.comp
    let chain := s.map.chainOf r.first
    let ran (q : EncodeRun) : Dispatcher := { s.disp with lanes := s.disp.lanes.set l (.encoding j q) }
    let returned : State :=
      { s with map := s.map.freed chain, adm := (s.risen chain.length).adm, links := (s.risen chain.length).links }
    let ended (u : State) : Prop := ∀ (x : Link) (t : SlotId), j.source = .slot x t →
      u.map = returned.map ∧ u.adm = returned.adm ∧ u.links = returned.resumed x t ∧
      u.disp = { s.disp with lanes := s.disp.lanes.set l .idle } ∧
      u.intakes = s.intakes.set x ((s.intake x).slotEnded t) ∧
      u.dir.pages = pagesWith p.id (fun q => { q with work := q.work - 1 }) s.dir.pages ∧
      u.dir.profiles = s.dir.profiles ∧ u.arb.tableQueue = queueAfterWork p s.arb.tableQueue ∧
      u.arb.tableEnds = s.arb.tableEnds ∧ u.press = s.press ∧ u.ctl = s.ctl ∧ u.adm.rules = s.adm.rules ∧
      (∀ y, (u.link y).rx = (s.link y).rx ∧ (u.link y).long = (s.link y).long) ∧ u.still = s.still
    (r.phase ≠ .recording → r.left = 0 → r.out = [] →
      (p.state = .filling ∨ p.state = .coding → exec (.encodeEnd l) s = .next (State.arbitrate { s with
        disp := ran { r with phase := .recording }
        arb := s.opPlaced ⟨.lane l, recordBurst p.header index, .write (recordData index
          ⟨.stored, r.ctx.result.1, (match l with | .l0 => 0 | .l1 => 1 | .l2 => 2 | .l3 => 3), r.first.getD 0,
            r.ctx.result.2⟩) (recordMask index 1)⟩ })) ∧
      (p.state ≠ .filling → p.state ≠ .coding →
        ∃ u : State, exec (.encodeEnd l) s = .next (u.laneTake l).arbitrate ∧ ended u)) ∧
    (∀ (b : Burst) (ws : List ReadWord),
      (∀ data mask, b.access = .write data mask →
        s.encodeBurst l j r b ws = s.encodeSettle l j { r with out := r.out.drop 256, words := r.words + 8 }) ∧
      (∀ taken checked, b.access = .read taken checked →
        s.encodeBurst l j r b ws = if ws.any ReadWord.bad = true then s.encodeFail l j r .storeParity
          else s.encodeSettle l j (r.feed ws))) ∧
    (∀ q : EncodeRun,
      let wants := 256 ≤ q.out.length ∨ (q.left = 0 ∧ q.out ≠ [])
      (¬ wants ∨ q.words / 16384 < q.taken → s.encodeSettle l j q = { s with disp := ran q }) ∧
      (wants → q.taken ≤ q.words / 16384 →
        (s.map.pool = [] → s.encodeSettle l j q = s.encodeFail l j q .storeFull) ∧
        (∀ e rest, s.map.pool = e :: rest →
          (q.last = none → s.encodeSettle l j q = State.reportFall rest.length { s with
            disp := ran { q with first := some (q.first.getD e), last := some e, taken := q.taken + 1 }
            map := ⟨planePut s.map.table e ⟨.last, p.id, .payload index true⟩, rest⟩ }) ∧
          (∀ a b, q.last = some a → s.map.entry a = some ⟨.last, p.id, .payload index b⟩ →
            s.encodeSettle l j q = State.reportFall rest.length { s with
              disp := ran { q with first := some (q.first.getD e), last := some e, taken := q.taken + 1 }
              map := ⟨planePut (planePut s.map.table a ⟨.next e, p.id, .payload index b⟩) e
                ⟨.last, p.id, .payload index false⟩, rest⟩ })))) ∧
    (∀ cause : FailCause,
      (p.canFail = false → ∃ u : State, s.encodeFail l j r cause = u.laneTake l ∧ ended u) ∧
      (p.canFail = true → cause ≠ .linkReset → ∀ (x : Link) (t : SlotId), j.source = .slot x t →
        ∃ u : State, s.encodeFail l j r cause = u.laneTake l ∧
        u.map = s.map.freed chain ∧ u.lane l = .idle ∧ (∀ m, m ≠ l → u.lane m = s.lane m) ∧
        u.page p.id = some { p with
          state := .failed, cause := some cause, nextPixel := none, printRefs := 0, work := p.work - 1 } ∧
        (∀ k ∈ u.disp.waiting, k.page ≠ p.id) ∧ (∀ y, (u.intake y).page ≠ some p.id) ∧
        (let failed := returned.failPage p.id cause
         u.adm = returned.adm ∧ u.links = failed.resumed x t ∧
         u.intakes = failed.intakes.set x ((failed.intake x).slotEnded t) ∧
         u.disp = { failed.disp with lanes := s.disp.lanes.set l .idle } ∧
         u.dir.pages = pagesWith p.id (fun q => { q with work := q.work - 1 }) failed.dir.pages ∧
         u.arb = failed.arb ∧ u.press = failed.press) ∧
        ((u.link p.origin).holds (.notice (.pageFailed p.id cause)) = true ∨
          (u.link p.origin).noticesDiscarded = 65535 ∨
          (s.link p.origin).noticesDiscarded < (u.link p.origin).noticesDiscarded) ∧
        u.dir.profiles = s.dir.profiles ∧ u.ctl = s.ctl ∧ u.still = s.still))

/-- R31, R37, R56, R58, R85, R89 steps 2 to 4 (derived; at a seal the report of urgency comes before the grant: log 50):
when the STORED record has been written the stored count rises; a CODING page whose count reaches B·C seals, with PAGE
SEALED on its origin link and its copy stream at the tail of the target's list; the job ends at its slot, with RESUME
where that empties the slot and hold is in force, the work in flight falls and the lane is free, and takes its next job
in the same event (O34). -/
def Obligations.StoredRecordRaisesTheCountAndSeals : Prop :=
  ∀ (l : Lane) (s : State) (j : Job) (r : EncodeRun) (p : Page) (e : TableEnd) (x : Link) (t : SlotId),
    s.lane l = .encoding j r → r.phase = .recording → j.source = .slot x t → s.page j.page = some p →
    s.arb.tableEnds.find? (fun e => e.op.client == .lane l) = some e →
    let seals := p.state = .coding ∧ p.stored + 1 = p.b * p.c
    ∃ u : State, exec (.bandRecordWriteEnd l) s = .next (u.laneTake l).arbitrate ∧
      u.disp = { s.disp with lanes := s.disp.lanes.set l .idle } ∧
      u.intakes = s.intakes.set x ((s.intake x).slotEnded t) ∧
      u.arb.tableEnds = s.arb.tableEnds.erase e ∧ u.map = s.map ∧ u.adm = s.adm ∧ u.ctl = s.ctl ∧
      u.dir.profiles = s.dir.profiles ∧ u.still = s.still ∧
      (¬ seals →
        u.dir.pages = pagesWith p.id (fun q => { q with stored := q.stored + 1, work := q.work - 1 }) s.dir.pages ∧
        u.arb.tableQueue = queueAfterWork p s.arb.tableQueue ∧ u.press = s.press ∧ u.links = s.resumed x t) ∧
      (((s.intake x).slots.get t).jobs ≤ 1 → (s.intake x).hold = true → (u.link x).told (s.link x) .resume) ∧
      (seals →
        u.page p.id = some { p with
          state := .sealed, stored := p.stored + 1, work := p.work - 1
          streamRefs := if p.copyTarget.isSome = true then p.streamRefs + 1 else p.streamRefs } ∧
        ((s.link p.origin).hasPlace = true → (u.link p.origin).holds (.notice (.pageSealed p.id)) = true) ∧
        (∀ y, (u.link y).streams = (s.link y).streams ++ (if p.copyTarget = some y then
          [{ serial := s.nextTicket, kind := .copy, page := p.id, c := p.c, index := 0, total := p.b * p.c,
             record := none, next := 0, ext := none, marked := 0, mismatches := 0 }] else [])) ∧
        u.press.schedule.map (fun q => { q with active := false }) =
          s.press.schedule.map (fun q => { q with active := false }))

/-- R85, R92, R160, R163, R165 (derived): the end of a PROOF job's record read. A parity failure is REFUSED DAMAGED
with detail RECORD and row 0, a damage event and no mark; a PENDING record is REFUSED NOT_CODED; else decoding begins,
and waits for the first payload words. A chain that does not open, or a record of no words, fails with cause STREAM at
row 0: the mark of a record read STORED, the damage event, REFUSED DAMAGED. A job that has ended leaves the lane free,
and it takes its next job in the same event (O34). -/
def Obligations.ProofRecordDecidesTheJob : Prop :=
  ∀ (l : Lane) (s : State) (j : Job) (p : Page) (e : TableEnd) (x : Link) (k : Nat) (g : Byte),
    s.lane l = .decoding j .recordRead → j.source = .request x k g → s.page j.page = some p →
    s.arb.tableEnds.find? (fun e => e.op.client == .lane l) = some e →
    let index := j.band * p.c + j.comp
    let record := BandRecord.ofWords (recordWords index e.words).1.word (recordWords index e.words).2.word
    let bad := (recordWords index e.words).1.bad || (recordWords index e.words).2.bad
    let ended (f : Page → Page) (r : ReplyResult) : State := { s with
      links := longReplied x k r s.links
      disp := { s.disp with lanes := s.disp.lanes.set l .idle }
      dir := { s.dir with
        pages := pagesWith p.id (fun q => { f q with work := q.work - 1 }) s.dir.pages
        releases := if p.state = .retiring ∧ p.work ≤ 1 then
            s.dir.releases.map fun q => if q.page = p.id then { q with running := true } else q
          else s.dir.releases }
      arb := { s.arb with
        tableEnds := s.arb.tableEnds.erase e
        tableQueue := queueAfterWork p s.arb.tableQueue } }
    (bad = true → exec (.proofRecordReadEnd l) s = .next (State.arbitrate (State.laneTake l (ended
      (fun q => { q with damaged := true, damageEvents := min 255 (q.damageEvents + 1) }) (.damaged .record 0))))) ∧
    (bad = false → record.state = .pending →
      exec (.proofRecordReadEnd l) s = .next (State.arbitrate (State.laneTake l (ended id (.refused .notCoded))))) ∧
    (bad = false → record.state ≠ .pending → 0 < p.w → 0 < s.rowsOf p j.band → 0 < (s.profileOf p).d →
      0 < record.words → ∀ first, s.map.openChain p.id index record.first = some first →
      exec (.proofRecordReadEnd l) s = .next (State.arbitrate { s with
        disp := { s.disp with
          lanes := s.disp.lanes.set l (.decoding j (.rows record
            ⟨Context.fresh (s.profileOf p) p.w (s.rowsOf p j.band) (if record.mode = .raw then .raw else .coded),
              record.words, 0, some first, []⟩ [])) }
        arb := { s.arb with tableEnds := s.arb.tableEnds.erase e } })) ∧
    (bad = false → record.state ≠ .pending → 0 < p.w → 0 < s.rowsOf p j.band → 0 < (s.profileOf p).d →
      record.words = 0 ∨ s.map.openChain p.id index record.first = none →
      let marked := s.markPlaced p index record false
      exec (.proofRecordReadEnd l) s = .next (State.arbitrate (State.laneTake l {
        ended Page.damagedOnce (.damaged .stream 0) with
        arb := { marked with
          tableEnds := s.arb.tableEnds.erase e
          tableQueue := queueAfterWork p marked.tableQueue } })))

/-- R85, R93, R94, R160, R165, R175, R188 (derived; a lane given one place waits again behind the others for the next
frame of its row: log 26; the division of a row over frames: log 59): the lane that has waited longest for a general
place of a link places the DATA frame it holds; it waits again for the next frame of the row if no place is left or
others wait, decodes on when the row is out, and after the last row answers DONE and is free. A decoding that fails
sends no frame of the row: the mark of a record read STORED, the damage event, REFUSED DAMAGED with the cause and the
failing row, and the lane is free. A lane that is free takes its next job in the same event (O34). A row that is
delivered becomes one DATA frame for every 8,000 samples of it or part of them, in rising first column. -/
def Obligations.ProofRowsArePlacedInTurn : Prop :=
  ∀ (l : Lane) (s : State) (j : Job) (r : BandRecord) (k : Decoder) (x : Link) (n : Nat) (g : Byte),
    j.source = .request x n g →
    let lane (v : LaneState) : Dispatcher := { s.disp with lanes := s.disp.lanes.set l v }
    let released (p : Page) : List Release := if p.state = .retiring ∧ p.work ≤ 1 then
        s.dir.releases.map fun q => if q.page = p.id then { q with running := true } else q
      else s.dir.releases
    (∀ (c : LinkCtl) (f : OutFrame) (rest : List OutFrame),
      LinkCtl.placeRows l [] c = ([], c) ∧
      (c.waiters = [] → c.hasPlace = true → LinkCtl.placeRows l (f :: rest) c = LinkCtl.placeRows l rest (c.place f)) ∧
      (c.waiters ≠ [] ∨ c.hasPlace = false →
        LinkCtl.placeRows l (f :: rest) c = (f :: rest, { c with waiters := c.waiters ++ [.lane l] }))) ∧
    (∀ f rest, s.lane l = .decoding j (.rows r k (f :: rest)) → (s.link x).hasPlace = true →
      (s.link x).waiters.head? = some (.lane l) →
      let placed := LinkCtl.place f { s.link x with waiters := (s.link x).waiters.tail }
      (∀ left c, LinkCtl.placeRows l rest placed = (left, c) →
        (left ≠ [] → exec (.proofRowPlace l) s = .next (State.arbitrate { s with
          links := s.links.set x c, disp := lane (.decoding j (.rows r k left)) })) ∧
        (left = [] → exec (.proofRowPlace l) s =
          .next (State.arbitrate (State.proofRun l j r k { s with links := s.links.set x c })))) ∧
      (∀ h more, rest = h :: more → placed.waiters ≠ [] ∨ placed.hasPlace = false →
        exec (.proofRowPlace l) s = .next (State.arbitrate { s with
          links := s.links.set x { placed with waiters := placed.waiters ++ [.lane l] }
          disp := lane (.decoding j (.rows r k rest)) })) ∧
      (rest = [] → k.ctx.row < k.ctx.hr → ∀ k2, k.runRow = (k2, .needWords) →
        exec (.proofRowPlace l) s = .next (State.arbitrate { s with
          links := s.links.set x placed
          disp := lane (.decoding j (.rows r k2 [])) })) ∧
      (rest = [] → k.ctx.row < k.ctx.hr → ∀ k2 cause, k.runRow = (k2, .failed cause) →
        exec (.proofRowPlace l) s =
          .next (State.arbitrate (State.proofRun l j r k { s with links := s.links.set x placed }))) ∧
      (rest = [] → k.ctx.hr ≤ k.ctx.row → ∀ p, s.page j.page = some p →
        exec (.proofRowPlace l) s = .next (State.arbitrate (State.laneTake l { s with
          links := longReplied x n (.done (.proofDone j.page j.band j.comp r.mode r.words k.ctx.hr)) (s.links.set x placed)
          disp := lane .idle
          dir := { s.dir with
            pages := pagesWith p.id (fun q => { q with work := q.work - 1 }) s.dir.pages
            releases := released p }
          arb := { s.arb with tableQueue := queueAfterWork p s.arb.tableQueue } })))) ∧
    (∀ p, k.ctx.hr ≤ k.ctx.row → s.page j.page = some p → s.proofRun l j r k = State.laneTake l { s with
      links := longReplied x n (.done (.proofDone j.page j.band j.comp r.mode r.words k.ctx.hr)) s.links
      disp := lane .idle
      dir := { s.dir with
        pages := pagesWith p.id (fun q => { q with work := q.work - 1 }) s.dir.pages
        releases := released p }
      arb := { s.arb with tableQueue := queueAfterWork p s.arb.tableQueue } }) ∧
    (∀ k2 p, k.ctx.row < k.ctx.hr → s.page j.page = some p →
      (k.runRow = (k2, .needWords) → s.proofRun l j r k = { s with disp := lane (.decoding j (.rows r k2 [])) }) ∧
      (∀ cause, k.runRow = (k2, .failed cause) →
        let marked := s.markPlaced p (j.band * p.c + j.comp) r false
        s.proofRun l j r k = State.laneTake l { s with
          links := longReplied x n (.damaged cause k2.ctx.row) s.links
          disp := lane .idle
          dir := { s.dir with
            pages := pagesWith p.id (fun q => { q.damagedOnce with work := q.work - 1 }) s.dir.pages
            releases := released p }
          arb := { marked with tableQueue := queueAfterWork p marked.tableQueue } }) ∧
      (∀ ys, k.runRow = (k2, .rowDone) → k2.lastRow = some ys → ys ≠ [] →
        let frames : List OutFrame := (List.range ((ys.length + 7999) / 8000)).map fun i =>
          .proofRow g j.page j.band j.comp (k2.ctx.row - 1) (8000 * i) p.order ((ys.drop (8000 * i)).take 8000)
        (∀ left c, LinkCtl.placeRows l frames (s.link x) = (left, c) →
          (left = [] → s.proofRun l j r k =
            State.proofAdvance l j r (k.ctx.hr - k.ctx.row) k2 { s with links := s.links.set x c }) ∧
          (left = [] → k2.ctx.row = k.ctx.row + 1 → s.proofRun l j r k =
            State.proofRun l j r k2 { s with links := s.links.set x c }) ∧
          (left ≠ [] → s.proofRun l j r k = { s with
            links := s.links.set x c, disp := lane (.decoding j (.rows r k2 left)) })) ∧
        (ys.length ≤ 8000 →
          frames = [.proofRow g j.page j.band j.comp (k2.ctx.row - 1) 0 p.order ys])))

/-! ## The intake and page failure (R38, R46 to R63) -/

/-- R48, R49, R50 (derived; the grant decision after the command: log 4): a PIXELS frame waits behind one being written;
else it is checked in order, stops at the first refusal, and a refused one changes nothing but its link, before the
next grant decision. The check of a frame that has waited is the same. -/
def Obligations.PixelsWaitOrAreRefusedInOrder : Prop :=
  (∀ (x : Link) (s : State) (f : Frame), s.offers x 2 f = true → 8 ≤ f.body.length →
    let k := s.intake x
    ((k.frame ≠ none ∨ k.waiting ≠ []) → exec (.pixels x) s = .next (State.arbitrate { s with
      links := s.links.set x (s.link x).took
      intakes := s.intakes.set x { k with waiting := k.waiting ++ [⟨f.tag, f.body⟩] } })) ∧
    (k.frame = none → k.waiting = [] → exec (.pixels x) s =
      .next (State.arbitrate (State.checkPixels x f.tag f.body { s with links := s.links.set x (s.link x).took })))) ∧
  ∀ (x : Link) (u : State) (tag : Byte) (body : List Byte) (r : Refuse),
    let k := u.intake x
    let offset := field 2 4 body
    let count := field 6 2 body
    (match u.page (field 0 2 body) with
        | none => some Refuse.noPage
        | some p =>
          let hb := (u.profileOf p).hb
          let band := offset / p.w / hb
          let last := (offset + count - 1) / p.w / hb
          let fill := k.slots.get k.fill
          if p.state ≠ .filling ∨ k.page ≠ some p.id then some .pageState
          else if count = 0 then none
          else if p.nextPixel ≠ some offset then some .outOfOrder
          else if p.w * p.ht < offset + count ∨ (body.drop 8).length ≠ 2 * p.c * count ∨ band + 1 < last then
            some .badRequest
          else if (fill.state = .empty ∨ (fill.state = .filling ∧ fill.page = some p.id ∧ fill.band = some band)) ∧
              (band < last → (k.slots.get k.fill.other).state = .empty) then none
          else some .held) = some r →
    u.checkPixels x tag body = { u with links := u.links.set x ((u.link x).place (.reply 2 tag (.refused r))) } ∧
    ∀ (s : State) (f : Frame), s.offers x 2 f = true → 8 ≤ f.body.length → (s.intake x).frame = none →
      (s.intake x).waiting = [] → f.tag = tag → f.body = body → u = { s with links := s.links.set x (s.link x).took } →
      exec (.pixels x) s = .next (s.answeredAt x f (.refused r)).arbitrate

/-- R49 step 7, R51, R52 (derived): a PIXELS frame that passes is taken: its reply place is given up, its containers
are clamped to MAXVAL and counted, and its writes wait at the store. A count of 0 fails the page INTAKE_ABORTED. The
check of a frame that has waited is the same. -/
def Obligations.PixelsAreTakenAndWritten : Prop :=
  ∀ (x : Link) (u : State) (tag : Byte) (body : List Byte) (p : Page), u.page (field 0 2 body) = some p →
    p.state = .filling → (u.intake x).page = some p.id →
    let k := u.intake x
    let offset := field 2 4 body
    let count := field 6 2 body
    let pr := u.profileOf p
    let band := offset / p.w / pr.hb
    let last := (offset + count - 1) / p.w / pr.hb
    let values := containers p.order (body.drop 8)
    let freed : State := { u with links := u.links.set x { u.link x with replyUse := (u.link x).replyUse - 1 } }
    let becomes (t : State) : Prop := u.checkPixels x tag body = t ∧
      ∀ (s : State) (f : Frame), s.offers x 2 f = true → 8 ≤ f.body.length → (s.intake x).frame = none →
        (s.intake x).waiting = [] → f.tag = tag → f.body = body → u = { s with links := s.links.set x (s.link x).took } →
        exec (.pixels x) s = .next t.arbitrate
    (count = 0 → becomes (freed.failPage p.id .intakeAborted)) ∧
    (0 < count → p.nextPixel = some offset → offset + count ≤ p.w * p.ht →
      (body.drop 8).length = 2 * p.c * count → last ≤ band + 1 →
      (k.slots.get k.fill).state = .empty ∨
        ((k.slots.get k.fill).state = .filling ∧ (k.slots.get k.fill).page = some p.id ∧
          (k.slots.get k.fill).band = some band) →
      (band < last → (k.slots.get k.fill.other).state = .empty) →
      becomes { freed with
        intakes := u.intakes.set x { k with
          frame := some {
            page := p.id, offset := offset, count := count, void := false
            clamped := (values.filter fun v => decide (2 ^ pr.d - 1 < v)).length
            writes := frameWrites x k.fill p.c (offset - band * pr.hb * p.w)
              (min count ((band * pr.hb + min pr.hb (p.ht - band * pr.hb)) * p.w - offset))
              (values.map (min (2 ^ pr.d - 1))) count } } })

/-- R51 (derived): the writes of a frame put every sample into its plane, two samples to a word, the earlier in the
upper half, and write nothing else. -/
def Obligations.FrameWritesPlaceEverySample : Prop :=
  ∀ (x : Link) (fill : SlotId) (c a n count : Nat) (vals : List Nat), n ≤ count → (∀ v ∈ vals, v < 65536) →
    let base (t : SlotId) (j : Nat) : Nat :=
      16384 * ((match x with | .a => 0 | .b => 128) + (match t with | .s0 => 0 | .s1 => 64) + 16 * j)
    let slot (k : Nat) : SlotId := if k < n then fill else fill.other
    let at_ (k : Nat) : Nat := if k < n then a + k else k - n
    (∀ j k, j < c → k < count → ∃ w ∈ frameWrites x fill c a n vals count,
      ∃ i < 16, 2 * w.addr + i = 2 * base (slot k) j + at_ k ∧
        w.mask.getLsbD (4 * (i / 2) + (if i % 2 = 0 then 2 else 0)) = true ∧
        w.mask.getLsbD (4 * (i / 2) + (if i % 2 = 0 then 3 else 1)) = true ∧
        ((w.data.getD (i / 2) 0).toNat / (if i % 2 = 0 then 65536 else 1)) % 65536 = vals.getD (k * c + j) 0) ∧
    (∀ w ∈ frameWrites x fill c a n vals count, ∀ b < 32, w.mask.getLsbD b = true →
      ∃ j k, j < c ∧ k < count ∧
        2 * w.addr + 2 * (b / 4) + (if b % 4 < 2 then 1 else 0) = 2 * base (slot k) j + at_ k)

/-- R48, R52 to R55, R57, R80, R82, R85, R134 (derived; all the jobs of a band with one table: log 42; bursts that come
in one command all stand before its grant: log 44; the last write may still be in progress when the frame's writing
ends: log 39; the state of the other slot is that just before these effects: log 41): when a frame's writes have been
handed over it takes effect: the next pixel advances, the clamped count rises and is flagged, and the fill slot holds
the whole rows taken; a band that is complete waits with a job for each component, the other slot is filled next, and
HOLD is raised where that slot is not free; a frame may reach into the next band or complete it too; the last pixel of a
page makes it CODING. A void frame has no effect. The jobs are those of O34, band by band and component by component,
each destined for the lane that the table gives its hash. The PIXELS frames that wait are then checked in order, as O39
and O40 check a frame, until one is taken. (A band is completed in states where no job waits for an idle lane, as R85
has it.) -/
def Obligations.WrittenFramesTakeEffect : Prop :=
  (∀ (x : Link) (t : State) (n : Nat),
    ((t.intake x).frame ≠ none ∨ (t.intake x).waiting = [] → t.checkWaiting x n = t) ∧
    (∀ w rest, (t.intake x).frame = none → (t.intake x).waiting = w :: rest →
      t.checkWaiting x (n + 1) = State.checkWaiting x n (State.checkPixels x w.tag w.body { t with
        intakes := t.intakes.set x { t.intake x with waiting := rest } }))) ∧
  ∀ (x : Link) (s : State) (f : FrameWriting), (s.intake x).frame = some f →
    f.writes = [] ∨ (f.writes.length = 1 ∧ ∃ b, s.ctl.burst = some b ∧ b.req = .intake x ∧ b.live = true) →
    let k := s.intake x
    let ctl : StoreCtl := if f.writes = [] then s.ctl
      else { s.ctl with burst := s.ctl.burst.map fun b => { b with live := false } }
    let leaves (t : State) : Prop :=
      exec (.pixelsWriteEnd x) s = .next (State.arbitrate (t.checkWaiting x k.waiting.length))
    (f.void = true ∨ s.page f.page = none ∨ (∃ p, s.page f.page = some p ∧ (p.state ≠ .filling ∨ k.page ≠ some p.id)) →
      leaves { s with ctl := ctl, intakes := s.intakes.set x { k with frame := none } }) ∧
    (∀ p, f.void = false → s.page f.page = some p → p.state = .filling → k.page = some p.id →
      let hb := (s.profileOf p).hb
      let band := f.offset / p.w / hb
      let rows := min hb (p.ht - band * hb)
      let rows2 := min hb (p.ht - (band + 1) * hb)
      let next := f.offset + f.count
      let stop := (band * hb + rows) * p.w
      let stop2 := ((band + 1) * hb + rows2) * p.w
      let clamped := min 65535 (p.clamped + f.clamped)
      let flagged := if 0 < f.clamped then
          s.links.set x { s.link x with flags := { (s.link x).flags with clamped := true } }
        else s.links
      let held := decide ((k.slots.get k.fill.other).state ≠ .empty)
      let held2 := held || decide ((k.slots.get k.fill).state ≠ .empty)
      let first : Slots Slot := k.slots.set k.fill ⟨.waiting, some p.id, some band, rows, p.c⟩
      let slotOf (i : Nat) : SlotId := if i = 0 then k.fill else k.fill.other
      let issued (bands : Nat) : State := (List.range bands).foldl
        (fun u i => (List.range p.c).foldl (State.dispatchEncode p (band + i) x (slotOf i)) u) s
      let completes (bands : Nat) (fill : SlotId) (slots : Slots Slot) (raised : Bool) : Prop :=
        ∃ (t : State) (work : Nat), leaves t ∧
          t.page p.id = some { p with
            nextPixel := if next = p.w * p.ht then none else some next
            state := if next = p.w * p.ht then .coding else .filling
            clamped := clamped, work := work } ∧ p.work ≤ work ∧ work ≤ p.work + bands * p.c ∧
          t.disp = (issued bands).disp ∧ (∀ q, (issued bands).page p.id = some q → work = q.work) ∧
          (t.intake x).page = (if next = p.w * p.ht then none else some p.id) ∧ (t.intake x).frame = none ∧
          (t.intake x).waiting = k.waiting ∧ (t.intake x).fill = fill ∧ (t.intake x).slots = slots ∧
          (t.intake x).hold = (k.hold || raised) ∧ t.intake (otherLink x) = s.intake (otherLink x) ∧
          (∀ i j, i < bands → j < p.c → ∃ b : Job, t.disp.holds b = true ∧ b.page = p.id ∧ b.band = band + i ∧
            b.comp = j ∧ b.cls = p.cls ∧ b.source = .slot x (slotOf i) ∧ b.lane = s.disp.table.toList.getD
              ((5 * p.id + 3 * (band + i) + j) % 32 % 2 ^ s.disp.tableBits) .l0) ∧
          (∀ b : Job, s.disp.holds b = true → t.disp.holds b = true) ∧
          t.links = (if k.hold = false ∧ raised = true then flagged.set x ((flagged.get x).placeNotice .hold)
            else flagged) ∧
          t.map = s.map ∧ t.adm = s.adm ∧ t.arb = s.arb ∧ t.press = s.press ∧ t.ctl = ctl ∧
          t.dir.profiles = s.dir.profiles ∧ t.still = s.still
      (next < stop → leaves { s with
        ctl := ctl
        dir := { s.dir with
          pages := pagesWith p.id (fun q => { q with nextPixel := some next, clamped := min 65535 (q.clamped + f.clamped) })
            s.dir.pages }
        links := flagged
        intakes := s.intakes.set x { k with
          frame := none
          slots := k.slots.set k.fill ⟨.filling, some p.id, some band, next / p.w - band * hb, 0⟩ } }) ∧
      (s.lanesTaken = true →
        (next = stop → completes 1 k.fill.other first held) ∧
        (stop < next → next < stop2 → completes 1 k.fill.other
          (first.set k.fill.other ⟨.filling, some p.id, some (band + 1), next / p.w - (band + 1) * hb, 0⟩) held) ∧
        (stop < next → next = stop2 → completes 2 k.fill
          (first.set k.fill.other ⟨.waiting, some p.id, some (band + 1), rows2, p.c⟩) held2)))

/-- R38, R39, R47, R60, R95, R142 (derived): page failure. A page that can no longer fail is left as it is. Else it is
FAILED with its cause, is no link's intake page, has no job waiting and no print entry; PAGE FAILED goes to its origin
link or is counted discarded; the lanes, the extent map and the store go on as they were. Each ENCODE job removed ends
at its slot, with RESUME where hold ceases; each PROOF job removed is answered PAGE_STATE; and one PRINT DROPPED for
each print entry removed goes to its requesting link, or is counted discarded. -/
def Obligations.PageFailureEndsThePage : Prop :=
  ∀ (s : State) (id : Nat) (cause : FailCause) (p : Page), s.page id = some p →
    (p.state ≠ .opening → p.state ≠ .filling → p.state ≠ .coding → s.failPage id cause = s) ∧
    (p.state = .opening ∨ p.state = .filling ∨ p.state = .coding →
      let t := s.failPage id cause
      t.page id = some { p with state := .failed, cause := some cause, nextPixel := none, printRefs := 0 } ∧
      (∀ other, other ≠ id → t.page other = s.page other) ∧ (∀ j ∈ t.disp.waiting, j.page ≠ id) ∧
      (∀ l, t.lane l = s.lane l) ∧ (∀ e ∈ t.press.schedule, e.page ≠ id) ∧
      (∀ y, (t.intake y).page = if (s.intake y).page = some id then none else (s.intake y).page) ∧
      ((t.link p.origin).holds (.notice (.pageFailed id cause)) = true ∨
        (t.link p.origin).noticesDiscarded = 65535 ∨
        (s.link p.origin).noticesDiscarded < (t.link p.origin).noticesDiscarded) ∧
      (let gone := s.disp.waiting.filter fun j => j.page == id
       (∀ y, t.intake y = ((s.intake y).ceased id).jobsEnded y gone) ∧
       (∀ y, (s.intake y).hold = true → (t.intake y).hold = false → (t.link y).told (s.link y) .resume) ∧
       (∀ j ∈ gone, ∀ y k g, j.source = .request y k g → ∀ q,
         (s.link y).long.find? (fun q => q.ticket == k) = some q →
         (t.link y).holds (.reply q.kind q.tag (.refused .pageState)) = true ∧ ∀ r ∈ (t.link y).long, r.ticket ≠ k)) ∧
      (∀ e ∈ s.press.schedule, e.page = id → (t.link e.link).told (s.link e.link) (.printDropped id)) ∧
      (∀ y, (t.link y).noticesDiscarded = (s.link y).noticesDiscarded → (s.link y).noticesDiscarded < 65535 →
        (t.link y).placed (.notice (.printDropped id)) = (s.link y).placed (.notice (.printDropped id)) +
          (s.press.schedule.filter fun e => e.page == id && e.link == y).length) ∧
      t.map = s.map ∧ t.adm = s.adm ∧ t.ctl = s.ctl ∧ t.dir.profiles = s.dir.profiles ∧ t.still = s.still)

/-! ## The press feed (R138 to R157) -/

/-- R149, R150 (derived): outside SHEET the press state is the one the tests give; press urgent is reported by the
urgent level the head sheet latched, or the one in force. Nothing else changes. -/
def Obligations.PressStateFollowsTheTests : Prop :=
  ∀ s : State,
    let latched (e : PrintEntry) := s.press.latches.find? fun l => l.sheet == ⟨e.serial, e.copies⟩
    let u := match s.press.schedule.head? with
      | none => s.press.settings.u
      | some e => match latched e with
        | none => s.press.settings.u
        | some l => l.settings.u
    let tested (st : PressState) : State := { s with
      press := { s.press with state := st }
      arb := { s.arb with pressUrgent := decide (st ≠ .idle ∧ s.press.fifo.length < u) } }
    (s.press.state = .sheet → s.testPress = tested .sheet) ∧
    (s.press.state ≠ .sheet → s.press.schedule = [] → s.testPress = tested .idle) ∧
    (∀ e p, s.press.state ≠ .sheet → s.press.schedule.head? = some e → s.page e.page = some p →
      (p.state ≠ .sealed → s.testPress = tested .idle) ∧
      (p.state = .sealed → latched e = none → s.testPress = tested .preroll) ∧
      (∀ l, p.state = .sealed → latched e = some l →
        let T := min l.settings.p (min p.ht (65536 / ((p.w * p.c + 1) / 2)))
        let held := (s.press.fifo.filter fun q => q.sheet == ⟨e.serial, e.copies⟩).length
        s.testPress = tested (if held < T then .preroll else .ready)))

/-- R146, R147, R148, R141, R145, R155 (derived; a restart drops the print ref kept for owed rows: log 20; no damage
event for a record read whose end step will not come: log 61): how the press decoder enters an entry, begins a band,
begins a row, moves on from a finished sheet, of which no rows are owed any more, and halts for a restart, which leaves
both links as they stand. -/
def Obligations.PressDecoderMovesThroughTheSchedule : Prop :=
  (∀ s : State, s.pressEnter none = { s with
    press := { s.press with decState := .stopped, pos := none, comps := [], row := none } }) ∧
  (∀ (s : State) (e : PrintEntry) (p : Page), s.page e.page = some p →
    let at_ (d : DecState) : PressFeed := { s.press with
      pos := some ⟨⟨e.serial, e.copies⟩, e.page, e.link, 0, 0⟩, comps := [], row := none, decState := d }
    (p.state ≠ .sealed → s.pressEnter (some e) = { s with press := at_ .waitSeal }) ∧
    (p.state = .sealed → s.pressEnter (some e) = { s with
      press := { at_ .decoding with
        schedule := s.press.schedule.map fun q => if q.serial = e.serial then { q with active := true } else q }
      arb := s.opPlaced ⟨.press, recordBurst p.header 0, .read (recordMask 0 (min p.c 4)) true⟩ })) ∧
  (∀ (s : State) (d : DecPos) (p : Page), s.press.pos = some d → s.page d.page = some p →
    let first := d.band * p.c
    let room := 65536 - (s.press.fifo.map fun l => l.words.length).sum
    let waiting : State := { s with press := { s.press with row := none, decState := .waitRoom } }
    s.pressBand = { s with
      press := { s.press with comps := [], row := none, decState := .decoding }
      arb := s.opPlaced ⟨.press, recordBurst p.header first,
        .read (recordMask first (min p.c (4 - first % 4))) true⟩ } ∧
    (room < (p.w * p.c + 1) / 2 → s.pressRowBegin = waiting ∧ s.pressRow = waiting) ∧
    ((p.w * p.c + 1) / 2 ≤ room →
      let latches := if d.band = 0 ∧ d.row = 0 then
          s.press.latches.filter (fun l => l.sheet != d.sheet) ++ [⟨d.sheet, s.press.settings⟩]
        else s.press.latches
      let begun : State := { s with press := { s.press with
        row := some [], decState := .decoding, latches := latches } }
      s.pressRowBegin = begun ∧ s.pressRow = State.pressAdvance p.c begun ∧
      (∀ r k dec, 0 < p.c → s.press.comps[0]? = some (.decoding r k) → k.runRow = (dec, .needWords) →
        s.pressRow = { s with press := { s.press with
          row := some [], decState := .decoding, latches := latches
          comps := s.press.comps.set 0 (.decoding r dec) } }) ∧
      (∀ rows, s.press.comps = rows.map PressComp.held → rows.length = p.c → s.pressRow = { s with
        press := { s.press with row := some rows, decState := .decoding, latches := latches } })) ∧
    let settled : State := match s.press.owedRef with
      | none => s
      | some id => { s with
        press := { s.press with owedRef := none }
        dir := { s.dir with pages := pagesWith id (fun q => { q with printRefs := q.printRefs - 1 }) s.dir.pages } }
    s.pressMoveOn d =
      if 1 < d.sheet.copy then
        State.pressBand { settled with press := { settled.press with
          pos := some { d with sheet := ⟨d.sheet.serial, d.sheet.copy - 1⟩, band := 0, row := 0 } } }
      else settled.pressEnter (s.press.schedule.find? fun e => decide (d.sheet.serial < e.serial))) ∧
  (∀ s : State, s.pressHalt = { s with
    press := { s.press with row := none, comps := [], skip := 0, owedRef := none }
    dir := { s.dir with pages := match s.press.owedRef with
      | none => s.dir.pages
      | some id => pagesWith id (fun q => { q with printRefs := q.printRefs - 1 }) s.dir.pages }
    arb := { s.arb with
      tableQueue := s.arb.tableQueue.filter fun op => op.client != .press
      deferred := s.arb.deferred.filter fun op => op.client != .press
      tableEnds := s.arb.tableEnds.filter fun e => e.op.client != .press }
    ctl := { s.ctl with burst := s.ctl.burst.map fun b =>
      if b.client = some .press ∨ b.req = .press then { b with live := false } else b } })

/-- R140, R132 (derived; the report of urgency comes before the grant: log 50): PRINT is refused for no page, a FAILED
or RETIRING page and a full schedule, in that order; else an entry is appended at the tail, the page's print refs rises
by 1, a STOPPED decoder moves to the entry, and the press state is tested. -/
def Obligations.PrintAppendsAnEntry : Prop :=
  ∀ (x : Link) (s : State) (f : Frame), s.offers x 4 f = true → f.body.length = 3 →
    let id := field 0 2 f.body
    let copies := if field 2 1 f.body = 0 then 1 else field 2 1 f.body
    (s.page id = none → exec (.print x) s = .next (s.answeredAt x f (.refused .noPage))) ∧
    (∀ p, s.page id = some p →
      (p.state = .failed ∨ p.state = .retiring →
        exec (.print x) s = .next (s.answeredAt x f (.refused .pageState))) ∧
      (p.state ≠ .failed → p.state ≠ .retiring → 16 ≤ s.press.schedule.length →
        exec (.print x) s = .next (s.answeredAt x f (.refused .scheduleFull))) ∧
      (p.state ≠ .failed → p.state ≠ .retiring → s.press.schedule.length < 16 →
        let e : PrintEntry := ⟨s.press.nextSerial, id, copies, x, false⟩
        let appended : State := { s with
          press := { s.press with schedule := s.press.schedule ++ [e], nextSerial := s.press.nextSerial + 1 }
          dir := { s.dir with pages := pagesWith id (fun q => { q with printRefs := q.printRefs + 1 }) s.dir.pages } }
        let moved := if s.press.decState = .stopped then appended.pressEnter (some e) else appended
        exec (.print x) s = .next (State.arbitrate { moved.testPress with
          links := s.links.set x ((s.link x).answered f (.done (.printed id copies))) })))

/-- R141, R132 (derived; the rows owed at a cut-back: log 20; the report of urgency comes before the grant: log 50):
CANCEL PRINT removes the earliest entry of the page that is not the head entry of a sheet printing. A WAITING entry
leaves the FIFO as it is, and a decoder that waits on it moves on; an ACTIVE one has the FIFO cut back and the decoder
restarted at the entry that followed. -/
def Obligations.CancelPrintRemovesTheEarliestEntry : Prop :=
  ∀ (x : Link) (s : State) (f : Frame), s.offers x 5 f = true → f.body.length = 2 →
    let id := field 0 2 f.body
    let kept := if s.press.state = .sheet then s.press.schedule.tail else s.press.schedule
    ((∀ q ∈ s.press.schedule, q.page ≠ id) →
      exec (.cancelPrint x) s = .next (s.answeredAt x f (.refused .noPage))) ∧
    ((∃ q ∈ s.press.schedule, q.page = id) → (∀ q ∈ kept, q.page ≠ id) →
      exec (.cancelPrint x) s = .next (s.answeredAt x f (.refused .printing))) ∧
    (∀ e, kept.find? (fun q => q.page == id) = some e →
      let schedule := s.press.schedule.filter fun q => q.serial != e.serial
      let follower := schedule.find? fun q => decide (e.serial < q.serial)
      let removed : State := { s with
        press := { s.press with schedule := schedule }
        dir := { s.dir with pages := pagesWith id (fun q => { q with printRefs := q.printRefs - 1 }) s.dir.pages } }
      let answers (t : State) : Prop := exec (.cancelPrint x) s =
        .next (State.arbitrate { t.testPress with links := t.links.set x ((t.link x).answered f (.done .none)) })
      (e.active = false → s.press.decState ≠ .waitSeal → answers removed) ∧
      (∀ d, e.active = false → s.press.decState = .waitSeal → s.press.pos = some d →
        (d.sheet.serial = e.serial → answers (removed.pressEnter follower)) ∧
        ((∃ q ∈ schedule, q.serial = d.sheet.serial) → answers removed)) ∧
      (e.active = true →
        let halted := removed.pressHalt
        answers (State.pressEnter follower { halted with press := { halted.press with
          schedule := schedule.map fun q => if e.serial ≤ q.serial then { q with active := false } else q
          latches := s.press.latches.filter fun l => decide (l.sheet.serial < e.serial)
          fifo := s.press.fifo.filter fun l => decide (l.sheet.serial < e.serial) } })))

/-- R3, R23, R147, R148, R160, R162, R163, R169 (derived; a component whose chain did not open fails where row 0 comes
to it: log 53): the records of a burst the press decoder has read join the band in order; a failed or PENDING record
holds zeros, with a damage event and a notice to the entry's link. Then the second burst is read, or the band's first
row begins. A row decodes component by component: one that delivers its row goes on with its decoding, or is complete
with its last row; one that fails holds its last delivered row, or zeros, with the mark and the notice of a record read
STORED, and the damage event; one that holds repeats its row. The words of a payload burst go to the component the row
stands at, and the decoding goes on over the rows of the band. -/
def Obligations.PressRecordsJoinTheBand : Prop :=
  ∀ (s : State) (d : DecPos) (p : Page), s.press.pos = some d → s.page d.page = some p →
    (∀ (ws : List ReadWord) (comp : Nat),
      let index := d.band * p.c + comp
      let record := BandRecord.ofWords (recordWords index ws).1.word (recordWords index ws).2.word
      let bad := (recordWords index ws).1.bad || (recordWords index ws).2.bad
      let ctx := Context.fresh (s.profileOf p) p.w (s.rowsOf p d.band) (if record.mode = .raw then .raw else .coded)
      (bad = false → record.state ≠ .pending → s.pressTakeRecord d p ws comp = { s with press := { s.press with
        comps := s.press.comps ++
          [.decoding record ⟨ctx, record.words, 0, s.map.openChain p.id index record.first, []⟩] } }) ∧
      (bad = true ∨ record.state = .pending → s.pressTakeRecord d p ws comp = { s with
        press := { s.press with comps := s.press.comps ++ [.held (List.replicate p.w 0)] }
        dir := { s.dir with pages := pagesWith d.page Page.damagedOnce s.dir.pages }
        links := s.links.set d.link
          ((s.link d.link).placeNotice (.bandDamaged d.page d.band comp d.sheet.copy .record 0)) })) ∧
    (∀ e, s.arb.tableEnds.find? (fun e => e.op.client == .press) = some e →
      let k := s.press.comps.length
      let n := min (p.c - k) (4 - (d.band * p.c + k) % 4)
      let next := d.band * p.c + k + n
      let t : State := (List.range' k n).foldl (State.pressTakeRecord d p e.words) { s with
        arb := { s.arb with tableEnds := s.arb.tableEnds.erase e } }
      let taken : State := if k + n < p.c then { t with arb := t.opPlaced ⟨.press, recordBurst p.header next,
          .read (recordMask next (min (p.c - k - n) (4 - next % 4))) true⟩ }
        else t.pressRow
      exec .pressRecordReadEnd s = .next taken.arbitrate ∧ s.pressTakeEnd = taken) ∧
    (∀ rows n, s.press.row = some rows →
      let went (c : PressComp) (row : List Nat) : PressFeed := { s.press with
        comps := s.press.comps.set rows.length c, row := some (rows ++ [row]) }
      (∀ h, s.press.comps[rows.length]? = some (.held h) →
        s.pressAdvance (n + 1) = State.pressAdvance n { s with
          press := { s.press with row := some (rows ++ [h]) } }) ∧
      (∀ r k k2, s.press.comps[rows.length]? = some (.decoding r k) →
        (k.runRow = (k2, .needWords) → s.pressAdvance (n + 1) = { s with
          press := { s.press with comps := s.press.comps.set rows.length (.decoding r k2) } }) ∧
        (k.runRow = (k2, .rowDone) → s.pressAdvance (n + 1) = State.pressAdvance n { s with
          press := went (if k2.ctx.hr ≤ k2.ctx.row then .complete else .decoding r k2) (k2.lastRow.getD []) }) ∧
        (∀ cause, k.runRow = (k2, .failed cause) →
          let h := k2.lastRow.getD (List.replicate p.w 0)
          s.pressAdvance (n + 1) = State.pressAdvance n { s with
            press := went (.held h) h
            dir := { s.dir with pages := pagesWith d.page Page.damagedOnce s.dir.pages }
            arb := s.markPlaced p (d.band * p.c + rows.length) r true
            links := if r.state = .stored then s.links.set d.link ((s.link d.link).placeNotice
                (.bandDamaged d.page d.band rows.length d.sheet.copy cause d.row))
              else s.links }) ∧
        (∀ ws : List ReadWord,
          let took := min 8 (k.words - k.fetched)
          s.pressFeed ws = State.pressAdvance p.c { s with press := { s.press with
            comps := s.press.comps.set rows.length (.decoding r { k with
              fetched := k.fetched + took
              buf := k.buf ++ (ws.take took).flatMap fun w =>
                if w.bad = true then List.replicate 32 none else (wordBits w.word).map some
              ext := if (k.fetched + took) % 16384 = 0 ∧ k.fetched + took < k.words then k.ext.bind s.map.follow
                else k.ext }) } })))

/-- R132, R134, R144, R145, R148 (derived). When the C rows of a line are complete the line, in the sheet's latched
component order, enters the FIFO at its tail, for which its row began with room, or is discarded by the skip count; then
comes the next row, the next band or the next sheet, then the tests and the report. Complete lines are finished before
the decision that ends a burst, and while press urgent is yes an ended record read is taken before them, so that the
decoder has its next burst there. Three things here are the model's choice and no rule's: that these steps are made in
the burst's end (log 52), that PRESS_LINE_FINISH leaves the state as it is where no line is due (log 1), and what
happens where the decoder's page is not in the directory (log 35). -/
def Obligations.PressLinesAreFinishedInOrder : Prop :=
  (∀ (s : State) (d : DecPos) (p : Page) (rows : List (List Nat)),
    s.press.row = some rows → s.press.pos = some d → s.page d.page = some p → rows.length = p.c →
    let order := match s.press.latches.find? (fun l => l.sheet == d.sheet) with
      | none => s.press.settings.order
      | some l => l.settings.order
    let samples := match order with
      | .sequential => rows.flatten
      | .interleaved => (List.range p.w).flatMap fun i => rows.map fun r => r.getD i 0
    let line : FifoLine := ⟨d.sheet, d.band * (s.profileOf p).hb + d.row, pairWords samples⟩
    (0 < s.press.skip ∨ (s.press.fifo.map fun l => l.words.length).sum + line.words.length ≤ 65536) →
    let finished (at_ : DecPos) : State := { s with press :=
      if 0 < s.press.skip then { s.press with row := none, skip := s.press.skip - 1, pos := some at_ }
      else { s.press with row := none, fifo := s.press.fifo ++ [line], pos := some at_ } }
    let next : State := State.testPress (
      if d.row + 1 < s.rowsOf p d.band then (finished { d with row := d.row + 1 }).pressRow
      else if d.band + 1 < p.b then (finished { d with band := d.band + 1, row := 0 }).pressBand
      else (finished d).pressMoveOn d)
    exec .pressLineFinish s = .next next.arbitrate ∧
    ∀ n, s.finishDue (n + 1) = next.finishDue n) ∧
  ∀ s : State,
    let due : Prop := ∃ rows d p, s.press.row = some rows ∧ s.press.pos = some d ∧ s.page d.page = some p ∧
      rows.length = p.c
    (¬ due → exec .pressLineFinish s = .next s) ∧
    (∀ n, ¬ due → s.finishDue n = s) ∧
    ((∀ e ∈ s.arb.tableEnds, e.op.client ≠ .press) → s.pressTakeEnd = s) ∧
    let at_ : State := if s.arb.pressUrgent = true then s.pressTakeEnd else s
    (∀ d p, at_.press.pos = some d → at_.page d.page = some p →
      s.pressDue = at_.finishDue (min (at_.profileOf p).hb (p.ht - d.band * (at_.profileOf p).hb))) ∧
    ((∀ d, at_.press.pos = some d → at_.page d.page = none) → s.pressDue = at_)

/-- R152 to R155, R124, R191 (derived; the report of urgency comes before the grant: log 50; lines delivered 0 and no
last line after SHEET DONE: log 21; the entry kept while the Ht-th line is being sent: log 19): SHEET START begins the
head sheet in READY, wakes the resting part, and is answered NOT READY otherwise; LINE REQUEST in SHEET sends the
sheet's next line, or the last line again as an underrun; in the event that takes the Ht-th line the copy is counted,
its entry's last copy removes it with PRINT DONE, the press leaves SHEET, and SHEET DONE follows the line. -/
def Obligations.SheetsStartAndLinesAreSent : Prop :=
  ∀ s : State, s.press.answers = [] →
    let answered (l : List Answer) (t : State) : State :=
      State.arbitrate { t with press := { t.press with answers := t.press.answers ++ l } }
    (s.ctl.state = .resting → exec .sheetStart s = .next { s with ctl := { s.ctl with
      state := .waking, wakeCause := some .sheetStart, wakeFrameHeld := false, refreshTimer := some 78
      startStep := some 1 } }) ∧
    (s.part = .starting ∨ s.part = .waking ∨ (s.part = .ready ∧ s.press.state ≠ .ready) →
      exec .sheetStart s = .next (answered [.notReady] s)) ∧
    (s.part = .starting ∨ s.part = .waking ∨ s.press.state ≠ .sheet →
      exec .lineRequest s = .next (answered [.notReady] s)) ∧
    (∀ e p, s.press.schedule.head? = some e → s.page e.page = some p →
      let sheet : SheetId := ⟨e.serial, e.copies⟩
      let order := match s.press.latches.find? (fun l => l.sheet == sheet) with
        | none => s.press.settings.order
        | some l => l.settings.order
      (s.part = .ready → s.press.state = .ready →
        exec .sheetStart s = .next (answered [.sheetInfo p.id p.w p.ht p.c e.copies order] (State.testPress { s with
          press := { s.press with state := .sheet, delivered := 0, last := none } }))) ∧
      (s.part = .ready → s.press.state = .sheet →
        let sends (words : List Word) (sent : State) : Prop :=
          let began := if s.press.decState = .waitRoom then sent.pressRow else sent
          let ended (schedule : List PrintEntry) (owed : Option Nat) : PressFeed := { began.press with
            state := .idle, delivered := 0, last := none, counted := some e, schedule := schedule, owedRef := owed
            latches := began.press.latches.filter fun l => l.sheet != sheet }
          let gone := began.press.schedule.filter fun q => q.serial != e.serial
          let told := began.links.set e.link ((began.link e.link).placeNotice (.printDone e.page))
          let done (t : State) : Prop :=
            exec .lineRequest s = .next (answered [.line words, .sheetDone p.id e.copies] t.testPress)
          (s.press.delivered + 1 < p.ht → exec .lineRequest s = .next (answered [.line words] began.testPress)) ∧
          (p.ht ≤ s.press.delivered + 1 →
            (1 < e.copies → done { began with press := ended (began.press.schedule.map fun q =>
              if q.serial = e.serial then { q with copies := q.copies - 1 } else q) began.press.owedRef }) ∧
            (e.copies ≤ 1 → began.press.skip = 0 → done { began with
              press := ended gone began.press.owedRef
              dir := { began.dir with
                pages := pagesWith e.page (fun q => { q with printRefs := q.printRefs - 1 }) began.dir.pages }
              links := told }) ∧
            (e.copies ≤ 1 → 0 < began.press.skip → done { began with
              press := ended gone (some e.page), links := told }))
        (∀ l rest, s.press.fifo = l :: rest → l.sheet = sheet → sends l.words { s with press := { s.press with
          fifo := rest, delivered := s.press.delivered + 1, last := some l.words } }) ∧
        ((∀ l ∈ s.press.fifo.head?, l.sheet ≠ sheet) →
          sends (s.press.last.getD (List.replicate ((p.w * p.c + 1) / 2) 0)) { s with
            press := { s.press with delivered := s.press.delivered + 1, skip := s.press.skip + 1
                                    underruns := min 65535 (s.press.underruns + 1) }
            links := ⟨{ s.links.a with flags := { s.links.a.flags with underrun := true } },
              { s.links.b with flags := { s.links.b.flags with underrun := true } }⟩ })))

/-- R151, R155 to R158, R170, R124, R132 (derived; the count taken back when the Ht-th line is cut: log 19; the rows
owed at a restart: log 20; the report of urgency comes before the grant: log 50; a line still on the port when a PRESS
RESET wakes the resting part goes on: log 62): a press signal given while an answer is sent waits for its end; SHEET
ABORT in SHEET and PRESS RESET flush the FIFO and restart the decoder at the head sheet, the settings kept; PRESS RESET
changes no item of a link, cuts a line being sent, and wakes the resting part. Where the line cut is the Ht-th of a
sheet, that sheet is not counted: the copy is taken back, or the entry removed with its last copy is at the head again
with its print ref, if the schedule has a place. -/
def Obligations.PressSignalsWaitAbortAndReset : Prop :=
  ∀ s : State,
    let commandOf (g : PressSignal) : Instr := match g with
      | .sheetStart => .sheetStart
      | .lineRequest => .lineRequest
      | .sheetAbort => .sheetAbort
    let restarted (u : State) : State := State.testPress (State.pressEnter u.press.schedule.head? { u.pressHalt with
      press := { u.pressHalt.press with
        schedule := u.press.schedule.map fun q => { q with active := false }
        latches := [], fifo := [], delivered := 0, last := none, state := .idle } })
    let cut (u : State) : State := State.arbitrate { restarted u with
      press := { (restarted u).press with answers := [], counted := none } }
    (∀ g, s.press.answers ≠ [] → exec (commandOf g) s = .next (State.arbitrate { s with
      press := { s.press with signals := s.press.signals ++ [g] } })) ∧
    (∀ a b rest, s.press.answers = a :: b :: rest → exec .pressAnswerEnd s = .next (State.arbitrate { s with
      press := { s.press with answers := b :: rest, counted := none } })) ∧
    (∀ a, s.press.answers = [a] → s.press.signals = [] → exec .pressAnswerEnd s =
      .next (State.arbitrate { s with press := { s.press with answers := [], counted := none } })) ∧
    (∀ a g, s.press.answers = [a] → s.press.signals = [g] → exec .pressAnswerEnd s =
      exec (commandOf g) { s with press := { s.press with answers := [], signals := [], counted := none } }) ∧
    (s.press.answers = [] → s.press.state ≠ .sheet → exec .sheetAbort s = .next (State.arbitrate { s with
      press := { s.press with answers := [.notReady] } })) ∧
    (s.press.answers = [] → s.press.state = .sheet → exec .sheetAbort s = .next (restarted s).arbitrate) ∧
    (s.ctl.state = .resting → exec .pressReset s = .next { s with ctl := { s.ctl with
      state := .waking, wakeCause := some .pressReset, wakeFrameHeld := false, refreshTimer := some 78
      startStep := some 1 } }) ∧
    (s.ctl.state ≠ .resting → s.press.signals = [] →
      ((∀ ws, s.press.answers.head? ≠ some (.line ws)) → exec .pressReset s = .next (restarted s).arbitrate) ∧
      (∀ ws, s.press.answers.head? = some (.line ws) →
        (s.press.counted = none → exec .pressReset s = .next (cut s)) ∧
        (∀ e, s.press.counted = some e →
          (1 < e.copies → exec .pressReset s = .next (cut { s with press := { s.press with
            schedule := s.press.schedule.map fun q => if q.serial = e.serial then { q with copies := e.copies } else q
            } })) ∧
          (e.copies ≤ 1 → s.press.schedule.length < 16 → exec .pressReset s = .next (cut { s with
            press := { s.press with schedule := e :: s.press.schedule }
            dir := { s.dir with
              pages := pagesWith e.page (fun q => { q with printRefs := q.printRefs + 1 }) s.dir.pages } })) ∧
          (e.copies ≤ 1 → 16 ≤ s.press.schedule.length → exec .pressReset s = .next (cut s))))) ∧
    (s.ctl.state = .resting ∨ s.press.signals = [] →
      ∃ t : State, exec .pressReset s = .next t ∧ t.links = s.links)

/-! ## Streams (R166 to R168, R178 to R181) -/

/-- R178, R159, R160, R166, R167 (derived; a read dropped by link reset starts no stream and counts no damage event: log
30; a page that has become RETIRING counts none: log 46): READ BAND in compressed form that passes its checks is made
outstanding and its band record is read, checked, with no reply yet; the record then starts a read-back at the tail of
the link's list, or is refused. A page removed since is no page, whatever bears its id. A chain that does not open is
REFUSED DAMAGED with cause STREAM and word 0, with the mark and the damage event unless the read is NOCHECK. -/
def Obligations.CompressedReadBandReadsItsRecord : Prop :=
  (∀ (x : Link) (s : State) (f : Frame), s.offersLong x 6 f = true → field 5 1 f.body = 1 →
    let band := field 2 2 f.body
    let comp := field 4 1 f.body
    (s.page (field 0 2 f.body) = none →
      exec (.readBandCompressed x) s = .next (s.answeredLong x f (.refused .noPage))) ∧
    (∀ p, s.page (field 0 2 f.body) = some p →
      (p.state = .retiring →
        exec (.readBandCompressed x) s = .next (s.answeredLong x f (.refused .pageRetiring))) ∧
      (p.state = .opening →
        exec (.readBandCompressed x) s = .next (s.answeredLong x f (.refused .notCoded))) ∧
      (p.state ≠ .retiring → p.state ≠ .opening → p.b ≤ band ∨ p.c ≤ comp →
        exec (.readBandCompressed x) s = .next (s.answeredLong x f (.refused .badRequest))) ∧
      (p.state ≠ .retiring → p.state ≠ .opening → band < p.b → comp < p.c →
        let made := (s.link x).tookLong f s.nextTicket
        exec (.readBandCompressed x) s = .next (State.arbitrate { s with
          nextTicket := s.nextTicket + 1
          links := s.links.set x { made with
            recordReads := made.recordReads ++ [{ ticket := s.nextTicket, tag := f.tag, page := p.id, band := band,
                                                  comp := comp, check := field 6 1 f.body == 0, gone := false }] }
          arb := { s.arb with tableQueue := s.arb.tableQueue ++ [⟨.readBand x s.nextTicket,
            recordBurst p.header (band * p.c + comp), .read (recordMask (band * p.c + comp) 1) true⟩] } })))) ∧
  (∀ (x : Link) (s : State) (e : TableEnd) (n : Nat) (q : RecordRead),
    s.arb.tableEnds.find? (fun e => match e.op.client with
      | .readBand y _ => y == x
      | _ => false) = some e →
    e.op.client = .readBand x n → (s.link x).recordReads.find? (fun q => q.ticket == n) = some q →
    let link := { s.link x with recordReads := (s.link x).recordReads.filter fun r => r.ticket != n }
    let read : State := { s with
      links := s.links.set x link
      arb := { s.arb with tableEnds := s.arb.tableEnds.erase e } }
    let answered (r : ReplyResult) : State := { read with links := longReplied x n r read.links }
    let ends (t : State) : Prop := exec (.readBandRecordReadEnd x) s = .next t.arbitrate
    ((∀ l ∈ (s.link x).long, l.ticket ≠ n) → ends read) ∧
    ((∃ l ∈ (s.link x).long, l.ticket = n) →
      (q.gone = true ∨ s.page q.page = none → ends (answered (.refused .noPage))) ∧
      (∀ p, q.gone = false → s.page q.page = some p →
        let index := q.band * p.c + q.comp
        let record := BandRecord.ofWords (recordWords index e.words).1.word (recordWords index e.words).2.word
        let bad := (recordWords index e.words).1.bad || (recordWords index e.words).2.bad
        (p.state = .retiring → ends (answered (.refused .pageRetiring))) ∧
        (p.state ≠ .retiring → bad = true → ends { answered (.damaged .record 0) with
          dir := { s.dir with
            pages := pagesWith p.id
              (fun r => { r with damaged := true, damageEvents := min 255 (r.damageEvents + 1) }) s.dir.pages } }) ∧
        (p.state ≠ .retiring → bad = false → record.state = .pending → ends (answered (.refused .notCoded))) ∧
        (p.state ≠ .retiring → bad = false → record.state ≠ .pending →
          s.map.openChain p.id index record.first = none →
          (q.check = false → ends (answered (.damaged .stream 0))) ∧
          (q.check = true → ends { answered (.damaged .stream 0) with
            dir := { s.dir with pages := pagesWith p.id Page.damagedOnce s.dir.pages }
            arb := { s.markPlaced p index record false with tableEnds := s.arb.tableEnds.erase e } })) ∧
        (∀ first, p.state ≠ .retiring → bad = false → record.state ≠ .pending →
          s.map.openChain p.id index record.first = some first → ends { read with
          nextTicket := s.nextTicket + 1
          dir := { s.dir with
            pages := pagesWith p.id (fun r => { r with streamRefs := r.streamRefs + 1 }) s.dir.pages }
          links := s.links.set x (LinkCtl.noteWait { link with
            streams := link.streams ++
              [{ serial := s.nextTicket, kind := .readBack n q.tag q.check, page := p.id, c := p.c, index := index
                 total := index + 1, record := some record, next := 0
                 ext := some first, marked := 0, mismatches := 0 }] }) }))))

/-- R160, R166 to R169, R175, R179, R181 (derived; the frame a stopped read-back drops: log 47; the record's state in a
copy frame: log 48; the place claimed before the record is read: log 54; the turn taken at the claim: log 55; damage
index 0 in an unmarked frame: log 56): the engine that may take a general place claims it for the stream next in turn;
the words of its bursts fill the frame, the chain followed at each extent's end; the filled frame is placed in the
claimed place, and a read-back whose last word it carries is answered DONE and leaves the list. A claim for a copy
stream at a new band-component reads its band record, checked. A checked word with a parity failure, or a chain that
ends too soon, stops the band-component: a copy stream sends the frame so far with the cause marked and goes on to the
next, a read-back is REFUSED DAMAGED; the mark of a record read STORED and the damage event follow, but for NOCHECK. -/
def Obligations.StreamsClaimFillAndPlaceFrames : Prop :=
  ∀ (x : Link) (s : State),
    (∀ st pre post, (s.link x).filling = none → (s.link x).hasPlace = true →
      (s.link x).waiters = [] ∨ (s.link x).waiters.head? = some .engine →
      (s.link x).streams = pre ++ st :: post → st.hasFrame = true →
      (match (s.link x).turn with
        | none => ∀ q ∈ pre, q.hasFrame = false
        | some k => (k < st.serial ∧ ∀ q ∈ pre, q.hasFrame = true → q.serial ≤ k) ∨
            ((∀ q ∈ (s.link x).streams, q.hasFrame = true → q.serial ≤ k) ∧ ∀ q ∈ pre, q.hasFrame = false)) →
      let claimed := LinkCtl.noteWait { s.link x with
        filling := some ⟨st.serial, []⟩, turn := some st.serial
        waiters := (s.link x).waiters.filter (· != .engine) }
      (∀ p, st.record = none → s.page st.page = some p →
        exec (.streamPlaceClaim x) s = .next (State.arbitrate { s with
          links := s.links.set x claimed
          arb := { s.arb with tableQueue := s.arb.tableQueue ++ [⟨.copy x st.serial, recordBurst p.header st.index,
            .read (recordMask st.index 1) true⟩] } })) ∧
      (∀ r, st.record = some r → st.ext ≠ none →
        exec (.streamPlaceClaim x) s = .next (State.arbitrate { s with
          links := s.links.set x (claimed.setStream st) })) ∧
      (∀ r, st.record = some r → st.ext = none → st.next < r.words →
        exec (.streamPlaceClaim x) s = .next (State.arbitrate (State.streamFail x st .stream [] st.next { s with
          links := s.links.set x claimed })))) ∧
    (∀ st r ws, (s.link x).filling = some ⟨st.serial, ws⟩ →
      (s.link x).streams.find? (fun q => q.serial == st.serial) = some st → st.record = some r →
      ∀ back : List ReadWord,
      let size := min 4000 (r.words - st.next)
      let got := back.take (min 8 (size - ws.length))
      let checked : Bool := match st.kind with
        | .copy => true
        | .readBack _ _ check => check
      let words := ws ++ got.map ReadWord.word
      let ext := if (st.next + ws.length + got.length) % 16384 = 0 ∧ st.next + ws.length + got.length < r.words then
          st.ext.bind s.map.follow
        else st.ext
      let st2 : Stream := { st with mismatches := st.mismatches + (got.filter ReadWord.bad).length, ext := ext }
      (∀ pre w post, checked = true → got = pre ++ w :: post → w.bad = true → (∀ v ∈ pre, v.bad = false) →
        s.streamBurst x back =
          s.streamFail x st .parity (ws ++ pre.map ReadWord.word) (st.next + ws.length + pre.length)) ∧
      (checked = false ∨ (∀ v ∈ got, v.bad = false) →
        (ext = none → words.length < size →
          s.streamBurst x back = s.streamFail x st2 .stream words (st.next + words.length)) ∧
        (ext ≠ none ∨ size ≤ words.length → s.streamBurst x back = { s with
          links := s.links.set x { (s.link x).setStream st2 with filling := some ⟨st.serial, words⟩ } }))) ∧
    (∀ (st : Stream) (r : BandRecord) (p : Page) (cause : Detail) (ws : List Word) (w : Nat),
      st.record = some r → s.page st.page = some p →
      let arb := s.markPlaced p st.index r false
      let ended (n : Nat) : Pair LinkCtl :=
        let links := longReplied x n (.damaged cause w) s.links
        links.set x (({ links.get x with filling := none } : LinkCtl).dropStream st.serial)
      (st.kind = .copy → s.streamFail x st cause ws w = { s with
        arb := arb
        dir := { s.dir with pages := pagesWith p.id Page.damagedOnce s.dir.pages }
        links := s.links.set x (LinkCtl.place
          (.payload true 0 st.page (st.index / st.c) (st.index % st.c) r.mode (some cause) r.words st.next ws w
            (some r.state))
          { (s.link x).setStream { st with
              index := st.index + 1, record := none, next := 0, ext := none, marked := st.marked + 1 } with
            filling := none }) }) ∧
      (∀ n g, st.kind = .readBack n g true → s.streamFail x st cause ws w = { s with
        arb := arb
        dir := { s.dir with
          pages := pagesWith p.id (fun q => { q.damagedOnce with streamRefs := q.streamRefs - 1 }) s.dir.pages }
        links := ended n }) ∧
      (∀ n g, st.kind = .readBack n g false → s.streamFail x st cause ws w = { s with
        dir := { s.dir with
          pages := pagesWith p.id (fun q => { q with streamRefs := q.streamRefs - 1 }) s.dir.pages }
        links := ended n })) ∧
    (∀ st r ws, (s.link x).filling = some ⟨st.serial, ws⟩ →
      (s.link x).streams.find? (fun q => q.serial == st.serial) = some st → st.record = some r →
      ws.length = min 4000 (r.words - st.next) →
      let band := st.index / st.c
      let comp := st.index % st.c
      let frame : LinkCtl := LinkCtl.place (match st.kind with
        | .copy => .payload true 0 st.page band comp r.mode none r.words st.next ws 0 (some r.state)
        | .readBack _ g _ => .payload false g st.page band comp r.mode none r.words st.next ws 0 none)
        { s.link x with filling := none }
      (st.next + ws.length < r.words → exec (.streamFramePlaced x) s = .next { s with
        links := s.links.set x (frame.setStream { st with next := st.next + ws.length }) }) ∧
      (r.words ≤ st.next + ws.length → st.kind = .copy → exec (.streamFramePlaced x) s = .next { s with
        links := s.links.set x (LinkCtl.noteWait (frame.setStream
          { st with index := st.index + 1, record := none, next := 0, ext := none })) }) ∧
      (∀ n g check p, r.words ≤ st.next + ws.length → st.kind = .readBack n g check → s.page st.page = some p →
        let links := longReplied x n (.done (.bandDone p.id band comp r.mode r.words (s.rowsOf p band) r.state
          (if check = true then 0 else st.mismatches))) (s.links.set x frame)
        exec (.streamFramePlaced x) s = .next { s with
          links := links.set x (({ links.get x with filling := none } : LinkCtl).dropStream st.serial)
          dir := { s.dir with
            pages := pagesWith p.id (fun q => { q with streamRefs := q.streamRefs - 1 }) s.dir.pages } }))

/-- R160, R168, R180 (derived): the record a copy stream has read decides its next band-component; a parity failure or a
PENDING record (log 31) ends it with a marked frame of no words, detail RECORD, and a damage event, and so does a chain
that does not open, with detail STREAM and the mark of a record read STORED. Else the frame is filled from the chain's
first extent; a record of no words sends one frame of no words (log 32), unmarked with damage index 0 (log 56). When its
last band-component has been sent, COPY DONE with the marked count is placed in a general place, the stream leaves the
list and the page's stream refs falls; of several streams that owe one, the first in the list takes it (log 60). -/
def Obligations.CopyStreamsReadRecordsAndFinish : Prop :=
  ∀ (x : Link) (s : State) (st : Stream),
    (∀ e n, s.arb.tableEnds.find? (fun e => match e.op.client with
        | .copy y _ => y == x
        | _ => false) = some e → e.op.client = .copy x n → (s.link x).filling.map Filling.serial = some n →
      (s.link x).streams.find? (fun q => q.serial == n) = some st → st.kind = .copy →
      let record := BandRecord.ofWords (recordWords st.index e.words).1.word (recordWords st.index e.words).2.word
      let bad := (recordWords st.index e.words).1.bad || (recordWords st.index e.words).2.bad
      let arb := { s.arb with tableEnds := s.arb.tableEnds.erase e }
      let marked : LinkCtl := { (s.link x).setStream { st with
          index := st.index + 1, record := none, next := 0, ext := none, marked := st.marked + 1 } with
        filling := none }
      let damaged : Directory := { s.dir with pages := pagesWith st.page Page.damagedOnce s.dir.pages }
      (bad = true ∨ record.state = .pending → st.record = none → st.next = 0 →
        exec (.copyRecordReadEnd x) s = .next (State.arbitrate { s with
          arb := arb
          dir := damaged
          links := s.links.set x (LinkCtl.place (.payload true 0 st.page (st.index / st.c) (st.index % st.c) .coded
            (some .record) 0 0 [] 0 none) marked) })) ∧
      (∀ p, bad = false → record.state ≠ .pending → s.map.openChain st.page st.index record.first = none →
        s.page st.page = some p →
        exec (.copyRecordReadEnd x) s = .next (State.arbitrate { s with
          arb := { s.markPlaced p st.index record false with tableEnds := s.arb.tableEnds.erase e }
          dir := damaged
          links := s.links.set x (LinkCtl.place (.payload true 0 st.page (st.index / st.c) (st.index % st.c) record.mode
            (some .stream) record.words 0 [] 0 (some record.state)) marked) })) ∧
      (∀ first, bad = false → record.state ≠ .pending →
        s.map.openChain st.page st.index record.first = some first →
        exec (.copyRecordReadEnd x) s = .next (State.arbitrate { s with
          arb := arb
          links := s.links.set x { (s.link x).setStream { st with
              record := some record, next := 0, ext := some first } with
            filling := some ⟨st.serial, []⟩ } }))) ∧
    (∀ pre post, (s.link x).streams = pre ++ st :: post → st.kind = .copy → st.total ≤ st.index →
      (∀ q ∈ pre, q.hasFrame = true) → (s.link x).hasPlace = true →
      (s.link x).waiters = [] ∨ (s.link x).waiters.head? = some .engine →
      exec (.copyDone x) s = .next { s with
        links := s.links.set x (LinkCtl.dropStream st.serial (LinkCtl.place (.notice (.copyDone st.page st.marked))
          { s.link x with waiters := (s.link x).waiters.filter (· != .engine) }))
        dir := { s.dir with
          pages := pagesWith st.page (fun q => { q with streamRefs := q.streamRefs - 1 }) s.dir.pages } })

/-! ## The store controller and the arbiter (R109 to R136) -/

/-- R130 to R135 (derived): a grant decision takes the first case that holds: forced refresh, urgent press with TABLE
before PRESS, the standing run, round robin from the requester after the ring position, idle refresh, a free store.
While the controller is not READY or a burst is in progress no decision is made (R129). R51, R87, R88, R93, R116, R121,
R127, R128, R147, R179 (derived; when a payload burst is ready, and how far an engine reads: log 10; the steps the press
decoder is due come before the decision that ends a burst: log 52): what each requester presents. An intake presents the
next write of its frame, TABLE the head of its queue, a lane the payload burst that is ready at its place in its chain,
zero words after the last, else the next slot burst, and in ROWS the next payload burst; so does the press for the
component its row needs, and a stream for the frame it fills. A read takes the bytes up to the last sample or word
needed, and is checked but for a NOCHECK read-back. -/
def Obligations.GrantDecisionsFollowThePrecedence : Prop :=
  (∀ s : State,
    let reads (r : Requester) (addr words : Nat) (checked : Bool) : Prop := ∃ taken : BitVec 32,
      s.presented r = some ⟨r, addr, .read taken checked, none, true⟩ ∧
      ∀ i < 32, taken.getLsbD i = decide (i / 4 < words)
    let payload (r : Requester) (k : Decoder) : Prop :=
      (∀ e, k.ext = some e → k.fetched < k.words →
        reads r (e * 16384 + k.fetched % 16384) (k.words - k.fetched) true) ∧
      (k.ext = none ∨ k.words ≤ k.fetched → s.presented r = none)
    (∀ x, s.presented (.intake x) = match (s.intake x).frame with
      | none => none
      | some f => f.writes.head?.map fun w => ⟨.intake x, w.addr, .write w.data w.mask, none, true⟩) ∧
    (s.presented .table =
      s.arb.tableQueue.head?.map fun op => ⟨.table, op.addr, op.access, some op.client, true⟩) ∧
    (∀ l, s.lane l = .idle → s.presented (.lane l) = none) ∧
    (∀ l j r, s.lane l = .encoding j r →
      let wants := 256 ≤ r.out.length ∨ (r.left = 0 ∧ r.out ≠ [])
      (r.phase = .recording ∨ (r.left = 0 ∧ r.out = []) → s.presented (.lane l) = none) ∧
      (∀ e, r.phase ≠ .recording → wants → (s.map.chainOf r.first)[r.words / 16384]? = some e → ∃ data : List Word,
        s.presented (.lane l) =
          some ⟨.lane l, e * 16384 + r.words % 16384, .write data 0xFFFFFFFF, none, true⟩ ∧
        data.length = 8 ∧
        ∀ i < 256, ((data.getD (i / 32) 0).getLsbD (31 - i % 32)) = r.out.getD i false) ∧
      (∀ x t, r.phase ≠ .recording → ¬ wants → 0 < r.left → j.source = .slot x t → ∃ taken : BitVec 32,
        s.presented (.lane l) = some ⟨.lane l,
          (128 * (match x with | .a => 0 | .b => 1) + 64 * (match t with | .s0 => 0 | .s1 => 1) + 16 * j.comp) * 16384 +
            8 * ((r.ctx.hr * r.ctx.w - r.left) / 16), .read taken true, none, true⟩ ∧
        ∀ i < 32, taken.getLsbD i = decide (2 * (i / 4) + (if i % 4 < 2 then 1 else 0) < r.left))) ∧
    (∀ l j, s.lane l = .decoding j .recordRead → s.presented (.lane l) = none) ∧
    (∀ l j r k f fs, s.lane l = .decoding j (.rows r k (f :: fs)) → s.presented (.lane l) = none) ∧
    (∀ l j r k, s.lane l = .decoding j (.rows r k []) → payload (.lane l) k) ∧
    (s.press.row = none → s.presented .press = none) ∧
    (∀ rows, s.press.row = some rows →
      (∀ r k, s.press.comps[rows.length]? = some (.decoding r k) → payload .press k) ∧
      ((∀ r k, s.press.comps[rows.length]? ≠ some (.decoding r k)) → s.presented .press = none)) ∧
    (∀ x, (s.link x).filling = none → s.presented (.stream x) = none) ∧
    (∀ x f st, (s.link x).filling = some f → (s.link x).streams.find? (fun st => st.serial == f.serial) = some st →
      (∀ record e, st.record = some record → st.ext = some e →
        let wanted := min 4000 (record.words - st.next)
        (f.words.length < wanted →
          reads (.stream x) (e * 16384 + (st.next + f.words.length) % 16384) (wanted - f.words.length)
            (match st.kind with
              | .copy => true
              | .readBack _ _ check => check)) ∧
        (wanted ≤ f.words.length → s.presented (.stream x) = none)) ∧
      (st.record = none ∨ st.ext = none → s.presented (.stream x) = none))) ∧
  ∀ s : State,
    let ring : List Requester := [.intake .a, .intake .b, .lane .l0, .lane .l1, .lane .l2, .lane .l3, .press, .table,
      .stream .a, .stream .b]
    let begun (g : Grant) (count : Nat) (position : Requester) (b : Burst) : State := { s with
      arb := { s.arb with
        grant := g, count := count, ring := position
        tableQueue := if b.req = .table then s.arb.tableQueue.tail else s.arb.tableQueue }
      ctl := { s.ctl with
        burst := some b, banks := s.ctl.banks.set (bankOf b.addr) (.opened (b.addr / 512 / 4)) } }
    let refreshed : State := { s with
      arb := { s.arb with grant := .refresh, count := 0 }
      ctl := { s.ctl with state := .refreshing, banks := ⟨.idle, .idle, .idle, .idle⟩ } }
    let pressAtHead := ∃ op q, s.arb.tableQueue = op :: q ∧ op.byPress = true
    let noUrgent := s.arb.pressUrgent = false ∨ (¬ pressAtHead ∧ s.presented .press = none)
    (s.ctl.state ≠ .ready ∨ s.ctl.burst ≠ none → s.arbitrate = s) ∧
    (s.ctl.state = .ready → s.ctl.burst = none →
      (8 ≤ s.ctl.owed → s.arbitrate = refreshed) ∧
      (s.ctl.owed < 8 →
        (∀ op q, s.arb.pressUrgent = true → s.arb.tableQueue = op :: q → op.byPress = true →
          s.arbitrate = begun (.urgent .table) 0 s.arb.ring ⟨.table, op.addr, op.access, some op.client, true⟩) ∧
        (∀ b, s.arb.pressUrgent = true → ¬ pressAtHead → s.presented .press = some b →
          s.arbitrate = begun (.urgent .press) 0 s.arb.ring b) ∧
        (∀ r b, noUrgent → s.arb.grant = .run r → s.presented r = some b →
          s.arb.count < s.arb.runLimit ∨ (∀ q, q ≠ r → s.presented q = none) →
          s.arbitrate = begun (.run r) (min 32 (s.arb.count + 1)) s.arb.ring b) ∧
        (∀ before after pre r post b, noUrgent →
          (∀ q, s.arb.grant = .run q → s.presented q = none ∨
            (s.arb.runLimit ≤ s.arb.count ∧ ∃ o, o ≠ q ∧ s.presented o ≠ none)) →
          ring = before ++ s.arb.ring :: after → after ++ before ++ [s.arb.ring] = pre ++ r :: post →
          (∀ q ∈ pre, s.presented q = none) → s.presented r = some b →
          s.arbitrate = begun (.run r) 1 r b) ∧
        (noUrgent → (∀ q, s.presented q = none) →
          s.arbitrate = if 0 < s.ctl.owed then refreshed
            else { s with arb := { s.arb with grant := .free, count := 0 } })))

/-- R115, R116, R119, R120, R128, R132, R134, R161 (derived; bits the devices flip, which leave a word that mismatches
as it is: log 8; STORE_PARITY set here and at no end step, and no damage event for a read of ended work: logs 22 and
61): the end of a burst writes exactly its unmasked bytes, each with its even parity, returns the words of a read with
a mark on each taken byte that does not match, closes the row of a TABLE burst, and is delivered to its requester while
the work that presented it lasts; the end of one whose work has ended places the operations that were ready behind it;
then come the steps that the press decoder is due (O49, log 52) and the next decision. A parity failure of a checked
read sets STORE_PARITY on both links here, be it a band record read or another, whether or not its work lasts. A burst
outside the store is the model's one fault (R113, log 28). -/
def Obligations.BurstEndMovesItsBytes : Prop :=
  ∀ (s : State) (b : Burst) (us : List Upset), s.ctl.burst = some b →
    (s.size.extents * 16384 < b.addr + 8 → exec (.burstEnd us) s = .fault (.outsideStore b.addr)) ∧
    (b.addr + 8 ≤ s.size.extents * 16384 → Upset.wf us = true → s.store.wf = true →
      let start := 4 * b.addr
      let broken (a : Nat) : Bool := [0, 1, 2, 3].any fun j =>
        xor (parityOf (s.store.byte s.powerOns (4 * (a / 4) + j))) (s.store.parityBit s.powerOns (4 * (a / 4) + j))
      let flip (a : Nat) : Option Upset := if broken a = true then none else us.find? fun u => start + u.byte == a
      let byte (a : Nat) : Byte := s.store.byte s.powerOns a ^^^ (match flip a with
        | none => 0
        | some u => u.data)
      let parity (a : Nat) : Bool := xor (s.store.parityBit s.powerOns a) (match flip a with
        | none => false
        | some u => u.parity)
      let written (a : Nat) : Option Byte := match b.access with
        | .write data mask =>
          if start ≤ a ∧ a < start + 32 ∧ mask.getLsbD (a - start) = true then
            some (((data.getD ((a - start) / 4) 0).extractLsb' (8 * ((a - start) % 4)) 8))
          else none
        | .read _ _ => none
      let words : List ReadWord := match b.access with
        | .write _ _ => []
        | .read taken _ => (List.range 8).map fun i =>
          ⟨byte (start + 4 * i + 3) ++ byte (start + 4 * i + 2) ++ byte (start + 4 * i + 1) ++ byte (start + 4 * i),
            [0, 1, 2, 3].any fun j => taken.getLsbD (4 * i + j) &&
              xor (parityOf (byte (start + 4 * i + j))) (parity (start + 4 * i + j))⟩
      let signalled := match b.access with
        | .write _ _ => false
        | .read _ checked => checked && words.any ReadWord.bad
      ∃ m : Memory, m.wf = true ∧ (∀ a, m.byte s.powerOns a = (written a).getD (byte a)) ∧
        (∀ a, m.parityBit s.powerOns a = match written a with
          | some v => parityOf v
          | none => parity a) ∧
        let ended : State := { s with
          store := m
          ctl := { s.ctl with
            burst := none
            banks := if b.req = .table then s.ctl.banks.set (bankOf b.addr) .idle else s.ctl.banks }
          links := parityFlagged signalled s.links }
        let answers (t : State) : Prop := exec (.burstEnd us) s = .next t.pressDue.arbitrate
        (b.live = false → answers { ended with arb := { s.arb with
          deferred := []
          tableQueue := s.arb.deferred.foldl
            (fun q op => if op.byPress = true then pressQueued op q else q ++ [op]) s.arb.tableQueue } }) ∧
        (b.live = true →
          (∀ x, b.req = .intake x → answers { ended with
            intakes := s.intakes.set x { s.intake x with
              frame := (s.intake x).frame.map fun f => { f with writes := f.writes.tail } } }) ∧
          (∀ l j r, b.req = .lane l → s.lane l = .encoding j r → answers (ended.encodeBurst l j r b words)) ∧
          (∀ l j r k fs, b.req = .lane l → s.lane l = .decoding j (.rows r k fs) →
            answers (ended.proofRun l j r (k.feed s.map words))) ∧
          (b.req = .press → answers (ended.pressFeed words)) ∧
          (∀ x, b.req = .stream x → answers (ended.streamBurst x words)) ∧
          (∀ c, b.req = .table → b.client = some c → (∀ page, c ≠ .headerInit page) →
            (∀ x n, c = .copy x n → ∃ st ∈ (s.link x).streams, st.serial = n) → answers { ended with
              arb := { s.arb with tableEnds := s.arb.tableEnds ++ [⟨⟨c, b.addr, b.access⟩, words⟩] } }) ∧
          (∀ x n, b.req = .table → b.client = some (.copy x n) → (∀ st ∈ (s.link x).streams, st.serial ≠ n) →
            answers ended) ∧
          (∀ page h, b.req = .table → b.client = some (.headerInit page) → s.dir.inits = [h] → h.page = page →
            answers { ended with
              dir := { s.dir with inits := [{ h with written := h.written + 4 }] }
              arb := { s.arb with tableQueue :=
                if h.written + 4 < h.total then
                  s.arb.tableQueue ++ [⟨.headerInit page, recordBurst h.header (h.written + 4),
                    .write (List.replicate 8 0)
                      (recordMask (h.written + 4) (min 4 (h.total - (h.written + 4))))⟩]
                else s.arb.tableQueue } })))

/-- R111, R117, R118, R124, R125 (derived; the steps of a running sequence: log 13): what the settle timer, the
start-up sequence, a due point, a refresh made and the end of a wake leave; the owed count rises at a due point to 8 at
most and falls with each refresh. What woke the part is then served. -/
def Obligations.StartRefreshAndWakeRunTheirCourse : Prop :=
  ∀ s : State,
    let idle : Four Bank := ⟨.idle, .idle, .idle, .idle⟩
    (s.ctl.state = .settle → exec .settleTimerExpiry s = .next { s with ctl := { s.ctl with
      state := .start, settleTimer := none, refreshTimer := some 78, startStep := some 1 } }) ∧
    (∀ n, s.ctl.state = .start → s.ctl.startStep = some n → 1 ≤ n → n ≤ 4 →
      exec .startSequenceComplete s = .next (State.arbitrate { s with ctl := { s.ctl with
        state := .ready, startStep := none, banks := idle, owed := s.ctl.owed - (2 - (n - 2)) } }) ∧
      (∀ k, n + k ≤ 4 → s.ctl.refreshTimer.isSome = true →
        exec (.refreshDuePoint k) s = .next { s with ctl := { s.ctl with
          startStep := some (n + k), refreshTimer := some 78
          banks := if n = 1 ∧ 0 < k then idle else s.ctl.banks
          owed := min 8 (s.ctl.owed - ((n + k - 2) - (n - 2)) + 1) } })) ∧
    (∀ n k, s.ctl.state = .waking → s.ctl.startStep = some n → 1 ≤ n → n + k ≤ 8 → s.ctl.refreshTimer.isSome = true →
      exec (.refreshDuePoint k) s = .next { s with ctl := { s.ctl with
        startStep := some (n + k), refreshTimer := some 78, owed := min 8 (s.ctl.owed - k + 1) } }) ∧
    (∀ k, s.ctl.state ≠ .start → s.ctl.state ≠ .waking → s.ctl.refreshTimer.isSome = true →
      exec (.refreshDuePoint k) s = .next (State.arbitrate { s with ctl := { s.ctl with
        refreshTimer := some 78, owed := min 8 (s.ctl.owed + 1) } })) ∧
    (s.ctl.state = .refreshing → exec .refreshMade s = .next (State.arbitrate { s with ctl := { s.ctl with
      state := .ready, owed := s.ctl.owed - 1 } })) ∧
    (∀ n, s.ctl.state = .waking → s.ctl.startStep = some n → 1 ≤ n → n ≤ 8 →
      let ready : State := { s with ctl := { s.ctl with
        state := .ready, startStep := none, banks := idle, owed := s.ctl.owed - (9 - n), wakeCause := none
        wakeFrameHeld := false } }
      let woken (t : State) : Prop := exec .wakeComplete s = .next t.arbitrate
      (s.ctl.wakeCause = some .sheetStart → s.press.state ≠ .ready → woken { ready with
        press := { s.press with answers := s.press.answers ++ [.notReady] } }) ∧
      (s.ctl.wakeCause = some .pressReset → exec .wakeComplete s = exec .pressReset ready) ∧
      (∀ x, s.ctl.wakeCause = some (.frame x) →
        (s.ctl.wakeFrameHeld = false ∨ 8 ≤ (s.link x).replyUse → woken ready) ∧
        (∀ f rest, s.ctl.wakeFrameHeld = true → (s.link x).rx = f :: rest → (s.link x).replyUse < 8 →
          (¬ (f.k = 18 ∧ f.body.length = 2) → ¬ (f.k = 19 ∧ f.body.length = 0) → woken ready) ∧
          (f.k = 18 → f.body.length = 2 → woken { ready with links := s.links.set x { s.link x with
            rx := rest, hold := true, holdTimer := some (max 1 (field 0 2 f.body)) } }) ∧
          (f.k = 19 → f.body.length = 0 → (s.link x).hold = false → woken { ready with
            links := s.links.set x { s.link x with rx := rest } }) ∧
          (f.k = 19 → f.body.length = 0 → (s.link x).hold = true → woken { ready with
            links := s.links.set x (LinkCtl.startSend { s.link x with
              rx := rest, hold := false, holdTimer := none }) }))))

/-- R122, R123 (derived; which waiting frame wakes the part: log 12): REST waits at the store controller; with the
controller READY and no burst in progress the first that waits is refused NOT_IDLE and nothing else changes, or the
store goes to rest and every REST that waits is answered DONE. -/
def Obligations.RestIsTestedAgainstTheWholePart : Prop :=
  (∀ (x : Link) (s : State) (f : Frame), s.offersLong x 17 f = true →
    exec (.rest x) s = .next { s.madeLong x f with
      ctl := { s.ctl with restWaiting := s.ctl.restWaiting ++ [⟨x, s.nextTicket⟩] } }) ∧
  (∀ (first : Link) (s : State) (q : RestReq) (rest : List RestReq), s.ctl.restWaiting = q :: rest →
    s.ctl.state = .ready → s.ctl.burst = none →
    let idle := (∀ p ∈ s.dir.pages, (p.state = .sealed ∨ p.state = .failed) ∧ p.work = 0) ∧
      (∀ l, s.lane l = .idle ∧ s.disp.queues.get l = []) ∧ (∀ y t, s.disp.pending y t = []) ∧
      (∀ y, (s.intake y).frame = none ∧ (s.intake y).waiting = []) ∧
      s.press.state = .idle ∧ s.press.schedule = [] ∧ s.press.decState = .stopped ∧
      (∀ y, (s.link y).streams = [] ∧ (s.link y).recordReads = []) ∧ s.arb.tableQueue = []
    (¬ idle → exec (.restTest first) s = .next { s with
      ctl := { s.ctl with restWaiting := rest }
      links := longReplied q.link q.ticket (.refused .notIdle) s.links }) ∧
    (idle →
      let rested (state : CtlState) (cause : Option WakeCause) : State := { s with
        ctl := { s.ctl with
          state := state, banks := ⟨.idle, .idle, .idle, .idle⟩, owed := 0, restWaiting := [], wakeCause := cause
          wakeFrameHeld := cause.isSome
          refreshTimer := if cause.isSome = true then some 78 else none
          startStep := if cause.isSome = true then some 1 else s.ctl.startStep }
        arb := { s.arb with grant := .free, count := 0 }
        links := s.ctl.restWaiting.foldl (fun l r => longReplied r.link r.ticket (.done .none) l) s.links }
      ((s.link .a).rx = [] → (s.link .b).rx = [] → exec (.restTest first) s = .next (rested .resting none)) ∧
      (∀ y, (s.link y).rx ≠ [] → y = first ∨ (s.link first).rx = [] →
        exec (.restTest first) s = .next (rested .waking (some (.frame y))))))

/-- R109 and the reset values of R24, R32, R46, R54, R64, R79, R98, R99, R126, R138 and R170 (derived; the straps at
State.reset: log 3; the queue of commands kept: log 4; the number of power-ons: log 5; tickets and serials: log 6;
empty items that no table lists: log 38): POWER_ON_RESET leaves every item at its value after power-on reset, with the
store size the straps give, and the part so left satisfies the invariants. -/
def Obligations.PowerOnResetSetsEveryItem : Prop :=
  (∀ (sz1 sz0 : Bool) (s : State), ∃ t : State, exec (.powerOnReset sz1 sz0) s = .next t ∧
    t.size = (match sz1, sz0 with
      | false, false => .mib128
      | false, true => .mib256
      | true, false => .mib512
      | true, true => .mib128) ∧
    t.pending = s.pending ∧ t.powerOns = s.powerOns + 1 ∧ t.nextTicket = 0 ∧ t.store = ⟨[], []⟩ ∧
    t.ctl = { state := .settle, banks := ⟨.notTracked, .notTracked, .notTracked, .notTracked⟩, burst := none, owed := 0
              refreshTimer := none, settleTimer := some 200, startStep := none, wakeCause := none
              wakeFrameHeld := false, restWaiting := [] } ∧
    t.arb = { grant := .free, count := 0, ring := .stream .b, runLimit := 8, pressUrgent := false, tableQueue := []
              deferred := [], tableEnds := [] } ∧
    t.map = { table := [], pool := List.range' 256 (t.size.extents - 256) } ∧
    t.adm = { rules := Vector.replicate 8
                { enabled := false, field := .pageId, op := .eq, value := 0, mask := 0, andNext := false
                  action := .cls 3, copyTarget := none }
              defaultClass := 3, lw := 64, hw := 128, k := 0, mode := .normal, admits := 0
              freeCount := t.size.extents - 256 } ∧
    t.dir = { pages := [], profiles := Vector.replicate 8 { predictor := .edge, e := 0, hb := 16, d := 8, uses := 0 }
              inits := [], releases := [], listings := [] } ∧
    (∀ x, t.intake x =
      { page := none, fill := .s0, hold := false, frame := none, waiting := []
        slots := ⟨⟨.empty, none, none, 0, 0⟩, ⟨.empty, none, none, 0, 0⟩⟩ }) ∧
    t.disp.tableBits = 2 ∧ (∀ i (h : i < 32), laneNo t.disp.table[i] = i % 4) ∧
    t.disp.waiting = [] ∧ (∀ l, t.lane l = .idle) ∧
    t.press = { schedule := [], nextSerial := 0, state := .idle, settings := ⟨.sequential, 8, 2⟩, fifo := []
                decState := .stopped, pos := none, comps := [], row := none, skip := 0, delivered := 0
                last := none, underruns := 0, latches := [], owedRef := none, counted := none, answers := [], signals := [] } ∧
    (∀ x, t.link x =
      { rx := [], out := [], sending := none, replyUse := 0, long := [], hold := false, holdTimer := none
        streams := [], turn := none, flags := ⟨false, false, false, false, false⟩, framesDiscarded := 0
        noticesDiscarded := 0, filling := none, waiters := [], recordReads := [], resetting := false }) ∧
    t.store.wf = true ∧ t.ctl.owed ≤ 8 ∧ t.settingsLegal = true ∧ t.sound = true ∧ t.withinPlaces = true) ∧
  (∀ s : State, exec (.powerOnReset false false) s =
    .next { State.reset with pending := s.pending, powerOns := s.powerOns + 1 }) ∧
  State.reset.store.wf = true ∧ State.reset.ctl.owed ≤ 8 ∧ State.reset.settingsLegal = true ∧
    State.reset.sound = true ∧ State.reset.withinPlaces = true

/-! ## The invariants of the part -/

/-- The invariants every step keeps (derived; tickets: log 6): the store in its canonical form; the owed refresh count
at most 8 (R117); the settings in force in their ranges (R69, R75, R81, R136, R143); the free count the pool's length
(R99, R106), the receive buffers, long requests and counts of the links within their bounds (R170), and the tickets
given out below the counter; and no more held than there are places for: 8 reply and 24 general places on each link
(R175), 256 pages (R24), 8 jobs in a lane queue (R82), 16 print entries (R139), 65,536 words in the press FIFO
(R145). -/
def Obligations.EveryStepKeepsTheInvariants : Prop :=
  ∀ s t : State, step s = .next t →
    (s.store.wf = true → t.store.wf = true) ∧
    (s.ctl.owed ≤ 8 → t.ctl.owed ≤ 8) ∧
    (s.settingsLegal = true → t.settingsLegal = true) ∧
    (s.sound = true → t.sound = true) ∧
    (s.withinPlaces = true → t.withinPlaces = true)
end

