-- ==== Sys2Proof/Laws/State.lean ====
section
/-!
SUPPORT. The update of one block of the state: one lemma for each field after each update, so that no later proof
unfolds a record update; and the collections by link, slot and lane.
-/

-- One proof after another: the package as one text asks for more threads at once than the check allows.
set_option Elab.async false
set_option linter.unusedTactic false
set_option linter.unusedSimpArgs false
set_option linter.unreachableTactic false
namespace Sys2Proof.Machine

/-! ## One thing for each link, slot, lane -/

@[simp] theorem Pair.get_set_self {α : Type} (p : Pair α) (x : Link) (v : α) : (p.set x v).get x = v := by
  cases x <;> rfl

theorem Pair.get_set_ne {α : Type} (p : Pair α) {x y : Link} (v : α) (h : y ≠ x) : (p.set x v).get y = p.get y := by
  cases x <;> cases y <;> simp_all [Pair.get, Pair.set]

@[simp] theorem Pair.get_set_other {α : Type} (p : Pair α) (x : Link) (v : α) :
    (p.set x v).get (otherLink x) = p.get (otherLink x) := by
  cases x <;> rfl

@[simp] theorem Pair.set_get_self {α : Type} (p : Pair α) (x : Link) : p.set x (p.get x) = p := by
  cases x <;> rfl

@[simp] theorem Pair.set_set {α : Type} (p : Pair α) (x : Link) (v w : α) : (p.set x v).set x w = p.set x w := by
  cases x <;> rfl

@[simp] theorem Slots.get_set_self {α : Type} (p : Slots α) (t : SlotId) (v : α) : (p.set t v).get t = v := by
  cases t <;> rfl

@[simp] theorem Slots.get_set_other {α : Type} (p : Slots α) (t : SlotId) (v : α) :
    (p.set t v).get t.other = p.get t.other := by
  cases t <;> rfl

@[simp] theorem Four.get_set_self {α : Type} (p : Four α) (l : Lane) (v : α) : (p.set l v).get l = v := by
  cases l <;> rfl

theorem Four.get_set_ne {α : Type} (p : Four α) {l m : Lane} (v : α) (h : m ≠ l) : (p.set l v).get m = p.get m := by
  cases l <;> cases m <;> simp_all [Four.get, Four.set]

/-! ## Updates of one block -/

@[simp] theorem State.modLink_pending (s : State) (x : Link) (f : LinkCtl → LinkCtl) : (s.modLink x f).pending = s.pending := rfl
@[simp] theorem State.modLink_powerOns (s : State) (x : Link) (f : LinkCtl → LinkCtl) : (s.modLink x f).powerOns = s.powerOns := rfl
@[simp] theorem State.modLink_nextTicket (s : State) (x : Link) (f : LinkCtl → LinkCtl) : (s.modLink x f).nextTicket = s.nextTicket := rfl
@[simp] theorem State.modLink_size (s : State) (x : Link) (f : LinkCtl → LinkCtl) : (s.modLink x f).size = s.size := rfl
@[simp] theorem State.modLink_store (s : State) (x : Link) (f : LinkCtl → LinkCtl) : (s.modLink x f).store = s.store := rfl
@[simp] theorem State.modLink_ctl (s : State) (x : Link) (f : LinkCtl → LinkCtl) : (s.modLink x f).ctl = s.ctl := rfl
@[simp] theorem State.modLink_arb (s : State) (x : Link) (f : LinkCtl → LinkCtl) : (s.modLink x f).arb = s.arb := rfl
@[simp] theorem State.modLink_map (s : State) (x : Link) (f : LinkCtl → LinkCtl) : (s.modLink x f).map = s.map := rfl
@[simp] theorem State.modLink_adm (s : State) (x : Link) (f : LinkCtl → LinkCtl) : (s.modLink x f).adm = s.adm := rfl
@[simp] theorem State.modLink_dir (s : State) (x : Link) (f : LinkCtl → LinkCtl) : (s.modLink x f).dir = s.dir := rfl
@[simp] theorem State.modLink_intakes (s : State) (x : Link) (f : LinkCtl → LinkCtl) : (s.modLink x f).intakes = s.intakes := rfl
@[simp] theorem State.modLink_disp (s : State) (x : Link) (f : LinkCtl → LinkCtl) : (s.modLink x f).disp = s.disp := rfl
@[simp] theorem State.modLink_press (s : State) (x : Link) (f : LinkCtl → LinkCtl) : (s.modLink x f).press = s.press := rfl
@[simp] theorem State.modLink_links (s : State) (x : Link) (f : LinkCtl → LinkCtl) : (s.modLink x f).links = s.links.set x (f (s.links.get x)) := rfl

@[simp] theorem State.modIntake_pending (s : State) (x : Link) (f : Intake → Intake) : (s.modIntake x f).pending = s.pending := rfl
@[simp] theorem State.modIntake_powerOns (s : State) (x : Link) (f : Intake → Intake) : (s.modIntake x f).powerOns = s.powerOns := rfl
@[simp] theorem State.modIntake_nextTicket (s : State) (x : Link) (f : Intake → Intake) : (s.modIntake x f).nextTicket = s.nextTicket := rfl
@[simp] theorem State.modIntake_size (s : State) (x : Link) (f : Intake → Intake) : (s.modIntake x f).size = s.size := rfl
@[simp] theorem State.modIntake_store (s : State) (x : Link) (f : Intake → Intake) : (s.modIntake x f).store = s.store := rfl
@[simp] theorem State.modIntake_ctl (s : State) (x : Link) (f : Intake → Intake) : (s.modIntake x f).ctl = s.ctl := rfl
@[simp] theorem State.modIntake_arb (s : State) (x : Link) (f : Intake → Intake) : (s.modIntake x f).arb = s.arb := rfl
@[simp] theorem State.modIntake_map (s : State) (x : Link) (f : Intake → Intake) : (s.modIntake x f).map = s.map := rfl
@[simp] theorem State.modIntake_adm (s : State) (x : Link) (f : Intake → Intake) : (s.modIntake x f).adm = s.adm := rfl
@[simp] theorem State.modIntake_dir (s : State) (x : Link) (f : Intake → Intake) : (s.modIntake x f).dir = s.dir := rfl
@[simp] theorem State.modIntake_intakes (s : State) (x : Link) (f : Intake → Intake) : (s.modIntake x f).intakes = s.intakes.set x (f (s.intakes.get x)) := rfl
@[simp] theorem State.modIntake_disp (s : State) (x : Link) (f : Intake → Intake) : (s.modIntake x f).disp = s.disp := rfl
@[simp] theorem State.modIntake_press (s : State) (x : Link) (f : Intake → Intake) : (s.modIntake x f).press = s.press := rfl
@[simp] theorem State.modIntake_links (s : State) (x : Link) (f : Intake → Intake) : (s.modIntake x f).links = s.links := rfl

@[simp] theorem State.modPress_pending (s : State) (f : PressFeed → PressFeed) : (s.modPress f).pending = s.pending := rfl
@[simp] theorem State.modPress_powerOns (s : State) (f : PressFeed → PressFeed) : (s.modPress f).powerOns = s.powerOns := rfl
@[simp] theorem State.modPress_nextTicket (s : State) (f : PressFeed → PressFeed) : (s.modPress f).nextTicket = s.nextTicket := rfl
@[simp] theorem State.modPress_size (s : State) (f : PressFeed → PressFeed) : (s.modPress f).size = s.size := rfl
@[simp] theorem State.modPress_store (s : State) (f : PressFeed → PressFeed) : (s.modPress f).store = s.store := rfl
@[simp] theorem State.modPress_ctl (s : State) (f : PressFeed → PressFeed) : (s.modPress f).ctl = s.ctl := rfl
@[simp] theorem State.modPress_arb (s : State) (f : PressFeed → PressFeed) : (s.modPress f).arb = s.arb := rfl
@[simp] theorem State.modPress_map (s : State) (f : PressFeed → PressFeed) : (s.modPress f).map = s.map := rfl
@[simp] theorem State.modPress_adm (s : State) (f : PressFeed → PressFeed) : (s.modPress f).adm = s.adm := rfl
@[simp] theorem State.modPress_dir (s : State) (f : PressFeed → PressFeed) : (s.modPress f).dir = s.dir := rfl
@[simp] theorem State.modPress_intakes (s : State) (f : PressFeed → PressFeed) : (s.modPress f).intakes = s.intakes := rfl
@[simp] theorem State.modPress_disp (s : State) (f : PressFeed → PressFeed) : (s.modPress f).disp = s.disp := rfl
@[simp] theorem State.modPress_press (s : State) (f : PressFeed → PressFeed) : (s.modPress f).press = f s.press := rfl
@[simp] theorem State.modPress_links (s : State) (f : PressFeed → PressFeed) : (s.modPress f).links = s.links := rfl

@[simp] theorem State.modCtl_pending (s : State) (f : StoreCtl → StoreCtl) : (s.modCtl f).pending = s.pending := rfl
@[simp] theorem State.modCtl_powerOns (s : State) (f : StoreCtl → StoreCtl) : (s.modCtl f).powerOns = s.powerOns := rfl
@[simp] theorem State.modCtl_nextTicket (s : State) (f : StoreCtl → StoreCtl) : (s.modCtl f).nextTicket = s.nextTicket := rfl
@[simp] theorem State.modCtl_size (s : State) (f : StoreCtl → StoreCtl) : (s.modCtl f).size = s.size := rfl
@[simp] theorem State.modCtl_store (s : State) (f : StoreCtl → StoreCtl) : (s.modCtl f).store = s.store := rfl
@[simp] theorem State.modCtl_ctl (s : State) (f : StoreCtl → StoreCtl) : (s.modCtl f).ctl = f s.ctl := rfl
@[simp] theorem State.modCtl_arb (s : State) (f : StoreCtl → StoreCtl) : (s.modCtl f).arb = s.arb := rfl
@[simp] theorem State.modCtl_map (s : State) (f : StoreCtl → StoreCtl) : (s.modCtl f).map = s.map := rfl
@[simp] theorem State.modCtl_adm (s : State) (f : StoreCtl → StoreCtl) : (s.modCtl f).adm = s.adm := rfl
@[simp] theorem State.modCtl_dir (s : State) (f : StoreCtl → StoreCtl) : (s.modCtl f).dir = s.dir := rfl
@[simp] theorem State.modCtl_intakes (s : State) (f : StoreCtl → StoreCtl) : (s.modCtl f).intakes = s.intakes := rfl
@[simp] theorem State.modCtl_disp (s : State) (f : StoreCtl → StoreCtl) : (s.modCtl f).disp = s.disp := rfl
@[simp] theorem State.modCtl_press (s : State) (f : StoreCtl → StoreCtl) : (s.modCtl f).press = s.press := rfl
@[simp] theorem State.modCtl_links (s : State) (f : StoreCtl → StoreCtl) : (s.modCtl f).links = s.links := rfl

@[simp] theorem State.modArb_pending (s : State) (f : Arbiter → Arbiter) : (s.modArb f).pending = s.pending := rfl
@[simp] theorem State.modArb_powerOns (s : State) (f : Arbiter → Arbiter) : (s.modArb f).powerOns = s.powerOns := rfl
@[simp] theorem State.modArb_nextTicket (s : State) (f : Arbiter → Arbiter) : (s.modArb f).nextTicket = s.nextTicket := rfl
@[simp] theorem State.modArb_size (s : State) (f : Arbiter → Arbiter) : (s.modArb f).size = s.size := rfl
@[simp] theorem State.modArb_store (s : State) (f : Arbiter → Arbiter) : (s.modArb f).store = s.store := rfl
@[simp] theorem State.modArb_ctl (s : State) (f : Arbiter → Arbiter) : (s.modArb f).ctl = s.ctl := rfl
@[simp] theorem State.modArb_arb (s : State) (f : Arbiter → Arbiter) : (s.modArb f).arb = f s.arb := rfl
@[simp] theorem State.modArb_map (s : State) (f : Arbiter → Arbiter) : (s.modArb f).map = s.map := rfl
@[simp] theorem State.modArb_adm (s : State) (f : Arbiter → Arbiter) : (s.modArb f).adm = s.adm := rfl
@[simp] theorem State.modArb_dir (s : State) (f : Arbiter → Arbiter) : (s.modArb f).dir = s.dir := rfl
@[simp] theorem State.modArb_intakes (s : State) (f : Arbiter → Arbiter) : (s.modArb f).intakes = s.intakes := rfl
@[simp] theorem State.modArb_disp (s : State) (f : Arbiter → Arbiter) : (s.modArb f).disp = s.disp := rfl
@[simp] theorem State.modArb_press (s : State) (f : Arbiter → Arbiter) : (s.modArb f).press = s.press := rfl
@[simp] theorem State.modArb_links (s : State) (f : Arbiter → Arbiter) : (s.modArb f).links = s.links := rfl

@[simp] theorem State.modDir_pending (s : State) (f : Directory → Directory) : (s.modDir f).pending = s.pending := rfl
@[simp] theorem State.modDir_powerOns (s : State) (f : Directory → Directory) : (s.modDir f).powerOns = s.powerOns := rfl
@[simp] theorem State.modDir_nextTicket (s : State) (f : Directory → Directory) : (s.modDir f).nextTicket = s.nextTicket := rfl
@[simp] theorem State.modDir_size (s : State) (f : Directory → Directory) : (s.modDir f).size = s.size := rfl
@[simp] theorem State.modDir_store (s : State) (f : Directory → Directory) : (s.modDir f).store = s.store := rfl
@[simp] theorem State.modDir_ctl (s : State) (f : Directory → Directory) : (s.modDir f).ctl = s.ctl := rfl
@[simp] theorem State.modDir_arb (s : State) (f : Directory → Directory) : (s.modDir f).arb = s.arb := rfl
@[simp] theorem State.modDir_map (s : State) (f : Directory → Directory) : (s.modDir f).map = s.map := rfl
@[simp] theorem State.modDir_adm (s : State) (f : Directory → Directory) : (s.modDir f).adm = s.adm := rfl
@[simp] theorem State.modDir_dir (s : State) (f : Directory → Directory) : (s.modDir f).dir = f s.dir := rfl
@[simp] theorem State.modDir_intakes (s : State) (f : Directory → Directory) : (s.modDir f).intakes = s.intakes := rfl
@[simp] theorem State.modDir_disp (s : State) (f : Directory → Directory) : (s.modDir f).disp = s.disp := rfl
@[simp] theorem State.modDir_press (s : State) (f : Directory → Directory) : (s.modDir f).press = s.press := rfl
@[simp] theorem State.modDir_links (s : State) (f : Directory → Directory) : (s.modDir f).links = s.links := rfl

@[simp] theorem State.modDisp_pending (s : State) (f : Dispatcher → Dispatcher) : (s.modDisp f).pending = s.pending := rfl
@[simp] theorem State.modDisp_powerOns (s : State) (f : Dispatcher → Dispatcher) : (s.modDisp f).powerOns = s.powerOns := rfl
@[simp] theorem State.modDisp_nextTicket (s : State) (f : Dispatcher → Dispatcher) : (s.modDisp f).nextTicket = s.nextTicket := rfl
@[simp] theorem State.modDisp_size (s : State) (f : Dispatcher → Dispatcher) : (s.modDisp f).size = s.size := rfl
@[simp] theorem State.modDisp_store (s : State) (f : Dispatcher → Dispatcher) : (s.modDisp f).store = s.store := rfl
@[simp] theorem State.modDisp_ctl (s : State) (f : Dispatcher → Dispatcher) : (s.modDisp f).ctl = s.ctl := rfl
@[simp] theorem State.modDisp_arb (s : State) (f : Dispatcher → Dispatcher) : (s.modDisp f).arb = s.arb := rfl
@[simp] theorem State.modDisp_map (s : State) (f : Dispatcher → Dispatcher) : (s.modDisp f).map = s.map := rfl
@[simp] theorem State.modDisp_adm (s : State) (f : Dispatcher → Dispatcher) : (s.modDisp f).adm = s.adm := rfl
@[simp] theorem State.modDisp_dir (s : State) (f : Dispatcher → Dispatcher) : (s.modDisp f).dir = s.dir := rfl
@[simp] theorem State.modDisp_intakes (s : State) (f : Dispatcher → Dispatcher) : (s.modDisp f).intakes = s.intakes := rfl
@[simp] theorem State.modDisp_disp (s : State) (f : Dispatcher → Dispatcher) : (s.modDisp f).disp = f s.disp := rfl
@[simp] theorem State.modDisp_press (s : State) (f : Dispatcher → Dispatcher) : (s.modDisp f).press = s.press := rfl
@[simp] theorem State.modDisp_links (s : State) (f : Dispatcher → Dispatcher) : (s.modDisp f).links = s.links := rfl

@[simp] theorem State.modAdm_pending (s : State) (f : Admission → Admission) : (s.modAdm f).pending = s.pending := rfl
@[simp] theorem State.modAdm_powerOns (s : State) (f : Admission → Admission) : (s.modAdm f).powerOns = s.powerOns := rfl
@[simp] theorem State.modAdm_nextTicket (s : State) (f : Admission → Admission) : (s.modAdm f).nextTicket = s.nextTicket := rfl
@[simp] theorem State.modAdm_size (s : State) (f : Admission → Admission) : (s.modAdm f).size = s.size := rfl
@[simp] theorem State.modAdm_store (s : State) (f : Admission → Admission) : (s.modAdm f).store = s.store := rfl
@[simp] theorem State.modAdm_ctl (s : State) (f : Admission → Admission) : (s.modAdm f).ctl = s.ctl := rfl
@[simp] theorem State.modAdm_arb (s : State) (f : Admission → Admission) : (s.modAdm f).arb = s.arb := rfl
@[simp] theorem State.modAdm_map (s : State) (f : Admission → Admission) : (s.modAdm f).map = s.map := rfl
@[simp] theorem State.modAdm_adm (s : State) (f : Admission → Admission) : (s.modAdm f).adm = f s.adm := rfl
@[simp] theorem State.modAdm_dir (s : State) (f : Admission → Admission) : (s.modAdm f).dir = s.dir := rfl
@[simp] theorem State.modAdm_intakes (s : State) (f : Admission → Admission) : (s.modAdm f).intakes = s.intakes := rfl
@[simp] theorem State.modAdm_disp (s : State) (f : Admission → Admission) : (s.modAdm f).disp = s.disp := rfl
@[simp] theorem State.modAdm_press (s : State) (f : Admission → Admission) : (s.modAdm f).press = s.press := rfl
@[simp] theorem State.modAdm_links (s : State) (f : Admission → Admission) : (s.modAdm f).links = s.links := rfl

@[simp] theorem State.modMap_pending (s : State) (f : ExtentMap → ExtentMap) : (s.modMap f).pending = s.pending := rfl
@[simp] theorem State.modMap_powerOns (s : State) (f : ExtentMap → ExtentMap) : (s.modMap f).powerOns = s.powerOns := rfl
@[simp] theorem State.modMap_nextTicket (s : State) (f : ExtentMap → ExtentMap) : (s.modMap f).nextTicket = s.nextTicket := rfl
@[simp] theorem State.modMap_size (s : State) (f : ExtentMap → ExtentMap) : (s.modMap f).size = s.size := rfl
@[simp] theorem State.modMap_store (s : State) (f : ExtentMap → ExtentMap) : (s.modMap f).store = s.store := rfl
@[simp] theorem State.modMap_ctl (s : State) (f : ExtentMap → ExtentMap) : (s.modMap f).ctl = s.ctl := rfl
@[simp] theorem State.modMap_arb (s : State) (f : ExtentMap → ExtentMap) : (s.modMap f).arb = s.arb := rfl
@[simp] theorem State.modMap_map (s : State) (f : ExtentMap → ExtentMap) : (s.modMap f).map = f s.map := rfl
@[simp] theorem State.modMap_adm (s : State) (f : ExtentMap → ExtentMap) : (s.modMap f).adm = s.adm := rfl
@[simp] theorem State.modMap_dir (s : State) (f : ExtentMap → ExtentMap) : (s.modMap f).dir = s.dir := rfl
@[simp] theorem State.modMap_intakes (s : State) (f : ExtentMap → ExtentMap) : (s.modMap f).intakes = s.intakes := rfl
@[simp] theorem State.modMap_disp (s : State) (f : ExtentMap → ExtentMap) : (s.modMap f).disp = s.disp := rfl
@[simp] theorem State.modMap_press (s : State) (f : ExtentMap → ExtentMap) : (s.modMap f).press = s.press := rfl
@[simp] theorem State.modMap_links (s : State) (f : ExtentMap → ExtentMap) : (s.modMap f).links = s.links := rfl

@[simp] theorem State.withPending_pending (s : State) (l : List Instr) : (s.withPending l).pending = l := rfl
@[simp] theorem State.withPending_powerOns (s : State) (l : List Instr) : (s.withPending l).powerOns = s.powerOns := rfl
@[simp] theorem State.withPending_nextTicket (s : State) (l : List Instr) : (s.withPending l).nextTicket = s.nextTicket := rfl
@[simp] theorem State.withPending_size (s : State) (l : List Instr) : (s.withPending l).size = s.size := rfl
@[simp] theorem State.withPending_store (s : State) (l : List Instr) : (s.withPending l).store = s.store := rfl
@[simp] theorem State.withPending_ctl (s : State) (l : List Instr) : (s.withPending l).ctl = s.ctl := rfl
@[simp] theorem State.withPending_arb (s : State) (l : List Instr) : (s.withPending l).arb = s.arb := rfl
@[simp] theorem State.withPending_map (s : State) (l : List Instr) : (s.withPending l).map = s.map := rfl
@[simp] theorem State.withPending_adm (s : State) (l : List Instr) : (s.withPending l).adm = s.adm := rfl
@[simp] theorem State.withPending_dir (s : State) (l : List Instr) : (s.withPending l).dir = s.dir := rfl
@[simp] theorem State.withPending_intakes (s : State) (l : List Instr) : (s.withPending l).intakes = s.intakes := rfl
@[simp] theorem State.withPending_disp (s : State) (l : List Instr) : (s.withPending l).disp = s.disp := rfl
@[simp] theorem State.withPending_press (s : State) (l : List Instr) : (s.withPending l).press = s.press := rfl
@[simp] theorem State.withPending_links (s : State) (l : List Instr) : (s.withPending l).links = s.links := rfl

/-! ## Readings of one block after an update of it -/

@[simp] theorem State.link_modLink_self (s : State) (x : Link) (f : LinkCtl → LinkCtl) :
    (s.modLink x f).link x = f (s.link x) := by
  simp [State.link]

@[simp] theorem State.link_modLink_other (s : State) (x : Link) (f : LinkCtl → LinkCtl) :
    (s.modLink x f).link (otherLink x) = s.link (otherLink x) := by
  simp [State.link]

@[simp] theorem State.intake_modIntake_self (s : State) (x : Link) (f : Intake → Intake) :
    (s.modIntake x f).intake x = f (s.intake x) := by
  simp [State.intake]

@[simp] theorem State.lane_setLane_self (s : State) (l : Lane) (v : LaneState) : (s.setLane l v).lane l = v := by
  simp [State.lane, State.setLane]

theorem State.lane_setLane_ne (s : State) {l m : Lane} (v : LaneState) (h : m ≠ l) :
    (s.setLane l v).lane m = s.lane m := by
  simp [State.lane, State.setLane, Four.get_set_ne _ _ h]

/-- Changing one page's record leaves every other page's. -/
theorem State.page_modPage_ne (s : State) {id other : Nat} (f : Page → Page) (h : other ≠ id)
    (hf : ∀ p, (f p).id = p.id) : (s.modPage id f).page other = s.page other := by
  unfold State.page State.modPage
  simp only [State.modDir_dir]
  induction s.dir.pages with
  | nil => rfl
  | cons p ps ih =>
    by_cases hp : p.id = id
    · have : ¬ p.id = other := fun e => h (e.symm.trans hp)
      have h2 : ¬ (f p).id = other := by rw [hf]; exact this
      simp [hp, beq_eq_false_iff_ne.mpr h2, ih, Ne.symm h]
    · by_cases ho : p.id = other
      · subst ho
        simp [hp]
      · simp [hp, ho, ih]

/-- The record of a page after a change to it. -/
theorem State.page_modPage_self (s : State) (id : Nat) (f : Page → Page) (hf : ∀ p, (f p).id = p.id) :
    (s.modPage id f).page id = (s.page id).map f := by
  unfold State.page State.modPage
  simp only [State.modDir_dir]
  induction s.dir.pages with
  | nil => rfl
  | cons p ps ih =>
    by_cases hp : p.id = id
    · have h2 : (f p).id = id := by rw [hf]; exact hp
      simp [hp, h2]
    · simp [hp, ih]

end Sys2Proof.Machine
end

