-- ==== Sys2Proof/Laws/Arbitrate.lean ====
section
/-!
SUPPORT. A grant decision (R129, R130): it changes the arbiter and the controller alone, and makes nothing while a
burst is in progress or the controller is not READY.
-/

-- One proof after another: the package as one text asks for more threads at once than the check allows.
set_option Elab.async false
set_option linter.unusedTactic false
set_option linter.unusedSimpArgs false
set_option linter.unreachableTactic false
namespace Sys2Proof.Machine

/-- The state but for the arbiter and the controller. -/
theorem State.startBurst_others (s : State) (b : Burst) :
    { s.startBurst b with arb := s.arb, ctl := s.ctl } = s := by
  unfold State.startBurst
  dsimp only
  split <;> rfl

theorem State.grantDecision_others (s : State) : { s.grantDecision with arb := s.arb, ctl := s.ctl } = s := by
  have start : ∀ (u : State) (b : Burst), { u with arb := s.arb, ctl := s.ctl } = s →
      { u.startBurst b with arb := s.arb, ctl := s.ctl } = s := by
    intro u b hu
    rw [← hu]
    unfold State.startBurst
    dsimp only
    split <;> rfl
  unfold State.grantDecision
  split
  · rfl
  · split
    · exact start _ _ rfl
    · split
      · exact start _ _ rfl
      · split
        · exact start _ _ rfl
        · split <;> rfl

/-- A decision changes the arbiter and the controller alone. -/
theorem State.arbitrate_others (s : State) : { s.arbitrate with arb := s.arb, ctl := s.ctl } = s := by
  unfold State.arbitrate
  split
  · exact s.grantDecision_others
  · rfl

/-- No decision while a burst is in progress (R129). -/
theorem State.arbitrate_of_burst {s : State} {b : Burst} (h : s.ctl.burst = some b) : s.arbitrate = s := by
  unfold State.arbitrate
  rw [if_neg]
  simp [h]

/-- No decision unless the controller is READY (R129). -/
theorem State.arbitrate_of_not_ready {s : State} (h : s.ctl.state ≠ .ready) : s.arbitrate = s := by
  unfold State.arbitrate
  rw [if_neg]
  simp [h]

/-- A decision made twice is made once (R129): after the first a burst is in progress, a refresh is being made, or the
store is free and nothing waits. -/
@[simp] theorem State.arbitrate_arbitrate (s : State) : s.arbitrate.arbitrate = s.arbitrate := by
  by_cases h : s.ctl.state = .ready ∧ s.ctl.burst = none
  · have hs : ∀ (t : State) (b : Burst), (t.startBurst b).arbitrate = t.startBurst b := by
      intro t b
      refine State.arbitrate_of_burst (b := b) ?_
      unfold State.startBurst
      dsimp only
      split <;> rfl
    have hr : ∀ t : State, t.grantRefresh.arbitrate = t.grantRefresh := by
      intro t
      refine State.arbitrate_of_not_ready ?_
      simp [State.grantRefresh]
    have ha : s.arbitrate = s.grantDecision := by rw [State.arbitrate, if_pos h]
    rw [ha]
    unfold State.grantDecision
    split
    · exact hr s
    · rename_i h8
      split
      · exact hs _ _
      · rename_i hu
        split
        · exact hs _ _
        · split
          · exact hs _ _
          · rename_i hg
            split
            · exact hr s
            · rename_i h0
              obtain ⟨t, ht⟩ : ∃ t, t = s.modArb fun a => { a with grant := .free, count := 0 } := ⟨_, rfl⟩
              have hc : t.ctl = s.ctl := by rw [ht]; rfl
              have hp : t.presented = s.presented := by
                rw [ht]
                funext r
                cases r <;> rfl
              have hu' : t.urgentBurst = none := by
                rw [← hu, ht]
                rw [ht] at hp
                unfold State.urgentBurst
                rw [hp]
                rfl
              have hg' : t.ringBurst = none := by
                rw [← hg, ht]
                rw [ht] at hp
                unfold State.ringBurst
                rw [hp]
                rfl
              have hr' : t.runBurst = none := by rw [ht]; rfl
              rw [← ht, State.arbitrate, hc, if_pos h]
              unfold State.grantDecision
              rw [hc, if_neg h8, hu', hr', hg']
              dsimp only
              rw [if_neg h0, ht]
              rfl
  · have ha : s.arbitrate = s := by rw [State.arbitrate, if_neg h]
    rw [ha, ha]

@[simp] theorem State.arbitrate_pending (s : State) : s.arbitrate.pending = s.pending := by
  have h := congrArg State.pending s.arbitrate_others
  exact h
@[simp] theorem State.arbitrate_powerOns (s : State) : s.arbitrate.powerOns = s.powerOns := by
  have h := congrArg State.powerOns s.arbitrate_others
  exact h
@[simp] theorem State.arbitrate_nextTicket (s : State) : s.arbitrate.nextTicket = s.nextTicket := by
  have h := congrArg State.nextTicket s.arbitrate_others
  exact h
@[simp] theorem State.arbitrate_size (s : State) : s.arbitrate.size = s.size := by
  have h := congrArg State.size s.arbitrate_others
  exact h
@[simp] theorem State.arbitrate_store (s : State) : s.arbitrate.store = s.store := by
  have h := congrArg State.store s.arbitrate_others
  exact h
@[simp] theorem State.arbitrate_map (s : State) : s.arbitrate.map = s.map := by
  have h := congrArg State.map s.arbitrate_others
  exact h
@[simp] theorem State.arbitrate_adm (s : State) : s.arbitrate.adm = s.adm := by
  have h := congrArg State.adm s.arbitrate_others
  exact h
@[simp] theorem State.arbitrate_dir (s : State) : s.arbitrate.dir = s.dir := by
  have h := congrArg State.dir s.arbitrate_others
  exact h
@[simp] theorem State.arbitrate_intakes (s : State) : s.arbitrate.intakes = s.intakes := by
  have h := congrArg State.intakes s.arbitrate_others
  exact h
@[simp] theorem State.arbitrate_disp (s : State) : s.arbitrate.disp = s.disp := by
  have h := congrArg State.disp s.arbitrate_others
  exact h
@[simp] theorem State.arbitrate_press (s : State) : s.arbitrate.press = s.press := by
  have h := congrArg State.press s.arbitrate_others
  exact h
@[simp] theorem State.arbitrate_links (s : State) : s.arbitrate.links = s.links := by
  have h := congrArg State.links s.arbitrate_others
  exact h

@[simp] theorem State.arbitrate_link (s : State) (x : Link) : s.arbitrate.link x = s.link x := by
  simp [State.link]

@[simp] theorem State.arbitrate_page (s : State) (id : Nat) : s.arbitrate.page id = s.page id := by
  simp [State.page]

@[simp] theorem State.arbitrate_runLimit (s : State) : s.arbitrate.arb.runLimit = s.arb.runLimit := by
  unfold State.arbitrate State.grantDecision State.grantRefresh State.grantUrgent State.extendRun State.grantRun
    State.startBurst
  dsimp only
  repeat' split
  all_goals rfl

end Sys2Proof.Machine
end

