-- ==== Sys2Proof/Laws/Links.lean ====
section
/-!
SUPPORT. The link controller's small operations: one lemma for each field that each of them leaves, and what placing
a frame does to the order of the queue (R175).
-/

-- One proof after another: the package as one text asks for more threads at once than the check allows.
set_option Elab.async false
set_option linter.unusedTactic false
set_option linter.unusedSimpArgs false
set_option linter.unreachableTactic false
namespace Sys2Proof.Machine

@[simp] theorem LinkCtl.startSend_rx (c : LinkCtl) : (LinkCtl.startSend c).rx = c.rx := by
  unfold LinkCtl.startSend
  repeat' split
  all_goals rfl
@[simp] theorem LinkCtl.startSend_replyUse (c : LinkCtl) : (LinkCtl.startSend c).replyUse = c.replyUse := by
  unfold LinkCtl.startSend
  repeat' split
  all_goals rfl
@[simp] theorem LinkCtl.startSend_long (c : LinkCtl) : (LinkCtl.startSend c).long = c.long := by
  unfold LinkCtl.startSend
  repeat' split
  all_goals rfl
@[simp] theorem LinkCtl.startSend_hold (c : LinkCtl) : (LinkCtl.startSend c).hold = c.hold := by
  unfold LinkCtl.startSend
  repeat' split
  all_goals rfl
@[simp] theorem LinkCtl.startSend_holdTimer (c : LinkCtl) : (LinkCtl.startSend c).holdTimer = c.holdTimer := by
  unfold LinkCtl.startSend
  repeat' split
  all_goals rfl
@[simp] theorem LinkCtl.startSend_streams (c : LinkCtl) : (LinkCtl.startSend c).streams = c.streams := by
  unfold LinkCtl.startSend
  repeat' split
  all_goals rfl
@[simp] theorem LinkCtl.startSend_turn (c : LinkCtl) : (LinkCtl.startSend c).turn = c.turn := by
  unfold LinkCtl.startSend
  repeat' split
  all_goals rfl
@[simp] theorem LinkCtl.startSend_flags (c : LinkCtl) : (LinkCtl.startSend c).flags = c.flags := by
  unfold LinkCtl.startSend
  repeat' split
  all_goals rfl
@[simp] theorem LinkCtl.startSend_framesDiscarded (c : LinkCtl) : (LinkCtl.startSend c).framesDiscarded = c.framesDiscarded := by
  unfold LinkCtl.startSend
  repeat' split
  all_goals rfl
@[simp] theorem LinkCtl.startSend_noticesDiscarded (c : LinkCtl) : (LinkCtl.startSend c).noticesDiscarded = c.noticesDiscarded := by
  unfold LinkCtl.startSend
  repeat' split
  all_goals rfl
@[simp] theorem LinkCtl.startSend_filling (c : LinkCtl) : (LinkCtl.startSend c).filling = c.filling := by
  unfold LinkCtl.startSend
  repeat' split
  all_goals rfl
@[simp] theorem LinkCtl.startSend_recordReads (c : LinkCtl) : (LinkCtl.startSend c).recordReads = c.recordReads := by
  unfold LinkCtl.startSend
  repeat' split
  all_goals rfl
@[simp] theorem LinkCtl.startSend_resetting (c : LinkCtl) : (LinkCtl.startSend c).resetting = c.resetting := by
  unfold LinkCtl.startSend
  repeat' split
  all_goals rfl
@[simp] theorem LinkCtl.startSend_waiters (c : LinkCtl) : (LinkCtl.startSend c).waiters = c.waiters := by
  unfold LinkCtl.startSend
  repeat' split
  all_goals rfl

@[simp] theorem LinkCtl.noteWait_rx (c : LinkCtl) : (LinkCtl.noteWait c).rx = c.rx := by
  unfold LinkCtl.noteWait
  repeat' split
  all_goals rfl
@[simp] theorem LinkCtl.noteWait_replyUse (c : LinkCtl) : (LinkCtl.noteWait c).replyUse = c.replyUse := by
  unfold LinkCtl.noteWait
  repeat' split
  all_goals rfl
@[simp] theorem LinkCtl.noteWait_long (c : LinkCtl) : (LinkCtl.noteWait c).long = c.long := by
  unfold LinkCtl.noteWait
  repeat' split
  all_goals rfl
@[simp] theorem LinkCtl.noteWait_hold (c : LinkCtl) : (LinkCtl.noteWait c).hold = c.hold := by
  unfold LinkCtl.noteWait
  repeat' split
  all_goals rfl
@[simp] theorem LinkCtl.noteWait_holdTimer (c : LinkCtl) : (LinkCtl.noteWait c).holdTimer = c.holdTimer := by
  unfold LinkCtl.noteWait
  repeat' split
  all_goals rfl
@[simp] theorem LinkCtl.noteWait_streams (c : LinkCtl) : (LinkCtl.noteWait c).streams = c.streams := by
  unfold LinkCtl.noteWait
  repeat' split
  all_goals rfl
@[simp] theorem LinkCtl.noteWait_turn (c : LinkCtl) : (LinkCtl.noteWait c).turn = c.turn := by
  unfold LinkCtl.noteWait
  repeat' split
  all_goals rfl
@[simp] theorem LinkCtl.noteWait_flags (c : LinkCtl) : (LinkCtl.noteWait c).flags = c.flags := by
  unfold LinkCtl.noteWait
  repeat' split
  all_goals rfl
@[simp] theorem LinkCtl.noteWait_framesDiscarded (c : LinkCtl) : (LinkCtl.noteWait c).framesDiscarded = c.framesDiscarded := by
  unfold LinkCtl.noteWait
  repeat' split
  all_goals rfl
@[simp] theorem LinkCtl.noteWait_noticesDiscarded (c : LinkCtl) : (LinkCtl.noteWait c).noticesDiscarded = c.noticesDiscarded := by
  unfold LinkCtl.noteWait
  repeat' split
  all_goals rfl
@[simp] theorem LinkCtl.noteWait_filling (c : LinkCtl) : (LinkCtl.noteWait c).filling = c.filling := by
  unfold LinkCtl.noteWait
  repeat' split
  all_goals rfl
@[simp] theorem LinkCtl.noteWait_recordReads (c : LinkCtl) : (LinkCtl.noteWait c).recordReads = c.recordReads := by
  unfold LinkCtl.noteWait
  repeat' split
  all_goals rfl
@[simp] theorem LinkCtl.noteWait_resetting (c : LinkCtl) : (LinkCtl.noteWait c).resetting = c.resetting := by
  unfold LinkCtl.noteWait
  repeat' split
  all_goals rfl
@[simp] theorem LinkCtl.noteWait_out (c : LinkCtl) : (LinkCtl.noteWait c).out = c.out := by
  unfold LinkCtl.noteWait
  repeat' split
  all_goals rfl
@[simp] theorem LinkCtl.noteWait_sending (c : LinkCtl) : (LinkCtl.noteWait c).sending = c.sending := by
  unfold LinkCtl.noteWait
  repeat' split
  all_goals rfl

@[simp] theorem LinkCtl.place_rx (c : LinkCtl) (f : OutFrame): (LinkCtl.place f c).rx = c.rx := by
  simp [LinkCtl.place]
@[simp] theorem LinkCtl.place_replyUse (c : LinkCtl) (f : OutFrame): (LinkCtl.place f c).replyUse = c.replyUse := by
  simp [LinkCtl.place]
@[simp] theorem LinkCtl.place_long (c : LinkCtl) (f : OutFrame): (LinkCtl.place f c).long = c.long := by
  simp [LinkCtl.place]
@[simp] theorem LinkCtl.place_hold (c : LinkCtl) (f : OutFrame): (LinkCtl.place f c).hold = c.hold := by
  simp [LinkCtl.place]
@[simp] theorem LinkCtl.place_holdTimer (c : LinkCtl) (f : OutFrame): (LinkCtl.place f c).holdTimer = c.holdTimer := by
  simp [LinkCtl.place]
@[simp] theorem LinkCtl.place_streams (c : LinkCtl) (f : OutFrame): (LinkCtl.place f c).streams = c.streams := by
  simp [LinkCtl.place]
@[simp] theorem LinkCtl.place_turn (c : LinkCtl) (f : OutFrame): (LinkCtl.place f c).turn = c.turn := by
  simp [LinkCtl.place]
@[simp] theorem LinkCtl.place_flags (c : LinkCtl) (f : OutFrame): (LinkCtl.place f c).flags = c.flags := by
  simp [LinkCtl.place]
@[simp] theorem LinkCtl.place_framesDiscarded (c : LinkCtl) (f : OutFrame): (LinkCtl.place f c).framesDiscarded = c.framesDiscarded := by
  simp [LinkCtl.place]
@[simp] theorem LinkCtl.place_noticesDiscarded (c : LinkCtl) (f : OutFrame): (LinkCtl.place f c).noticesDiscarded = c.noticesDiscarded := by
  simp [LinkCtl.place]
@[simp] theorem LinkCtl.place_filling (c : LinkCtl) (f : OutFrame): (LinkCtl.place f c).filling = c.filling := by
  simp [LinkCtl.place]
@[simp] theorem LinkCtl.place_recordReads (c : LinkCtl) (f : OutFrame): (LinkCtl.place f c).recordReads = c.recordReads := by
  simp [LinkCtl.place]
@[simp] theorem LinkCtl.place_resetting (c : LinkCtl) (f : OutFrame): (LinkCtl.place f c).resetting = c.resetting := by
  simp [LinkCtl.place]

@[simp] theorem LinkCtl.placeNotice_rx (c : LinkCtl) (n : Notice): (LinkCtl.placeNotice n c).rx = c.rx := by
  unfold LinkCtl.placeNotice
  split <;> simp
@[simp] theorem LinkCtl.placeNotice_replyUse (c : LinkCtl) (n : Notice): (LinkCtl.placeNotice n c).replyUse = c.replyUse := by
  unfold LinkCtl.placeNotice
  split <;> simp
@[simp] theorem LinkCtl.placeNotice_long (c : LinkCtl) (n : Notice): (LinkCtl.placeNotice n c).long = c.long := by
  unfold LinkCtl.placeNotice
  split <;> simp
@[simp] theorem LinkCtl.placeNotice_hold (c : LinkCtl) (n : Notice): (LinkCtl.placeNotice n c).hold = c.hold := by
  unfold LinkCtl.placeNotice
  split <;> simp
@[simp] theorem LinkCtl.placeNotice_holdTimer (c : LinkCtl) (n : Notice): (LinkCtl.placeNotice n c).holdTimer = c.holdTimer := by
  unfold LinkCtl.placeNotice
  split <;> simp
@[simp] theorem LinkCtl.placeNotice_streams (c : LinkCtl) (n : Notice): (LinkCtl.placeNotice n c).streams = c.streams := by
  unfold LinkCtl.placeNotice
  split <;> simp
@[simp] theorem LinkCtl.placeNotice_turn (c : LinkCtl) (n : Notice): (LinkCtl.placeNotice n c).turn = c.turn := by
  unfold LinkCtl.placeNotice
  split <;> simp
@[simp] theorem LinkCtl.placeNotice_flags (c : LinkCtl) (n : Notice): (LinkCtl.placeNotice n c).flags = c.flags := by
  unfold LinkCtl.placeNotice
  split <;> simp
@[simp] theorem LinkCtl.placeNotice_framesDiscarded (c : LinkCtl) (n : Notice): (LinkCtl.placeNotice n c).framesDiscarded = c.framesDiscarded := by
  unfold LinkCtl.placeNotice
  split <;> simp
@[simp] theorem LinkCtl.placeNotice_filling (c : LinkCtl) (n : Notice): (LinkCtl.placeNotice n c).filling = c.filling := by
  unfold LinkCtl.placeNotice
  split <;> simp
@[simp] theorem LinkCtl.placeNotice_recordReads (c : LinkCtl) (n : Notice): (LinkCtl.placeNotice n c).recordReads = c.recordReads := by
  unfold LinkCtl.placeNotice
  split <;> simp
@[simp] theorem LinkCtl.placeNotice_resetting (c : LinkCtl) (n : Notice): (LinkCtl.placeNotice n c).resetting = c.resetting := by
  unfold LinkCtl.placeNotice
  split <;> simp

@[simp] theorem LinkCtl.endHold_rx (c : LinkCtl) : (LinkCtl.endHold c).rx = c.rx := by
  unfold LinkCtl.endHold
  split <;> simp
@[simp] theorem LinkCtl.endHold_replyUse (c : LinkCtl) : (LinkCtl.endHold c).replyUse = c.replyUse := by
  unfold LinkCtl.endHold
  split <;> simp
@[simp] theorem LinkCtl.endHold_long (c : LinkCtl) : (LinkCtl.endHold c).long = c.long := by
  unfold LinkCtl.endHold
  split <;> simp
@[simp] theorem LinkCtl.endHold_streams (c : LinkCtl) : (LinkCtl.endHold c).streams = c.streams := by
  unfold LinkCtl.endHold
  split <;> simp
@[simp] theorem LinkCtl.endHold_turn (c : LinkCtl) : (LinkCtl.endHold c).turn = c.turn := by
  unfold LinkCtl.endHold
  split <;> simp
@[simp] theorem LinkCtl.endHold_flags (c : LinkCtl) : (LinkCtl.endHold c).flags = c.flags := by
  unfold LinkCtl.endHold
  split <;> simp
@[simp] theorem LinkCtl.endHold_framesDiscarded (c : LinkCtl) : (LinkCtl.endHold c).framesDiscarded = c.framesDiscarded := by
  unfold LinkCtl.endHold
  split <;> simp
@[simp] theorem LinkCtl.endHold_noticesDiscarded (c : LinkCtl) : (LinkCtl.endHold c).noticesDiscarded = c.noticesDiscarded := by
  unfold LinkCtl.endHold
  split <;> simp
@[simp] theorem LinkCtl.endHold_filling (c : LinkCtl) : (LinkCtl.endHold c).filling = c.filling := by
  unfold LinkCtl.endHold
  split <;> simp
@[simp] theorem LinkCtl.endHold_recordReads (c : LinkCtl) : (LinkCtl.endHold c).recordReads = c.recordReads := by
  unfold LinkCtl.endHold
  split <;> simp
@[simp] theorem LinkCtl.endHold_resetting (c : LinkCtl) : (LinkCtl.endHold c).resetting = c.resetting := by
  unfold LinkCtl.endHold
  split <;> simp
@[simp] theorem LinkCtl.endHold_waiters (c : LinkCtl) : (LinkCtl.endHold c).waiters = c.waiters := by
  unfold LinkCtl.endHold
  split <;> simp

@[simp] theorem LinkCtl.dropStream_rx (c : LinkCtl) (k : Nat): (LinkCtl.dropStream k c).rx = c.rx := by
  simp [LinkCtl.dropStream]
@[simp] theorem LinkCtl.dropStream_replyUse (c : LinkCtl) (k : Nat): (LinkCtl.dropStream k c).replyUse = c.replyUse := by
  simp [LinkCtl.dropStream]
@[simp] theorem LinkCtl.dropStream_long (c : LinkCtl) (k : Nat): (LinkCtl.dropStream k c).long = c.long := by
  simp [LinkCtl.dropStream]
@[simp] theorem LinkCtl.dropStream_hold (c : LinkCtl) (k : Nat): (LinkCtl.dropStream k c).hold = c.hold := by
  simp [LinkCtl.dropStream]
@[simp] theorem LinkCtl.dropStream_holdTimer (c : LinkCtl) (k : Nat): (LinkCtl.dropStream k c).holdTimer = c.holdTimer := by
  simp [LinkCtl.dropStream]
@[simp] theorem LinkCtl.dropStream_turn (c : LinkCtl) (k : Nat): (LinkCtl.dropStream k c).turn = c.turn := by
  simp [LinkCtl.dropStream]
@[simp] theorem LinkCtl.dropStream_flags (c : LinkCtl) (k : Nat): (LinkCtl.dropStream k c).flags = c.flags := by
  simp [LinkCtl.dropStream]
@[simp] theorem LinkCtl.dropStream_framesDiscarded (c : LinkCtl) (k : Nat): (LinkCtl.dropStream k c).framesDiscarded = c.framesDiscarded := by
  simp [LinkCtl.dropStream]
@[simp] theorem LinkCtl.dropStream_noticesDiscarded (c : LinkCtl) (k : Nat): (LinkCtl.dropStream k c).noticesDiscarded = c.noticesDiscarded := by
  simp [LinkCtl.dropStream]
@[simp] theorem LinkCtl.dropStream_filling (c : LinkCtl) (k : Nat): (LinkCtl.dropStream k c).filling = c.filling := by
  simp [LinkCtl.dropStream]
@[simp] theorem LinkCtl.dropStream_recordReads (c : LinkCtl) (k : Nat): (LinkCtl.dropStream k c).recordReads = c.recordReads := by
  simp [LinkCtl.dropStream]
@[simp] theorem LinkCtl.dropStream_resetting (c : LinkCtl) (k : Nat): (LinkCtl.dropStream k c).resetting = c.resetting := by
  simp [LinkCtl.dropStream]
@[simp] theorem LinkCtl.dropStream_out (c : LinkCtl) (k : Nat): (LinkCtl.dropStream k c).out = c.out := by
  simp [LinkCtl.dropStream]
@[simp] theorem LinkCtl.dropStream_sending (c : LinkCtl) (k : Nat): (LinkCtl.dropStream k c).sending = c.sending := by
  simp [LinkCtl.dropStream]

@[simp] theorem LinkCtl.setStream_rx (c : LinkCtl) (st : Stream): (LinkCtl.setStream st c).rx = c.rx := rfl
@[simp] theorem LinkCtl.setStream_replyUse (c : LinkCtl) (st : Stream): (LinkCtl.setStream st c).replyUse = c.replyUse := rfl
@[simp] theorem LinkCtl.setStream_long (c : LinkCtl) (st : Stream): (LinkCtl.setStream st c).long = c.long := rfl
@[simp] theorem LinkCtl.setStream_hold (c : LinkCtl) (st : Stream): (LinkCtl.setStream st c).hold = c.hold := rfl
@[simp] theorem LinkCtl.setStream_holdTimer (c : LinkCtl) (st : Stream): (LinkCtl.setStream st c).holdTimer = c.holdTimer := rfl
@[simp] theorem LinkCtl.setStream_turn (c : LinkCtl) (st : Stream): (LinkCtl.setStream st c).turn = c.turn := rfl
@[simp] theorem LinkCtl.setStream_flags (c : LinkCtl) (st : Stream): (LinkCtl.setStream st c).flags = c.flags := rfl
@[simp] theorem LinkCtl.setStream_framesDiscarded (c : LinkCtl) (st : Stream): (LinkCtl.setStream st c).framesDiscarded = c.framesDiscarded := rfl
@[simp] theorem LinkCtl.setStream_noticesDiscarded (c : LinkCtl) (st : Stream): (LinkCtl.setStream st c).noticesDiscarded = c.noticesDiscarded := rfl
@[simp] theorem LinkCtl.setStream_filling (c : LinkCtl) (st : Stream): (LinkCtl.setStream st c).filling = c.filling := rfl
@[simp] theorem LinkCtl.setStream_recordReads (c : LinkCtl) (st : Stream): (LinkCtl.setStream st c).recordReads = c.recordReads := rfl
@[simp] theorem LinkCtl.setStream_resetting (c : LinkCtl) (st : Stream): (LinkCtl.setStream st c).resetting = c.resetting := rfl
@[simp] theorem LinkCtl.setStream_out (c : LinkCtl) (st : Stream): (LinkCtl.setStream st c).out = c.out := rfl
@[simp] theorem LinkCtl.setStream_sending (c : LinkCtl) (st : Stream): (LinkCtl.setStream st c).sending = c.sending := rfl
@[simp] theorem LinkCtl.setStream_waiters (c : LinkCtl) (st : Stream): (LinkCtl.setStream st c).waiters = c.waiters := rfl

@[simp] theorem LinkCtl.holdFor_rx (c : LinkCtl) (t : Nat): (LinkCtl.holdFor t c).rx = c.rx := rfl
@[simp] theorem LinkCtl.holdFor_replyUse (c : LinkCtl) (t : Nat): (LinkCtl.holdFor t c).replyUse = c.replyUse := rfl
@[simp] theorem LinkCtl.holdFor_long (c : LinkCtl) (t : Nat): (LinkCtl.holdFor t c).long = c.long := rfl
@[simp] theorem LinkCtl.holdFor_streams (c : LinkCtl) (t : Nat): (LinkCtl.holdFor t c).streams = c.streams := rfl
@[simp] theorem LinkCtl.holdFor_turn (c : LinkCtl) (t : Nat): (LinkCtl.holdFor t c).turn = c.turn := rfl
@[simp] theorem LinkCtl.holdFor_flags (c : LinkCtl) (t : Nat): (LinkCtl.holdFor t c).flags = c.flags := rfl
@[simp] theorem LinkCtl.holdFor_framesDiscarded (c : LinkCtl) (t : Nat): (LinkCtl.holdFor t c).framesDiscarded = c.framesDiscarded := rfl
@[simp] theorem LinkCtl.holdFor_noticesDiscarded (c : LinkCtl) (t : Nat): (LinkCtl.holdFor t c).noticesDiscarded = c.noticesDiscarded := rfl
@[simp] theorem LinkCtl.holdFor_filling (c : LinkCtl) (t : Nat): (LinkCtl.holdFor t c).filling = c.filling := rfl
@[simp] theorem LinkCtl.holdFor_recordReads (c : LinkCtl) (t : Nat): (LinkCtl.holdFor t c).recordReads = c.recordReads := rfl
@[simp] theorem LinkCtl.holdFor_resetting (c : LinkCtl) (t : Nat): (LinkCtl.holdFor t c).resetting = c.resetting := rfl
@[simp] theorem LinkCtl.holdFor_out (c : LinkCtl) (t : Nat): (LinkCtl.holdFor t c).out = c.out := rfl
@[simp] theorem LinkCtl.holdFor_sending (c : LinkCtl) (t : Nat): (LinkCtl.holdFor t c).sending = c.sending := rfl
@[simp] theorem LinkCtl.holdFor_waiters (c : LinkCtl) (t : Nat): (LinkCtl.holdFor t c).waiters = c.waiters := rfl

@[simp] theorem LinkCtl.noteOverrun_rx (c : LinkCtl) : (LinkCtl.noteOverrun c).rx = c.rx := rfl
@[simp] theorem LinkCtl.noteOverrun_replyUse (c : LinkCtl) : (LinkCtl.noteOverrun c).replyUse = c.replyUse := rfl
@[simp] theorem LinkCtl.noteOverrun_long (c : LinkCtl) : (LinkCtl.noteOverrun c).long = c.long := rfl
@[simp] theorem LinkCtl.noteOverrun_hold (c : LinkCtl) : (LinkCtl.noteOverrun c).hold = c.hold := rfl
@[simp] theorem LinkCtl.noteOverrun_holdTimer (c : LinkCtl) : (LinkCtl.noteOverrun c).holdTimer = c.holdTimer := rfl
@[simp] theorem LinkCtl.noteOverrun_streams (c : LinkCtl) : (LinkCtl.noteOverrun c).streams = c.streams := rfl
@[simp] theorem LinkCtl.noteOverrun_turn (c : LinkCtl) : (LinkCtl.noteOverrun c).turn = c.turn := rfl
@[simp] theorem LinkCtl.noteOverrun_noticesDiscarded (c : LinkCtl) : (LinkCtl.noteOverrun c).noticesDiscarded = c.noticesDiscarded := rfl
@[simp] theorem LinkCtl.noteOverrun_filling (c : LinkCtl) : (LinkCtl.noteOverrun c).filling = c.filling := rfl
@[simp] theorem LinkCtl.noteOverrun_recordReads (c : LinkCtl) : (LinkCtl.noteOverrun c).recordReads = c.recordReads := rfl
@[simp] theorem LinkCtl.noteOverrun_resetting (c : LinkCtl) : (LinkCtl.noteOverrun c).resetting = c.resetting := rfl
@[simp] theorem LinkCtl.noteOverrun_out (c : LinkCtl) : (LinkCtl.noteOverrun c).out = c.out := rfl
@[simp] theorem LinkCtl.noteOverrun_sending (c : LinkCtl) : (LinkCtl.noteOverrun c).sending = c.sending := rfl
@[simp] theorem LinkCtl.noteOverrun_waiters (c : LinkCtl) : (LinkCtl.noteOverrun c).waiters = c.waiters := rfl

@[simp] theorem LinkCtl.noteFrameCheck_rx (c : LinkCtl) : (LinkCtl.noteFrameCheck c).rx = c.rx := rfl
@[simp] theorem LinkCtl.noteFrameCheck_replyUse (c : LinkCtl) : (LinkCtl.noteFrameCheck c).replyUse = c.replyUse := rfl
@[simp] theorem LinkCtl.noteFrameCheck_long (c : LinkCtl) : (LinkCtl.noteFrameCheck c).long = c.long := rfl
@[simp] theorem LinkCtl.noteFrameCheck_hold (c : LinkCtl) : (LinkCtl.noteFrameCheck c).hold = c.hold := rfl
@[simp] theorem LinkCtl.noteFrameCheck_holdTimer (c : LinkCtl) : (LinkCtl.noteFrameCheck c).holdTimer = c.holdTimer := rfl
@[simp] theorem LinkCtl.noteFrameCheck_streams (c : LinkCtl) : (LinkCtl.noteFrameCheck c).streams = c.streams := rfl
@[simp] theorem LinkCtl.noteFrameCheck_turn (c : LinkCtl) : (LinkCtl.noteFrameCheck c).turn = c.turn := rfl
@[simp] theorem LinkCtl.noteFrameCheck_noticesDiscarded (c : LinkCtl) : (LinkCtl.noteFrameCheck c).noticesDiscarded = c.noticesDiscarded := rfl
@[simp] theorem LinkCtl.noteFrameCheck_filling (c : LinkCtl) : (LinkCtl.noteFrameCheck c).filling = c.filling := rfl
@[simp] theorem LinkCtl.noteFrameCheck_recordReads (c : LinkCtl) : (LinkCtl.noteFrameCheck c).recordReads = c.recordReads := rfl
@[simp] theorem LinkCtl.noteFrameCheck_resetting (c : LinkCtl) : (LinkCtl.noteFrameCheck c).resetting = c.resetting := rfl
@[simp] theorem LinkCtl.noteFrameCheck_out (c : LinkCtl) : (LinkCtl.noteFrameCheck c).out = c.out := rfl
@[simp] theorem LinkCtl.noteFrameCheck_sending (c : LinkCtl) : (LinkCtl.noteFrameCheck c).sending = c.sending := rfl
@[simp] theorem LinkCtl.noteFrameCheck_waiters (c : LinkCtl) : (LinkCtl.noteFrameCheck c).waiters = c.waiters := rfl

@[simp] theorem LinkCtl.clearStatus_rx (c : LinkCtl) : (LinkCtl.clearStatus c).rx = c.rx := rfl
@[simp] theorem LinkCtl.clearStatus_replyUse (c : LinkCtl) : (LinkCtl.clearStatus c).replyUse = c.replyUse := rfl
@[simp] theorem LinkCtl.clearStatus_long (c : LinkCtl) : (LinkCtl.clearStatus c).long = c.long := rfl
@[simp] theorem LinkCtl.clearStatus_hold (c : LinkCtl) : (LinkCtl.clearStatus c).hold = c.hold := rfl
@[simp] theorem LinkCtl.clearStatus_holdTimer (c : LinkCtl) : (LinkCtl.clearStatus c).holdTimer = c.holdTimer := rfl
@[simp] theorem LinkCtl.clearStatus_streams (c : LinkCtl) : (LinkCtl.clearStatus c).streams = c.streams := rfl
@[simp] theorem LinkCtl.clearStatus_turn (c : LinkCtl) : (LinkCtl.clearStatus c).turn = c.turn := rfl
@[simp] theorem LinkCtl.clearStatus_filling (c : LinkCtl) : (LinkCtl.clearStatus c).filling = c.filling := rfl
@[simp] theorem LinkCtl.clearStatus_recordReads (c : LinkCtl) : (LinkCtl.clearStatus c).recordReads = c.recordReads := rfl
@[simp] theorem LinkCtl.clearStatus_resetting (c : LinkCtl) : (LinkCtl.clearStatus c).resetting = c.resetting := rfl
@[simp] theorem LinkCtl.clearStatus_out (c : LinkCtl) : (LinkCtl.clearStatus c).out = c.out := rfl
@[simp] theorem LinkCtl.clearStatus_sending (c : LinkCtl) : (LinkCtl.clearStatus c).sending = c.sending := rfl
@[simp] theorem LinkCtl.clearStatus_waiters (c : LinkCtl) : (LinkCtl.clearStatus c).waiters = c.waiters := rfl

@[simp] theorem LinkCtl.sent_rx (c : LinkCtl) (f : OutFrame): (LinkCtl.sent f c).rx = c.rx := by
  simp [LinkCtl.sent]
@[simp] theorem LinkCtl.sent_long (c : LinkCtl) (f : OutFrame): (LinkCtl.sent f c).long = c.long := by
  simp [LinkCtl.sent]
@[simp] theorem LinkCtl.sent_hold (c : LinkCtl) (f : OutFrame): (LinkCtl.sent f c).hold = c.hold := by
  simp [LinkCtl.sent]
@[simp] theorem LinkCtl.sent_holdTimer (c : LinkCtl) (f : OutFrame): (LinkCtl.sent f c).holdTimer = c.holdTimer := by
  simp [LinkCtl.sent]
@[simp] theorem LinkCtl.sent_streams (c : LinkCtl) (f : OutFrame): (LinkCtl.sent f c).streams = c.streams := by
  simp [LinkCtl.sent]
@[simp] theorem LinkCtl.sent_turn (c : LinkCtl) (f : OutFrame): (LinkCtl.sent f c).turn = c.turn := by
  simp [LinkCtl.sent]
@[simp] theorem LinkCtl.sent_flags (c : LinkCtl) (f : OutFrame): (LinkCtl.sent f c).flags = c.flags := by
  simp [LinkCtl.sent]
@[simp] theorem LinkCtl.sent_framesDiscarded (c : LinkCtl) (f : OutFrame): (LinkCtl.sent f c).framesDiscarded = c.framesDiscarded := by
  simp [LinkCtl.sent]
@[simp] theorem LinkCtl.sent_noticesDiscarded (c : LinkCtl) (f : OutFrame): (LinkCtl.sent f c).noticesDiscarded = c.noticesDiscarded := by
  simp [LinkCtl.sent]
@[simp] theorem LinkCtl.sent_filling (c : LinkCtl) (f : OutFrame): (LinkCtl.sent f c).filling = c.filling := by
  simp [LinkCtl.sent]
@[simp] theorem LinkCtl.sent_recordReads (c : LinkCtl) (f : OutFrame): (LinkCtl.sent f c).recordReads = c.recordReads := by
  simp [LinkCtl.sent]
@[simp] theorem LinkCtl.sent_resetting (c : LinkCtl) (f : OutFrame): (LinkCtl.sent f c).resetting = c.resetting := by
  simp [LinkCtl.sent]
@[simp] theorem LinkCtl.sent_waiters (c : LinkCtl) (f : OutFrame): (LinkCtl.sent f c).waiters = c.waiters := by
  simp [LinkCtl.sent]

/-- The frames of a link in the order they will be sent while hold is not in force: the one being sent, then the
queue. -/
def LinkCtl.line (c : LinkCtl) : List OutFrame := c.sending.toList ++ c.out

/-- Beginning to send does not change that order. -/
theorem LinkCtl.line_startSend {c : LinkCtl} (h : c.hold = false) : c.startSend.line = c.line := by
  unfold LinkCtl.startSend LinkCtl.line LinkCtl.pickSend
  cases hs : c.sending with
  | none => cases ho : c.out <;> simp [h, hs, ho]
  | some f => simp [hs]

@[simp] theorem LinkCtl.line_noteWait (c : LinkCtl) : c.noteWait.line = c.line := by simp [LinkCtl.line]

/-- A frame placed while hold is not in force stands last. -/
theorem LinkCtl.line_place {c : LinkCtl} (f : OutFrame) (h : c.hold = false) : (c.place f).line = c.line ++ [f] := by
  unfold LinkCtl.place
  rw [LinkCtl.line_noteWait, LinkCtl.line_startSend (by exact h)]
  simp [LinkCtl.line]

end Sys2Proof.Machine
end

