-- ==== Sys2Proof/Laws/Flagged.lean ====
section
/-!
SUPPORT. The sticky flags under the two resets (R157, R170, R182): PRESS RESET leaves both links as they stand, and a
link reset leaves the flags of the other link. A parity flag is set where a burst ends, and by no reset (log 22).
-/

-- One proof after another: the package as one text asks for more threads at once than the check allows.
set_option Elab.async false
set_option linter.unusedTactic false
set_option linter.unusedSimpArgs false
set_option linter.unreachableTactic false
namespace Sys2Proof.Machine

/-- The sticky flags of both links (R170). -/
def State.flagged (s : State) : Pair LinkFlags := ⟨s.links.a.flags, s.links.b.flags⟩

/-! ## What leaves the flags of both links -/

theorem State.flagged_foldl {α : Type} (g : State → α → State) (hg : ∀ s a, (g s a).flagged = s.flagged)
    (l : List α) (s : State) : (l.foldl g s).flagged = s.flagged := by
  induction l generalizing s with
  | nil => rfl
  | cons a l ih => simp [List.foldl_cons, ih, hg]

@[simp] theorem State.flagged_modLink (s : State) (x : Link) (f : LinkCtl → LinkCtl)
    (h : ∀ c, (f c).flags = c.flags) :
    (s.modLink x f).flagged = s.flagged := by
  cases x <;> simp [State.flagged, State.modLink, State.link, Pair.get, Pair.set, h]
@[simp] theorem State.flagged_modIntake (s : State) (x : Link) (f : Intake → Intake) :
    (s.modIntake x f).flagged = s.flagged := rfl
@[simp] theorem State.flagged_modPress (s : State) (f : PressFeed → PressFeed) :
    (s.modPress f).flagged = s.flagged := rfl
@[simp] theorem State.flagged_modCtl (s : State) (f : StoreCtl → StoreCtl) :
    (s.modCtl f).flagged = s.flagged := rfl
@[simp] theorem State.flagged_modArb (s : State) (f : Arbiter → Arbiter) :
    (s.modArb f).flagged = s.flagged := rfl
@[simp] theorem State.flagged_modDir (s : State) (f : Directory → Directory) :
    (s.modDir f).flagged = s.flagged := rfl
@[simp] theorem State.flagged_modDisp (s : State) (f : Dispatcher → Dispatcher) :
    (s.modDisp f).flagged = s.flagged := rfl
@[simp] theorem State.flagged_modPage (s : State) (id : Nat) (f : Page → Page) :
    (s.modPage id f).flagged = s.flagged := rfl
@[simp] theorem State.flagged_setLane (s : State) (l : Lane) (v : LaneState) :
    (s.setLane l v).flagged = s.flagged := rfl
@[simp] theorem State.flagged_disown (s : State) (m : Burst → Bool) :
    (s.disown m).flagged = s.flagged := rfl
@[simp] theorem State.flagged_dropPrintRef (s : State) (id : Nat) :
    (s.dropPrintRef id).flagged = s.flagged := rfl
@[simp] theorem State.flagged_dropStreamRef (s : State) (id : Nat) :
    (s.dropStreamRef id).flagged = s.flagged := rfl
@[simp] theorem State.flagged_placeOp (s : State) (op : TableOp) :
    (s.placeOp op).flagged = s.flagged := rfl
@[simp] theorem State.flagged_placeRead (s : State) (c : Client) (h i n : Nat) (ck : Bool) :
    (s.placeRead c h i n ck).flagged = s.flagged := rfl
@[simp] theorem State.flagged_withdraw (s : State) (c : Client) :
    (s.withdraw c).flagged = s.flagged := rfl

@[simp] theorem State.flagged_notify (s : State) (x : Link) (n : Notice) :
    (s.notify x n).flagged = s.flagged := by
  unfold State.notify
  simp

@[simp] theorem State.flagged_answer (s : State) (x : Link) (k : Nat) (r : ReplyResult) :
    (s.answer x k r).flagged = s.flagged := by
  unfold State.answer
  split <;> simp

@[simp] theorem State.flagged_testPress (s : State) :
    (s.testPress).flagged = s.flagged := by
  unfold State.testPress
  dsimp only
  repeat' split
  all_goals simp

@[simp] theorem State.flagged_pressBand (s : State) :
    (s.pressBand).flagged = s.flagged := by
  unfold State.pressBand
  dsimp only
  repeat' split
  all_goals simp

@[simp] theorem State.flagged_pressStop (s : State) :
    (s.pressStop).flagged = s.flagged := by
  unfold State.pressStop
  rfl

@[simp] theorem State.flagged_pressEnter (s : State) (e : Option PrintEntry) :
    (s.pressEnter e).flagged = s.flagged := by
  unfold State.pressEnter
  dsimp only
  repeat' split
  all_goals simp

@[simp] theorem State.flagged_pressPassRemoved (s : State) :
    (s.pressPassRemoved).flagged = s.flagged := by
  unfold State.pressPassRemoved
  repeat' split
  all_goals simp

@[simp] theorem State.flagged_dropEntries (s : State) (page : Nat) :
    (s.dropEntries page).flagged = s.flagged := by
  unfold State.dropEntries
  simp only [State.flagged_testPress, State.flagged_pressPassRemoved]
  rw [State.flagged_foldl _ (fun s e => State.flagged_notify s _ _)]
  rfl

@[simp] theorem State.flagged_emptySlot (s : State) (x : Link) (t : SlotId) :
    (s.emptySlot x t).flagged = s.flagged := by
  unfold State.emptySlot
  dsimp only
  split <;> simp

@[simp] theorem State.flagged_slotJobEnd (s : State) (x : Link) (t : SlotId) :
    (s.slotJobEnd x t).flagged = s.flagged := by
  unfold State.slotJobEnd
  dsimp only
  split <;> simp

@[simp] theorem State.flagged_emptyFilling (s : State) (x : Link) (page : Nat) (t : SlotId) :
    (State.emptyFilling x page s t).flagged = s.flagged := by
  unfold State.emptyFilling
  dsimp only
  split <;> simp

@[simp] theorem State.flagged_ceaseIntake (s : State) (page : Nat) (x : Link) :
    (State.ceaseIntake page s x).flagged = s.flagged := by
  unfold State.ceaseIntake
  split
  · rw [State.flagged_foldl _ (State.flagged_emptyFilling · _ _ ·)]
    rfl
  · rfl

@[simp] theorem State.flagged_movePending (s : State) (l : Lane) :
    (s.movePending l).flagged = s.flagged := by
  unfold State.movePending
  repeat' split
  all_goals rfl

@[simp] theorem State.flagged_startJob (s : State) (l : Lane) (j : Job) :
    (s.startJob l j).flagged = s.flagged := by
  unfold State.startJob
  dsimp only
  repeat' split
  all_goals rfl

@[simp] theorem State.flagged_laneTake (s : State) (l : Lane) :
    (s.laneTake l).flagged = s.flagged := by
  unfold State.laneTake
  repeat' split
  all_goals simp

@[simp] theorem State.flagged_laneFree (s : State) (l : Lane) :
    (s.laneFree l).flagged = s.flagged := by
  unfold State.laneFree
  simp

@[simp] theorem State.flagged_removedJob (s : State) (c : Refuse) (j : Job) :
    (State.removedJob c s j).flagged = s.flagged := by
  unfold State.removedJob
  split <;> simp

@[simp] theorem State.flagged_movePendings (s : State) (l : Lane) (n : Nat) :
    (State.movePendings l n s).flagged = s.flagged := by
  induction n generalizing s with
  | zero => rfl
  | succ n ih => simp [State.movePendings, ih]

@[simp] theorem State.flagged_takeOutJobs (s : State) (g : Job → Bool) :
    (s.takeOutJobs g).flagged = s.flagged := by
  unfold State.takeOutJobs
  rw [State.flagged_foldl _ (fun t l => State.flagged_movePendings t l _)]
  rfl

@[simp] theorem State.flagged_removeJobs (s : State) (page : Nat) (c : Refuse) :
    (s.removeJobs page c).flagged = s.flagged := by
  unfold State.removeJobs
  rw [State.flagged_foldl _ (State.flagged_removedJob · _ ·), State.flagged_takeOutJobs]

@[simp] theorem State.flagged_beginRelease (s : State) (page : Nat) :
    (s.beginRelease page).flagged = s.flagged := by
  unfold State.beginRelease
  dsimp only
  split <;> rfl

@[simp] theorem State.flagged_endWork (s : State) (page : Nat) :
    (s.endWork page).flagged = s.flagged := by
  unfold State.endWork
  dsimp only
  repeat' split
  all_goals simp

@[simp] theorem State.flagged_failPage (s : State) (page : Nat) (c : FailCause) :
    (s.failPage page c).flagged = s.flagged := by
  unfold State.failPage
  dsimp only
  repeat' split
  all_goals simp [State.flagged_foldl _ (State.flagged_ceaseIntake · _ ·)]

@[simp] theorem State.flagged_proofAbandon (s : State) (l : Lane) (j : Job) :
    (s.proofAbandon l j).flagged = s.flagged := by
  unfold State.proofAbandon
  simp [State.proofOver]

@[simp] theorem State.flagged_endListing (s : State) (q : Listing) :
    (s.endListing q).flagged = s.flagged := by
  unfold State.endListing
  simp

@[simp] theorem State.flagged_dropOwed (s : State) :
    (s.dropOwed).flagged = s.flagged := by
  unfold State.dropOwed
  split <;> rfl

/-! ## The resets -/

@[simp] theorem State.flagged_abortStreams (s : State) (x : Link) :
    (s.abortStreams x).flagged = s.flagged := by
  unfold State.abortStreams
  simp [State.flagged_foldl _ (fun t st => State.flagged_dropStreamRef t _)]

@[simp] theorem State.flagged_resetIntake (s : State) (x : Link) :
    (s.resetIntake x).flagged = s.flagged := by
  unfold State.resetIntake
  dsimp only
  split <;> simp

@[simp] theorem State.flagged_resetProofs (s : State) (x : Link) :
    (s.resetProofs x).flagged = s.flagged := by
  unfold State.resetProofs
  refine (State.flagged_foldl _ (fun t l => ?_) _ _).trans (by simp)
  unfold State.abandonProof
  repeat' split
  all_goals simp

@[simp] theorem State.flagged_resetListings (s : State) (x : Link) :
    (s.resetListings x).flagged = s.flagged := by
  unfold State.resetListings
  exact State.flagged_foldl _ State.flagged_endListing _ _

@[simp] theorem State.flagged_resetWake (s : State) (x : Link) :
    (s.resetWake x).flagged = s.flagged := by
  unfold State.resetWake
  split <;> rfl

/-- A link reset leaves the flags of the other link (R182). -/
theorem State.resetLink_flags_other (s : State) (x : Link) :
    ((s.resetLink x).link (otherLink x)).flags = (s.link (otherLink x)).flags := by
  have h : ∀ t u : State, t.flagged = u.flagged → (t.link (otherLink x)).flags = (u.link (otherLink x)).flags := by
    intro t u htu
    have := congrArg (fun p => p.get (otherLink x)) htu
    cases x <;> exact this
  have hm : ∀ (t : State) (f : LinkCtl → LinkCtl), (t.modLink x f).link (otherLink x) = t.link (otherLink x) := by
    intro t f
    cases x <;> rfl
  unfold State.resetLink
  dsimp only
  rw [h _ ((s.abortStreams x).modLink x (LinkCtl.reset ((s.intake x).page.isNone && (s.link x).asReset)))
    (by simp only [State.flagged_resetListings, State.flagged_resetProofs, State.flagged_resetIntake,
      State.flagged_resetWake]), hm]
  exact h _ _ (by simp)

/-- The flush and restart of the press leave both links, and the press signals that wait (R157, R170). -/
theorem State.pressRestart_leaves (s : State) :
    s.pressRestart.links = s.links ∧ s.pressRestart.press.signals = s.press.signals := by
  have hb : ∀ t : State, t.pressBand.links = t.links ∧ t.pressBand.press.signals = t.press.signals := by
    intro t
    unfold State.pressBand
    dsimp only
    split <;> exact ⟨rfl, rfl⟩
  have he : ∀ (t : State) (e : Option PrintEntry),
      (t.pressEnter e).links = t.links ∧ (t.pressEnter e).press.signals = t.press.signals := by
    intro t e
    unfold State.pressEnter
    repeat' split
    · exact ⟨rfl, rfl⟩
    · exact hb _
    · exact ⟨rfl, rfl⟩
  have ht : ∀ t : State, t.testPress.links = t.links ∧ t.testPress.press.signals = t.press.signals := by
    intro t
    unfold State.testPress
    dsimp only
    split <;> exact ⟨rfl, rfl⟩
  have hh : s.pressHalt.links = s.links ∧ s.pressHalt.press.signals = s.press.signals := by
    unfold State.pressHalt State.dropOwed
    split <;> exact ⟨rfl, rfl⟩
  unfold State.pressRestart
  exact ⟨(ht _).1.trans ((he _ _).1.trans hh.1), (ht _).2.trans ((he _ _).2.trans hh.2)⟩

/-- PRESS RESET, with no press signal waiting, leaves both links as they stand (R157, R170). -/
theorem State.pressResetNow_links {s : State} (h : s.press.signals = []) : s.pressResetNow.links = s.links := by
  have hu : s.uncountSheet.links = s.links ∧ s.uncountSheet.press.signals = s.press.signals := by
    unfold State.uncountSheet
    repeat' split
    all_goals exact ⟨rfl, rfl⟩
  have hc : ∀ t : State, (t.modPress PressFeed.cutAnswers).press.signals = t.press.signals := by
    intro t
    show t.press.cutAnswers.signals = t.press.signals
    unfold PressFeed.cutAnswers
    split <;> rfl
  have hn : (s.uncountSheet.pressRestart.modPress PressFeed.cutAnswers).press.signals = [] := by
    rw [hc, (State.pressRestart_leaves _).2, hu.2, h]
  unfold State.pressResetNow State.takeWaitingSignals
  rw [hn]
  exact (State.pressRestart_leaves _).1.trans hu.1

end Sys2Proof.Machine
end

