-- ==== Sys2Proof/Laws/Places.lean ====
section
/-!
SUPPORT. What each shared operation keeps: no more is held than there are places for (State.withinPlaces).
-/

-- One proof after another: the package as one text asks for more threads at once than the check allows.
set_option Elab.async false
set_option linter.unusedTactic false
set_option linter.unusedSimpArgs false
set_option linter.unreachableTactic false
set_option linter.unnecessarySeqFocus false
namespace Sys2Proof.Machine

/-! ## The outbound queue -/

theorem LinkCtl.roomy_iff (c : LinkCtl) : c.roomy = true ↔ c.replyUse ≤ 8 ∧ c.generalUse ≤ 24 := by
  simp only [LinkCtl.roomy, Bool.and_eq_true, decide_eq_true_eq]
  rfl

theorem OutFrame.not_isReply_of_passesHold {f : OutFrame} (h : f.passesHold = true) : f.isReply = false := by
  cases f <;> simp_all [OutFrame.passesHold, OutFrame.isReply]

/-- Beginning to send a frame takes it from the queue: no place is freed or taken. -/
@[simp] theorem LinkCtl.startSend_generalUse (c : LinkCtl) : c.startSend.generalUse = c.generalUse := by
  unfold LinkCtl.startSend
  split
  · rfl
  · rename_i hs
    split
    · rename_i f rest hp
      unfold LinkCtl.pickSend at hp
      split at hp
      · split at hp
        · rename_i g hg
          simp only [Option.some.injEq, Prod.mk.injEq] at hp
          obtain ⟨rfl, rfl⟩ := hp
          have h1 : g.isReply = false := OutFrame.not_isReply_of_passesHold (by
            have := List.find?_some hg
            exact this)
          have h2 : g ∈ c.out := List.mem_of_find?_eq_some hg
          have h3 := (List.perm_cons_erase h2).filter (fun f => !f.isReply)
          have h4 := h3.length_eq
          simp only [LinkCtl.generalUse, hs, h1, Option.toList, List.filter_cons, List.filter_nil, Bool.not_false,
            if_true, List.length_cons, List.length_nil] at h4 ⊢
          omega
        · simp at hp
      · split at hp
        · rename_i g rest2 ho
          simp only [Option.some.injEq, Prod.mk.injEq] at hp
          obtain ⟨rfl, rfl⟩ := hp
          simp only [LinkCtl.generalUse, hs, ho, Option.toList, List.filter_cons, List.filter_nil, List.length_nil]
          split <;> simp only [List.length_cons, List.length_nil] <;> omega
        · simp at hp
    · rfl

@[simp] theorem LinkCtl.noteWait_generalUse (c : LinkCtl) : c.noteWait.generalUse = c.generalUse := by
  unfold LinkCtl.noteWait
  repeat' split
  all_goals rfl

/-- A frame placed holds a general place unless it is a reply. -/
@[simp] theorem LinkCtl.place_generalUse (f : OutFrame) (c : LinkCtl) :
    (LinkCtl.place f c).generalUse = c.generalUse + (if f.isReply then 0 else 1) := by
  unfold LinkCtl.place
  rw [LinkCtl.noteWait_generalUse, LinkCtl.startSend_generalUse]
  simp only [LinkCtl.generalUse, List.filter_append, List.length_append, List.filter_cons, List.filter_nil]
  cases f.isReply <;> simp <;> omega

theorem LinkCtl.roomy_of_le {c d : LinkCtl} (h : c.roomy = true) (hr : d.replyUse ≤ c.replyUse)
    (hg : d.generalUse ≤ c.generalUse) : d.roomy = true := by
  rw [LinkCtl.roomy_iff] at h ⊢
  omega

theorem LinkCtl.roomy_of_same {c d : LinkCtl} (h : c.roomy = true) (hr : d.replyUse = c.replyUse)
    (ho : d.out = c.out) (hs : d.sending = c.sending) (hf : d.filling = c.filling) : d.roomy = true := by
  refine LinkCtl.roomy_of_le h (by omega) ?_
  simp [LinkCtl.generalUse, ho, hs, hf]

/-- A reply takes its own place. -/
theorem LinkCtl.roomy_placeReply {c : LinkCtl} (h : c.roomy = true) (k : Nat) (g : Byte) (r : ReplyResult) :
    (LinkCtl.place (.reply k g r) c).roomy = true :=
  LinkCtl.roomy_of_le h (by simp) (by simp [OutFrame.isReply])

/-- Any frame may take a place that is free. -/
theorem LinkCtl.roomy_place {c : LinkCtl} (h : c.roomy = true) (hp : c.hasPlace = true) (f : OutFrame) :
    (LinkCtl.place f c).roomy = true := by
  rw [LinkCtl.roomy_iff] at h ⊢
  simp only [LinkCtl.hasPlace, decide_eq_true_eq] at hp
  have hp : c.generalUse < 24 := hp
  simp only [LinkCtl.place_replyUse, LinkCtl.place_generalUse]
  refine ⟨h.1, ?_⟩
  split <;> omega

/-- Any frame may take the place that is claimed. -/
theorem LinkCtl.roomy_placeFilled {c : LinkCtl} (h : c.roomy = true) (hp : c.filling.isSome = true) (f : OutFrame) :
    (LinkCtl.place f { c with filling := none }).roomy = true := by
  have h1 : LinkCtl.generalUse { c with filling := none } + 1 = c.generalUse := by
    obtain ⟨v, hv⟩ := Option.isSome_iff_exists.mp hp
    simp [LinkCtl.generalUse, hv]
  rw [LinkCtl.roomy_iff] at h ⊢
  simp only [LinkCtl.place_replyUse, LinkCtl.place_generalUse]
  refine ⟨h.1, ?_⟩
  split <;> omega

theorem LinkCtl.roomy_placeNotice {c : LinkCtl} (h : c.roomy = true) (n : Notice) :
    (LinkCtl.placeNotice n c).roomy = true := by
  unfold LinkCtl.placeNotice
  split
  · exact LinkCtl.roomy_place h (by assumption) _
  · exact LinkCtl.roomy_of_same h rfl rfl rfl rfl

theorem LinkCtl.roomy_placeRows (l : Lane) (fs : List OutFrame) {c : LinkCtl} (h : c.roomy = true) :
    (LinkCtl.placeRows l fs c).2.roomy = true := by
  induction fs generalizing c with
  | nil => exact h
  | cons f fs ih =>
    unfold LinkCtl.placeRows
    split
    · rename_i hc
      simp only [Bool.and_eq_true] at hc
      exact ih (LinkCtl.roomy_place h hc.2 f)
    · exact LinkCtl.roomy_of_same h rfl rfl rfl rfl

theorem LinkCtl.roomy_noteWait {c : LinkCtl} (h : c.roomy = true) : c.noteWait.roomy = true :=
  LinkCtl.roomy_of_le h (by simp) (by simp)

theorem LinkCtl.roomy_startSend {c : LinkCtl} (h : c.roomy = true) : c.startSend.roomy = true :=
  LinkCtl.roomy_of_le h (by simp) (by simp)

theorem LinkCtl.roomy_sent {c : LinkCtl} (f : OutFrame) (h : c.roomy = true) : (LinkCtl.sent f c).roomy = true := by
  unfold LinkCtl.sent
  refine LinkCtl.roomy_startSend (LinkCtl.roomy_of_le h ?_ ?_)
  · dsimp only
    split <;> omega
  · simp only [LinkCtl.generalUse, Option.toList, List.filter_nil, List.length_nil]
    omega

theorem LinkCtl.roomy_initial : LinkCtl.initial.roomy = true := by decide

/-! ## The part -/

theorem State.within_iff (s : State) : s.withinPlaces = true ↔
    (s.links.a.roomy = true ∧ s.links.b.roomy = true) ∧ s.dir.pages.length ≤ 256 ∧
      (∀ l, (s.disp.queues.get l).length ≤ 8) ∧ s.press.schedule.length ≤ 16 ∧ s.press.fifoWords ≤ 65536 := by
  have h : (allLanes.all fun l => decide ((s.disp.queues.get l).length ≤ Config.laneQueuePlaces)) = true ↔
      ∀ l, (s.disp.queues.get l).length ≤ 8 := by
    simp only [List.all_eq_true, decide_eq_true_eq]
    exact ⟨fun h l => h l (by cases l <;> decide), fun h l _ => h l⟩
  simp only [State.withinPlaces, Bool.and_eq_true, decide_eq_true_eq, h]
  exact ⟨fun ⟨⟨⟨⟨h1, h2⟩, h3⟩, h4⟩, h5⟩ => ⟨h1, h2, h3, h4, h5⟩, fun ⟨h1, h2, h3, h4, h5⟩ => ⟨⟨⟨⟨h1, h2⟩, h3⟩, h4⟩, h5⟩⟩

theorem State.within_foldl {α : Type} (g : State → α → State)
    (hg : ∀ s a, s.withinPlaces = true → (g s a).withinPlaces = true)
    (l : List α) (s : State) (h : s.withinPlaces = true) : (l.foldl g s).withinPlaces = true := by
  induction l generalizing s with
  | nil => exact h
  | cons a l ih => exact ih _ (hg s a h)

theorem State.within_modLink (s : State) (x : Link) (f : LinkCtl → LinkCtl) (h : s.withinPlaces = true)
    (hf : (s.link x).roomy = true → (f (s.link x)).roomy = true) : (s.modLink x f).withinPlaces = true := by
  rw [State.within_iff] at h ⊢
  cases x
  · exact ⟨⟨hf h.1.1, h.1.2⟩, h.2⟩
  · exact ⟨⟨h.1.1, hf h.1.2⟩, h.2⟩

theorem State.within_link {s : State} (h : s.withinPlaces = true) (x : Link) : (s.link x).roomy = true := by
  rw [State.within_iff] at h
  cases x
  · exact h.1.1
  · exact h.1.2

/-- A change of a link that leaves its places. -/
@[simp] theorem State.within_modLink_same (s : State) (x : Link) (f : LinkCtl → LinkCtl) (h : s.withinPlaces = true)
    (hr : ∀ c, (f c).replyUse = c.replyUse) (ho : ∀ c, (f c).out = c.out) (hs : ∀ c, (f c).sending = c.sending)
    (hf : ∀ c, (f c).filling = c.filling) : (s.modLink x f).withinPlaces = true :=
  State.within_modLink s x f h fun hc => LinkCtl.roomy_of_same hc (hr _) (ho _) (hs _) (hf _)

/-- A change of a link that frees places, or takes none. -/
theorem State.within_modLink_le (s : State) (x : Link) (f : LinkCtl → LinkCtl) (h : s.withinPlaces = true)
    (hr : ∀ c, (f c).replyUse ≤ c.replyUse) (hg : ∀ c, (f c).generalUse ≤ c.generalUse) :
    (s.modLink x f).withinPlaces = true :=
  State.within_modLink s x f h fun hc => LinkCtl.roomy_of_le hc (hr _) (hg _)

@[simp] theorem State.within_modIntake (s : State) (x : Link) (f : Intake → Intake) :
    (s.modIntake x f).withinPlaces = s.withinPlaces := rfl
@[simp] theorem State.within_modCtl (s : State) (f : StoreCtl → StoreCtl) : (s.modCtl f).withinPlaces = s.withinPlaces := rfl
@[simp] theorem State.within_modArb (s : State) (f : Arbiter → Arbiter) : (s.modArb f).withinPlaces = s.withinPlaces := rfl
@[simp] theorem State.within_modAdm (s : State) (f : Admission → Admission) : (s.modAdm f).withinPlaces = s.withinPlaces := rfl
@[simp] theorem State.within_modMap (s : State) (f : ExtentMap → ExtentMap) : (s.modMap f).withinPlaces = s.withinPlaces := rfl
@[simp] theorem State.within_setLane (s : State) (l : Lane) (v : LaneState) :
    (s.setLane l v).withinPlaces = s.withinPlaces := rfl
@[simp] theorem State.within_bump (s : State) (n : Nat) :
    State.withinPlaces { s with nextTicket := n } = s.withinPlaces := rfl

/-- A change of the press feed that lengthens neither the schedule nor the FIFO. -/
@[simp] theorem State.within_modPress (s : State) (f : PressFeed → PressFeed) (h : s.withinPlaces = true)
    (hs : ∀ c, (f c).schedule.length ≤ c.schedule.length) (hf : ∀ c, (f c).fifo.Sublist c.fifo) :
    (s.modPress f).withinPlaces = true := by
  rw [State.within_iff] at h ⊢
  refine ⟨h.1, h.2.1, h.2.2.1, Nat.le_trans (hs _) h.2.2.2.1, Nat.le_trans ?_ h.2.2.2.2⟩
  exact ((hf s.press).map fun l => l.words.length).sum_le_sum fun _ _ => Nat.zero_le _

/-- A change of the directory that does not add pages. -/
@[simp] theorem State.within_modDir (s : State) (f : Directory → Directory) (h : s.withinPlaces = true)
    (hp : ∀ d, (f d).pages.length ≤ d.pages.length) : (s.modDir f).withinPlaces = true := by
  rw [State.within_iff] at h ⊢
  exact ⟨h.1, Nat.le_trans (hp _) h.2.1, h.2.2⟩

@[simp] theorem State.within_modPage (s : State) (id : Nat) (f : Page → Page) (h : s.withinPlaces = true) :
    (s.modPage id f).withinPlaces = true :=
  State.within_modDir s _ h (by simp)

/-- A change of the dispatcher that lengthens no queue. -/
@[simp] theorem State.within_modDisp (s : State) (f : Dispatcher → Dispatcher) (h : s.withinPlaces = true)
    (hq : ∀ d l, ((f d).queues.get l).length ≤ (d.queues.get l).length) : (s.modDisp f).withinPlaces = true := by
  rw [State.within_iff] at h ⊢
  exact ⟨h.1, h.2.1, fun l => Nat.le_trans (hq _ l) (h.2.2.1 l), h.2.2.2⟩

/-- A job joins a queue with a place free. -/
theorem State.within_joinQueue (s : State) (f : Dispatcher → Dispatcher) (l : Lane) (q : List Job)
    (h : s.withinPlaces = true) (hf : (f s.disp).queues = s.disp.queues.set l q) (hq : q.length ≤ 8) :
    (s.modDisp f).withinPlaces = true := by
  rw [State.within_iff] at h ⊢
  refine ⟨h.1, h.2.1, fun m => ?_, h.2.2.2⟩
  simp only [State.modDisp_disp, hf]
  by_cases hm : m = l
  · subst hm
    simpa using hq
  · rw [Four.get_set_ne _ _ hm]
    exact h.2.2.1 m

@[simp] theorem State.within_modLink_setStream (s : State) (x : Link) (st : Stream) (h : s.withinPlaces = true) :
    (s.modLink x (LinkCtl.setStream st)).withinPlaces = true :=
  State.within_modLink_same s x _ h (fun _ => rfl) (fun _ => rfl) (fun _ => rfl) (fun _ => rfl)

@[simp] theorem State.within_modLink_reply (s : State) (x : Link) (k : Nat) (g : Byte) (r : ReplyResult)
    (h : s.withinPlaces = true) : (s.modLink x (LinkCtl.place (.reply k g r))).withinPlaces = true :=
  State.within_modLink s x _ h fun hc => LinkCtl.roomy_placeReply hc k g r

theorem State.within_placeRows (s : State) (l : Lane) (x : Link) (fs : List OutFrame) (h : s.withinPlaces = true) :
    (s.placeRows l x fs).2.withinPlaces = true :=
  State.within_modLink s x (fun c => (LinkCtl.placeRows l fs c).2) h fun hc => LinkCtl.roomy_placeRows l fs hc

@[simp] theorem State.within_dropPrintRef (s : State) (id : Nat) (hs : s.withinPlaces = true) :
    (s.dropPrintRef id).withinPlaces = true := by
  unfold State.dropPrintRef
  try dsimp only
  repeat' split
  all_goals simp (maxDischargeDepth := 20) [hs, List.tail_sublist, List.filter_sublist, List.length_filter_le]

@[simp] theorem State.within_dropStreamRef (s : State) (id : Nat) (hs : s.withinPlaces = true) :
    (s.dropStreamRef id).withinPlaces = true := by
  unfold State.dropStreamRef
  try dsimp only
  repeat' split
  all_goals simp (maxDischargeDepth := 20) [hs, List.tail_sublist, List.filter_sublist, List.length_filter_le]

@[simp] theorem State.within_damageEvent (s : State) (id : Nat) (hs : s.withinPlaces = true) :
    (s.damageEvent id).withinPlaces = true := by
  unfold State.damageEvent
  try dsimp only
  repeat' split
  all_goals simp (maxDischargeDepth := 20) [hs, List.tail_sublist, List.filter_sublist, List.length_filter_le]

@[simp] theorem State.within_notify (s : State) (x : Link) (n : Notice) (hs : s.withinPlaces = true) :
    (s.notify x n).withinPlaces = true := State.within_modLink s x _ hs fun hc => LinkCtl.roomy_placeNotice hc n

@[simp] theorem State.within_notifyBoth (s : State) (n : Notice) (hs : s.withinPlaces = true) :
    (s.notifyBoth n).withinPlaces = true := by
  unfold State.notifyBoth
  simp (maxDischargeDepth := 20) [hs, List.tail_sublist, List.filter_sublist, List.length_filter_le]

@[simp] theorem State.within_reply (s : State) (x : Link) (f : Frame) (r : ReplyResult) (hs : s.withinPlaces = true) :
    (s.reply x f r).withinPlaces = true := by
  unfold State.reply
  try dsimp only
  repeat' split
  all_goals simp (maxDischargeDepth := 20) [hs, List.tail_sublist, List.filter_sublist, List.length_filter_le]

@[simp] theorem State.within_answer (s : State) (x : Link) (k : Nat) (r : ReplyResult) (hs : s.withinPlaces = true) :
    (s.answer x k r).withinPlaces = true := by
  unfold State.answer
  split
  · exact hs
  · refine State.within_modLink s x _ hs fun hc => ?_
    refine LinkCtl.roomy_placeReply ?_ _ _ _
    exact LinkCtl.roomy_of_same hc rfl rfl rfl rfl

@[simp] theorem State.within_freeReplyPlace (s : State) (x : Link) (hs : s.withinPlaces = true) :
    (s.freeReplyPlace x).withinPlaces = true := State.within_modLink_le s x _ hs
    (fun c => Nat.sub_le c.replyUse 1) (fun _ => Nat.le_refl _)

@[simp] theorem State.within_flagClamped (s : State) (x : Link) (hs : s.withinPlaces = true) :
    (s.flagClamped x).withinPlaces = true := by
  unfold State.flagClamped
  try dsimp only
  repeat' split
  all_goals simp (maxDischargeDepth := 20) [hs, List.tail_sublist, List.filter_sublist, List.length_filter_le]

@[simp] theorem State.within_flagStoreParity (s : State)  (hs : s.withinPlaces = true) :
    (s.flagStoreParity).withinPlaces = true := by
  unfold State.flagStoreParity
  try dsimp only
  repeat' split
  all_goals simp (maxDischargeDepth := 20) [hs, List.tail_sublist, List.filter_sublist, List.length_filter_le]

@[simp] theorem State.within_flagUnderrun (s : State)  (hs : s.withinPlaces = true) :
    (s.flagUnderrun).withinPlaces = true := by
  unfold State.flagUnderrun
  try dsimp only
  repeat' split
  all_goals simp (maxDischargeDepth := 20) [hs, List.tail_sublist, List.filter_sublist, List.length_filter_le]

theorem State.within_addLong (s : State) (x : Link) (f : Frame) (h : s.withinPlaces = true) :
    (s.addLong x f).withinPlaces = true :=
  State.within_modLink_same s x (fun c => { c with long := c.long ++ [⟨s.nextTicket, f.k, f.tag⟩] }) h (fun _ => rfl)
    (fun _ => rfl) (fun _ => rfl) (fun _ => rfl)

@[simp] theorem State.within_closeAdmission (s : State)  (hs : s.withinPlaces = true) :
    (s.closeAdmission).withinPlaces = true := by
  unfold State.closeAdmission
  try dsimp only
  repeat' split
  all_goals simp (maxDischargeDepth := 20) [hs, List.tail_sublist, List.filter_sublist, List.length_filter_le]

@[simp] theorem State.within_leaveNormal (s : State)  (hs : s.withinPlaces = true) :
    (s.leaveNormal).withinPlaces = true := by
  unfold State.leaveNormal
  try dsimp only
  repeat' split
  all_goals simp (maxDischargeDepth := 20) [hs, List.tail_sublist, List.filter_sublist, List.length_filter_le]

@[simp] theorem State.within_openAdmission (s : State)  (hs : s.withinPlaces = true) :
    (s.openAdmission).withinPlaces = true := by
  unfold State.openAdmission
  try dsimp only
  repeat' split
  all_goals simp (maxDischargeDepth := 20) [hs, List.tail_sublist, List.filter_sublist, List.length_filter_le]

@[simp] theorem State.within_reportFall (s : State) (n : Nat) (hs : s.withinPlaces = true) :
    (s.reportFall n).withinPlaces = true := by
  unfold State.reportFall
  dsimp only
  split <;> simp (maxDischargeDepth := 20) [hs, List.tail_sublist, List.filter_sublist, List.length_filter_le]

@[simp] theorem State.within_useAdmit (s : State)  (hs : s.withinPlaces = true) :
    (s.useAdmit).withinPlaces = true := by
  unfold State.useAdmit
  try dsimp only
  repeat' split
  all_goals simp (maxDischargeDepth := 20) [hs, List.tail_sublist, List.filter_sublist, List.length_filter_le]

@[simp] theorem State.within_reevaluate (s : State)  (hs : s.withinPlaces = true) :
    (s.reevaluate).withinPlaces = true := by
  unfold State.reevaluate
  try dsimp only
  repeat' split
  all_goals simp (maxDischargeDepth := 20) [hs, List.tail_sublist, List.filter_sublist, List.length_filter_le]

@[simp] theorem State.within_returnExtent (s : State) (e : Nat) (hs : s.withinPlaces = true) :
    (s.returnExtent e).withinPlaces = true := by
  unfold State.returnExtent State.reportRise
  dsimp only
  split <;> simp (maxDischargeDepth := 20) [hs, List.tail_sublist, List.filter_sublist, List.length_filter_le]

@[simp] theorem State.within_returnChain (s : State) (e : Option Nat) (hs : s.withinPlaces = true) :
    (s.returnChain e).withinPlaces = true := by
  unfold State.returnChain
  split
  · exact hs
  · exact State.within_foldl _ (fun s e hs => State.within_returnExtent s e hs) _ _ hs

@[simp] theorem State.within_returnHeader (s : State) (owner header : Nat) (hs : s.withinPlaces = true) :
    (s.returnHeader owner header).withinPlaces = true := by
  unfold State.returnHeader
  exact State.within_returnExtent _ _
    (State.within_foldl _ (fun s (p : Nat × Nat) hs => State.within_returnChain s (some p.2) hs) _ _ hs)

@[simp] theorem State.within_placeOp (s : State) (op : TableOp) (hs : s.withinPlaces = true) :
    (s.placeOp op).withinPlaces = true := by
  unfold State.placeOp
  try dsimp only
  repeat' split
  all_goals simp (maxDischargeDepth := 20) [hs, List.tail_sublist, List.filter_sublist, List.length_filter_le]

@[simp] theorem State.within_placeDeferred (s : State) : s.placeDeferred.withinPlaces = s.withinPlaces := rfl

@[simp] theorem State.within_placeRead (s : State) (c : Client) (h i n : Nat) (ck : Bool) (hs : s.withinPlaces = true) :
    (s.placeRead c h i n ck).withinPlaces = true := by
  unfold State.placeRead
  try dsimp only
  repeat' split
  all_goals simp (maxDischargeDepth := 20) [hs, List.tail_sublist, List.filter_sublist, List.length_filter_le]

@[simp] theorem State.within_placeRecord (s : State) (c : Client) (h i : Nat) (r : BandRecord) (hs : s.withinPlaces = true) :
    (s.placeRecord c h i r).withinPlaces = true := by
  unfold State.placeRecord
  try dsimp only
  repeat' split
  all_goals simp (maxDischargeDepth := 20) [hs, List.tail_sublist, List.filter_sublist, List.length_filter_le]

@[simp] theorem State.within_disown (s : State) (m : Burst → Bool) (hs : s.withinPlaces = true) :
    (s.disown m).withinPlaces = true := by
  unfold State.disown
  try dsimp only
  repeat' split
  all_goals simp (maxDischargeDepth := 20) [hs, List.tail_sublist, List.filter_sublist, List.length_filter_le]

@[simp] theorem State.within_flagIf (s : State) (b : Bool) (hs : s.withinPlaces = true) :
    (s.flagIf b).withinPlaces = true := by
  unfold State.flagIf
  try dsimp only
  repeat' split
  all_goals simp (maxDischargeDepth := 20) [hs, List.tail_sublist, List.filter_sublist, List.length_filter_le]

@[simp] theorem State.within_withdraw (s : State) (c : Client) (hs : s.withinPlaces = true) :
    (s.withdraw c).withinPlaces = true := by
  unfold State.withdraw
  simp (maxDischargeDepth := 20) [hs, List.tail_sublist, List.filter_sublist, List.length_filter_le]

@[simp] theorem State.within_payloadDamage (s : State) (page index : Nat) (r : BandRecord) (b : Bool) (hs : s.withinPlaces = true) :
    (s.payloadDamage page index r b).withinPlaces = true := by
  unfold State.payloadDamage
  try dsimp only
  repeat' split
  all_goals simp (maxDischargeDepth := 20) [hs, List.tail_sublist, List.filter_sublist, List.length_filter_le]

@[simp] theorem State.within_testPress (s : State)  (hs : s.withinPlaces = true) :
    (s.testPress).withinPlaces = true := by
  unfold State.testPress
  try dsimp only
  repeat' split
  all_goals simp (maxDischargeDepth := 20) [hs, List.tail_sublist, List.filter_sublist, List.length_filter_le]

@[simp] theorem PressFeed.latch_schedule (f : PressFeed) (sh : SheetId) : (f.latch sh).schedule = f.schedule := rfl
@[simp] theorem PressFeed.latch_fifo (f : PressFeed) (sh : SheetId) : (f.latch sh).fifo = f.fifo := rfl
@[simp] theorem PressFeed.cutFrom_length (f : PressFeed) (k : Nat) :
    (f.cutFrom k).schedule.length = f.schedule.length := by simp [PressFeed.cutFrom]
@[simp] theorem PressFeed.cutFrom_fifo (f : PressFeed) (k : Nat) : (f.cutFrom k).fifo.Sublist f.fifo :=
  List.filter_sublist

@[simp] theorem State.within_pressBand (s : State)  (hs : s.withinPlaces = true) :
    (s.pressBand).withinPlaces = true := by
  unfold State.pressBand
  try dsimp only
  repeat' split
  all_goals simp (maxDischargeDepth := 20) [hs, List.tail_sublist, List.filter_sublist, List.length_filter_le]

@[simp] theorem State.within_pressStop (s : State)  (hs : s.withinPlaces = true) :
    (s.pressStop).withinPlaces = true := by
  unfold State.pressStop
  try dsimp only
  repeat' split
  all_goals simp (maxDischargeDepth := 20) [hs, List.tail_sublist, List.filter_sublist, List.length_filter_le]

@[simp] theorem State.within_pressEnter (s : State) (e : Option PrintEntry) (hs : s.withinPlaces = true) :
    (s.pressEnter e).withinPlaces = true := by
  unfold State.pressEnter
  try dsimp only
  repeat' split
  all_goals simp (maxDischargeDepth := 20) [hs, List.tail_sublist, List.filter_sublist, List.length_filter_le]

@[simp] theorem State.within_pressDamage (s : State) (d : DecPos) (comp : Nat) (cause : Detail) (row : Nat) (r : Option BandRecord) (c : Nat) (hs : s.withinPlaces = true) :
    (s.pressDamage d comp cause row r c).withinPlaces = true := by
  unfold State.pressDamage
  try dsimp only
  repeat' split
  all_goals simp (maxDischargeDepth := 20) [hs, List.tail_sublist, List.filter_sublist, List.length_filter_le]

@[simp] theorem State.within_modPress_latch (s : State) (sh : SheetId) (h : s.withinPlaces = true) :
    (s.modPress fun f => f.latch sh).withinPlaces = true := State.within_modPress s _ h (by simp) (by simp)

@[simp] theorem State.within_pressRowBegin (s : State) (hs : s.withinPlaces = true) :
    (s.pressRowBegin).withinPlaces = true := by
  unfold State.pressRowBegin
  try dsimp only
  repeat' split
  all_goals simp (maxDischargeDepth := 20) [hs, List.tail_sublist, List.filter_sublist, List.length_filter_le]

@[simp] theorem State.within_pressAdvance (s : State) (n : Nat) (hs : s.withinPlaces = true) :
    (s.pressAdvance n).withinPlaces = true := by
  induction n generalizing s with
  | zero => exact hs
  | succ n ih =>
    unfold State.pressAdvance
    repeat' split
    all_goals first | exact hs | (apply ih; simp (maxDischargeDepth := 20) [hs, List.tail_sublist, List.filter_sublist, List.length_filter_le]) | simp (maxDischargeDepth := 20) [hs, List.tail_sublist, List.filter_sublist, List.length_filter_le]

@[simp] theorem State.within_pressRun (s : State) (hs : s.withinPlaces = true) :
    (s.pressRun).withinPlaces = true := by
  unfold State.pressRun
  try dsimp only
  repeat' split
  all_goals simp (maxDischargeDepth := 20) [hs, List.tail_sublist, List.filter_sublist, List.length_filter_le]

@[simp] theorem State.within_pressRow (s : State) (hs : s.withinPlaces = true) :
    (s.pressRow).withinPlaces = true := by
  unfold State.pressRow
  simp (maxDischargeDepth := 20) [hs, List.tail_sublist, List.filter_sublist, List.length_filter_le]

@[simp] theorem State.within_pressRoomFreed (s : State)  (hs : s.withinPlaces = true) :
    (s.pressRoomFreed).withinPlaces = true := by
  unfold State.pressRoomFreed
  try dsimp only
  repeat' split
  all_goals simp (maxDischargeDepth := 20) [hs, List.tail_sublist, List.filter_sublist, List.length_filter_le]

@[simp] theorem State.within_pressTakeRecord (s : State) (d : DecPos) (p : Page) (ws : List ReadWord) (comp : Nat) (hs : s.withinPlaces = true) :
    (State.pressTakeRecord d p ws s comp).withinPlaces = true := by
  unfold State.pressTakeRecord
  try dsimp only
  repeat' split
  all_goals simp (maxDischargeDepth := 20) [hs, List.tail_sublist, List.filter_sublist, List.length_filter_le]

@[simp] theorem State.within_pressRecords (s : State) (e : TableEnd) (hs : s.withinPlaces = true) :
    (s.pressRecords e).withinPlaces = true := by
  unfold State.pressRecords
  dsimp only
  repeat' split
  · exact hs
  · exact State.within_foldl _ (fun t i ht => State.within_pressTakeRecord t _ _ _ i ht) _ _ hs
  · exact State.within_pressRow _ (State.within_foldl _ (fun t i ht => State.within_pressTakeRecord t _ _ _ i ht) _ _ hs)

@[simp] theorem State.within_pressFeed (s : State) (ws : List ReadWord) (hs : s.withinPlaces = true) :
    (s.pressFeed ws).withinPlaces = true := by
  unfold State.pressFeed
  try dsimp only
  repeat' split
  all_goals simp (maxDischargeDepth := 20) [hs, List.tail_sublist, List.filter_sublist, List.length_filter_le]

@[simp] theorem State.within_dropOwed (s : State) (hs : s.withinPlaces = true) :
    (s.dropOwed).withinPlaces = true := by
  unfold State.dropOwed
  try dsimp only
  repeat' split
  all_goals simp (maxDischargeDepth := 20) [hs, List.tail_sublist, List.filter_sublist, List.length_filter_le]

@[simp] theorem State.within_pressMoveOn (s : State) (d : DecPos) (hs : s.withinPlaces = true) :
    (s.pressMoveOn d).withinPlaces = true := by
  unfold State.pressMoveOn
  try dsimp only
  repeat' split
  all_goals simp (maxDischargeDepth := 20) [hs, List.tail_sublist, List.filter_sublist, List.length_filter_le]

@[simp] theorem State.within_pressFinish (s : State) (d : DecPos) (p : Page) (rows : List (List Nat)) (hs : s.withinPlaces = true) :
    (s.pressFinish d p rows).withinPlaces = true := by
  unfold State.pressFinish
  have h1 : State.withinPlaces (s.modPress fun f =>
      if 0 < f.skip then { f with row := none, skip := f.skip - 1 } else f.enterLine (s.pressLine d p rows)) = true := by
    have h := (State.within_iff s).mp hs
    rw [State.within_iff]
    refine ⟨h.1, h.2.1, h.2.2.1, ?_, ?_⟩
    · simp only [State.modPress_press]
      split
      · exact h.2.2.2.1
      · exact h.2.2.2.1
    · simp only [State.modPress_press]
      split
      · exact h.2.2.2.2
      · simp only [PressFeed.enterLine, PressFeed.fifoWords]
        split
        · rename_i hr
          have h2 := h.2.2.2.2
          simp only [PressFeed.room, PressFeed.fifoWords, Config.fifoWords] at hr h2
          simp only [List.map_append, List.map_cons, List.map_nil, List.sum_append, List.sum_cons, List.sum_nil]
          omega
        · exact h.2.2.2.2
  dsimp only
  repeat' split
  all_goals simp (maxDischargeDepth := 20) [h1]

theorem State.within_takeEnd {m : Client → Bool} {s t : State} {e : TableEnd}
    (h : s.takeEnd m = some (e, t)) (hs : s.withinPlaces = true) : t.withinPlaces = true := by
  unfold State.takeEnd at h
  split at h
  · simp only [Option.some.injEq, Prod.mk.injEq] at h
    rw [← h.2]
    exact hs
  · simp at h

@[simp] theorem State.within_pressTakeEnd (s : State) (hs : s.withinPlaces = true) :
    (s.pressTakeEnd).withinPlaces = true := by
  unfold State.pressTakeEnd
  split
  · rename_i e t he
    exact State.within_pressRecords _ _ (State.within_takeEnd he hs)
  · exact hs

@[simp] theorem State.within_finishDue (s : State) (n : Nat) (hs : s.withinPlaces = true) :
    (s.finishDue n).withinPlaces = true := by
  induction n generalizing s with
  | zero => exact hs
  | succ n ih =>
    unfold State.finishDue
    repeat' split
    · exact ih _ (State.within_pressFinish _ _ _ _ hs)
    all_goals exact hs

@[simp] theorem State.within_pressDue (s : State) (hs : s.withinPlaces = true) :
    (s.pressDue).withinPlaces = true := by
  unfold State.pressDue
  have h1 : (if s.arb.pressUrgent = true then s.pressTakeEnd else s).withinPlaces = true := by
    split
    · exact State.within_pressTakeEnd _ hs
    · exact hs
  dsimp only
  split
  · exact State.within_finishDue _ _ h1
  · exact h1

@[simp] theorem State.within_pressHalt (s : State)  (hs : s.withinPlaces = true) :
    (s.pressHalt).withinPlaces = true := by
  unfold State.pressHalt
  try dsimp only
  repeat' split
  all_goals simp (maxDischargeDepth := 20) [hs, List.tail_sublist, List.filter_sublist, List.length_filter_le]

@[simp] theorem State.within_pressRestart (s : State)  (hs : s.withinPlaces = true) :
    (s.pressRestart).withinPlaces = true := by
  unfold State.pressRestart
  try dsimp only
  repeat' split
  all_goals simp (maxDischargeDepth := 20) [hs, List.tail_sublist, List.filter_sublist, List.length_filter_le]

@[simp] theorem State.within_pressPassRemoved (s : State)  (hs : s.withinPlaces = true) :
    (s.pressPassRemoved).withinPlaces = true := by
  unfold State.pressPassRemoved
  try dsimp only
  repeat' split
  all_goals simp (maxDischargeDepth := 20) [hs, List.tail_sublist, List.filter_sublist, List.length_filter_le]

@[simp] theorem State.within_cancelEntry (s : State) (e : PrintEntry) (hs : s.withinPlaces = true) :
    (s.cancelEntry e).withinPlaces = true := by
  unfold State.cancelEntry
  try dsimp only
  repeat' split
  all_goals simp (maxDischargeDepth := 20) [hs, List.tail_sublist, List.filter_sublist, List.length_filter_le]

@[simp] theorem State.within_dropEntries (s : State) (page : Nat) (hs : s.withinPlaces = true) :
    (s.dropEntries page).withinPlaces = true := by
  unfold State.dropEntries
  dsimp only
  refine State.within_testPress _ (State.within_pressPassRemoved _ ?_)
  exact State.within_foldl _ (fun t e ht => State.within_notify t _ _ ht) _ _ (by
    simp (maxDischargeDepth := 20) [hs, List.length_filter_le])

@[simp] theorem State.within_pressSealed (s : State) (page : Nat) (hs : s.withinPlaces = true) :
    (s.pressSealed page).withinPlaces = true := by
  unfold State.pressSealed
  dsimp only
  repeat' split
  all_goals simp (maxDischargeDepth := 20) [hs, List.tail_sublist, List.filter_sublist, List.length_filter_le]

@[simp] theorem State.within_emptySlot (s : State) (x : Link) (t : SlotId) (hs : s.withinPlaces = true) :
    (s.emptySlot x t).withinPlaces = true := by
  unfold State.emptySlot
  try dsimp only
  repeat' split
  all_goals simp (maxDischargeDepth := 20) [hs, List.tail_sublist, List.filter_sublist, List.length_filter_le]

@[simp] theorem State.within_slotJobEnd (s : State) (x : Link) (t : SlotId) (hs : s.withinPlaces = true) :
    (s.slotJobEnd x t).withinPlaces = true := by
  unfold State.slotJobEnd
  try dsimp only
  repeat' split
  all_goals simp (maxDischargeDepth := 20) [hs, List.tail_sublist, List.filter_sublist, List.length_filter_le]

@[simp] theorem State.within_emptyFilling (s : State) (x : Link) (page : Nat) (t : SlotId) (hs : s.withinPlaces = true) :
    (State.emptyFilling x page s t).withinPlaces = true := by
  unfold State.emptyFilling
  try dsimp only
  repeat' split
  all_goals simp (maxDischargeDepth := 20) [hs, List.tail_sublist, List.filter_sublist, List.length_filter_le]

@[simp] theorem State.within_ceaseIntake (s : State) (page : Nat) (x : Link) (hs : s.withinPlaces = true) :
    (State.ceaseIntake page s x).withinPlaces = true := by
  unfold State.ceaseIntake
  split
  · exact State.within_foldl _ (fun t k ht => State.within_emptyFilling t x page k ht) _ _ hs
  · exact hs

/-- A queue that has given up jobs. -/
theorem State.within_leaveQueue (s : State) (f : Dispatcher → Dispatcher) (l : Lane) (q : List Job)
    (h : s.withinPlaces = true) (hf : (f s.disp).queues = s.disp.queues.set l q)
    (hq : q.length ≤ (s.disp.queues.get l).length) : (s.modDisp f).withinPlaces = true :=
  State.within_joinQueue s f l q h hf (Nat.le_trans hq ((State.within_iff s).mp h |>.2.2.1 l))

@[simp] theorem State.within_movePending (s : State) (l : Lane) (hs : s.withinPlaces = true) :
    (s.movePending l).withinPlaces = true := by
  unfold State.movePending
  dsimp only
  repeat' split
  · exact hs
  · exact hs
  · rename_i h _ _ _
    have h : ¬ 8 ≤ (s.disp.queues.get l).length := h
    exact State.within_joinQueue s _ l _ hs rfl (by simp only [List.length_append, List.length_cons, List.length_nil]; omega)

@[simp] theorem State.within_startJob (s : State) (l : Lane) (j : Job) (hs : s.withinPlaces = true) :
    (s.startJob l j).withinPlaces = true := by
  unfold State.startJob
  try dsimp only
  repeat' split
  all_goals simp (maxDischargeDepth := 20) [hs, List.tail_sublist, List.filter_sublist, List.length_filter_le]

@[simp] theorem State.within_laneTake (s : State) (l : Lane) (hs : s.withinPlaces = true) :
    (s.laneTake l).withinPlaces = true := by
  unfold State.laneTake
  repeat' split
  · exact hs
  · exact State.within_movePending _ _ (State.within_startJob _ _ _ (State.within_leaveQueue s _ l _ hs rfl
      (List.length_filter_le _ _)))
  · exact hs

@[simp] theorem State.within_laneFree (s : State) (l : Lane) (hs : s.withinPlaces = true) :
    (s.laneFree l).withinPlaces = true := by
  unfold State.laneFree
  try dsimp only
  repeat' split
  all_goals simp (maxDischargeDepth := 20) [hs, List.tail_sublist, List.filter_sublist, List.length_filter_le]

@[simp] theorem State.within_dispatchEncode (s : State) (p : Page) (band : Nat) (x : Link) (t : SlotId) (comp : Nat) (hs : s.withinPlaces = true) :
    (State.dispatchEncode p band x t s comp).withinPlaces = true := by
  unfold State.dispatchEncode
  dsimp only
  split
  · rename_i h
    simp only [Config.laneQueuePlaces] at h
    refine State.within_laneTake _ _ (State.within_joinQueue _ _ _ _ (State.within_modDisp s _ hs (by simp)) rfl ?_)
    have h : (s.disp.queues.get (s.disp.destined p.id band comp)).length < 8 := h
    simp only [List.length_append, List.length_cons, List.length_nil, State.modDisp_disp]
    omega
  · exact State.within_modDisp _ _ (State.within_modDisp s _ hs (by simp)) (by simp [Dispatcher.setPending])

@[simp] theorem State.within_removedJob (s : State) (c : Refuse) (j : Job) (hs : s.withinPlaces = true) :
    (State.removedJob c s j).withinPlaces = true := by
  unfold State.removedJob
  try dsimp only
  repeat' split
  all_goals simp (maxDischargeDepth := 20) [hs, List.tail_sublist, List.filter_sublist, List.length_filter_le]

@[simp] theorem State.within_movePendings (s : State) (l : Lane) (n : Nat) (hs : s.withinPlaces = true) :
    (s.movePendings l n).withinPlaces = true := by
  induction n generalizing s with
  | zero => exact hs
  | succ n ih => exact ih _ (by simp (maxDischargeDepth := 20) [hs, List.tail_sublist, List.filter_sublist, List.length_filter_le])

@[simp] theorem State.within_takeOutJobs (s : State) (g : Job → Bool) (hs : s.withinPlaces = true) :
    (s.takeOutJobs g).withinPlaces = true := by
  unfold State.takeOutJobs
  refine State.within_foldl _ (fun t l ht => State.within_movePendings t l _ ht) _ _ (State.within_modDisp s _ hs ?_)
  intro d l
  cases l <;> exact List.length_filter_le _ _

@[simp] theorem State.within_removeJobs (s : State) (page : Nat) (c : Refuse) (hs : s.withinPlaces = true) :
    (s.removeJobs page c).withinPlaces = true := by
  unfold State.removeJobs
  exact State.within_foldl _ (fun t j ht => State.within_removedJob t c j ht) _ _ (State.within_takeOutJobs _ _ hs)

@[simp] theorem State.within_beginRelease (s : State) (page : Nat) (hs : s.withinPlaces = true) :
    (s.beginRelease page).withinPlaces = true := by
  unfold State.beginRelease
  try dsimp only
  repeat' split
  all_goals simp (maxDischargeDepth := 20) [hs, List.tail_sublist, List.filter_sublist, List.length_filter_le]

@[simp] theorem State.within_endWork (s : State) (page : Nat) (hs : s.withinPlaces = true) :
    (s.endWork page).withinPlaces = true := by
  unfold State.endWork
  try dsimp only
  repeat' split
  all_goals simp (maxDischargeDepth := 20) [hs, List.tail_sublist, List.filter_sublist, List.length_filter_le]

@[simp] theorem State.within_failPage (s : State) (page : Nat) (c : FailCause) (hs : s.withinPlaces = true) :
    (s.failPage page c).withinPlaces = true := by
  unfold State.failPage
  dsimp only
  repeat' split
  all_goals simp (maxDischargeDepth := 20) [hs, State.within_ceaseIntake]

@[simp] theorem State.within_addStream (s : State) (x : Link) (page : Nat) (mk : Nat → Stream) (hs : s.withinPlaces = true) :
    (s.addStream x page mk).withinPlaces = true := by
  unfold State.addStream
  dsimp only
  exact State.within_modLink_le (s.modPage page fun p => { p with streamRefs := p.streamRefs + 1 }) x
    (fun c => ({ c with streams := c.streams ++ [mk s.nextTicket] } : LinkCtl).noteWait) (by simp [hs]) (by simp)
    (by intro c; rw [LinkCtl.noteWait_generalUse]; exact Nat.le_refl _)

@[simp] theorem State.within_sealPage (s : State) (p : Page) (hs : s.withinPlaces = true) :
    (s.sealPage p).withinPlaces = true := by
  unfold State.sealPage
  try dsimp only
  repeat' split
  all_goals simp (maxDischargeDepth := 20) [hs, List.tail_sublist, List.filter_sublist, List.length_filter_le]

@[simp] theorem State.within_recordStored (s : State) (page : Nat) (hs : s.withinPlaces = true) :
    (s.recordStored page).withinPlaces = true := by
  unfold State.recordStored
  try dsimp only
  repeat' split
  all_goals simp (maxDischargeDepth := 20) [hs, List.tail_sublist, List.filter_sublist, List.length_filter_le]

@[simp] theorem State.within_pageGone (s : State) (x : Link) (page : Nat) (hs : s.withinPlaces = true) :
    (s.modLink x (LinkCtl.pageGone page)).withinPlaces = true := State.within_modLink_same s x _ hs (fun _ => rfl) (fun _ => rfl) (fun _ => rfl) (fun _ => rfl)

@[simp] theorem State.within_endRelease (s : State) (r : Release) (p : Page) (hs : s.withinPlaces = true) :
    (s.endRelease r p).withinPlaces = true := by
  unfold State.endRelease
  try dsimp only
  repeat' split
  all_goals simp (maxDischargeDepth := 20) [hs, List.tail_sublist, List.filter_sublist, List.length_filter_le]

@[simp] theorem State.within_encodeOver (s : State) (l : Lane) (j : Job) (hs : s.withinPlaces = true) :
    (s.encodeOver l j).withinPlaces = true := by
  unfold State.encodeOver
  try dsimp only
  repeat' split
  all_goals simp (maxDischargeDepth := 20) [hs, List.tail_sublist, List.filter_sublist, List.length_filter_le]

@[simp] theorem State.within_encodeFail (s : State) (l : Lane) (j : Job) (r : EncodeRun) (c : FailCause) (hs : s.withinPlaces = true) :
    (s.encodeFail l j r c).withinPlaces = true := by
  unfold State.encodeFail
  try dsimp only
  repeat' split
  all_goals simp (maxDischargeDepth := 20) [hs, List.tail_sublist, List.filter_sublist, List.length_filter_le]

theorem State.within_takeHeadExtent {owner : Nat} {use : ExtentUse} {s t : State} {e : Nat}
    (hh : s.takeHeadExtent owner use = some (e, t)) (h : s.withinPlaces = true) : t.withinPlaces = true := by
  unfold State.takeHeadExtent at hh
  split at hh
  · simp at hh
  · simp only [Option.some.injEq, Prod.mk.injEq] at hh
    rw [← hh.2]
    exact State.within_reportFall _ _ h

theorem State.within_takePayload {owner index : Nat} {last : Option Nat} {s t : State} {e : Nat}
    (hh : s.takePayload owner index last = some (e, t)) (h : s.withinPlaces = true) : t.withinPlaces = true := by
  unfold State.takePayload at hh
  split at hh
  · exact State.within_takeHeadExtent hh h
  · split at hh
    · split at hh
      · simp at hh
      · simp only [Option.some.injEq, Prod.mk.injEq] at hh
        rw [← hh.2]
        exact State.within_reportFall _ _ h
    · simp at hh

@[simp] theorem State.within_encodeSettle (s : State) (l : Lane) (j : Job) (r : EncodeRun) (hs : s.withinPlaces = true) :
    (s.encodeSettle l j r).withinPlaces = true := by
  unfold State.encodeSettle
  repeat' split
  · rename_i hh
    simp [State.within_takePayload hh hs]
  all_goals simp (maxDischargeDepth := 20) [hs, List.tail_sublist, List.filter_sublist, List.length_filter_le]

@[simp] theorem State.within_encodeBurst (s : State) (l : Lane) (j : Job) (r : EncodeRun) (b : Burst) (ws : List ReadWord) (hs : s.withinPlaces = true) :
    (s.encodeBurst l j r b ws).withinPlaces = true := by
  unfold State.encodeBurst
  try dsimp only
  repeat' split
  all_goals simp (maxDischargeDepth := 20) [hs, List.tail_sublist, List.filter_sublist, List.length_filter_le]

@[simp] theorem State.within_encodeEnded (s : State) (l : Lane) (j : Job) (r : EncodeRun) (hs : s.withinPlaces = true) :
    (s.encodeEnded l j r).withinPlaces = true := by
  unfold State.encodeEnded
  try dsimp only
  repeat' split
  all_goals simp (maxDischargeDepth := 20) [hs, List.tail_sublist, List.filter_sublist, List.length_filter_le]

@[simp] theorem State.within_proofOver (s : State) (l : Lane) (j : Job) (hs : s.withinPlaces = true) :
    (s.proofOver l j).withinPlaces = true := by
  unfold State.proofOver
  try dsimp only
  repeat' split
  all_goals simp (maxDischargeDepth := 20) [hs, List.tail_sublist, List.filter_sublist, List.length_filter_le]

@[simp] theorem State.within_proofReply (s : State) (j : Job) (r : ReplyResult) (hs : s.withinPlaces = true) :
    (s.proofReply j r).withinPlaces = true := by
  unfold State.proofReply
  try dsimp only
  repeat' split
  all_goals simp (maxDischargeDepth := 20) [hs, List.tail_sublist, List.filter_sublist, List.length_filter_le]

@[simp] theorem State.within_proofFail (s : State) (l : Lane) (j : Job) (r : BandRecord) (c : Detail) (row : Nat) (hs : s.withinPlaces = true) :
    (s.proofFail l j r c row).withinPlaces = true := by
  unfold State.proofFail
  try dsimp only
  repeat' split
  all_goals simp (maxDischargeDepth := 20) [hs, List.tail_sublist, List.filter_sublist, List.length_filter_le]

@[simp] theorem State.within_proofDone (s : State) (l : Lane) (j : Job) (r : BandRecord) (hr : Nat) (hs : s.withinPlaces = true) :
    (s.proofDone l j r hr).withinPlaces = true := by
  unfold State.proofDone
  try dsimp only
  repeat' split
  all_goals simp (maxDischargeDepth := 20) [hs, List.tail_sublist, List.filter_sublist, List.length_filter_le]

@[simp] theorem State.within_proofAdvance (s : State) (l : Lane) (j : Job) (r : BandRecord) (n : Nat) (k : Decoder) (hs : s.withinPlaces = true) :
    (s.proofAdvance l j r n k).withinPlaces = true := by
  induction n generalizing s k with
  | zero => exact hs
  | succ n ih =>
    unfold State.proofAdvance
    split
    · simp (maxDischargeDepth := 20) [hs, List.tail_sublist, List.filter_sublist, List.length_filter_le]
    · split
      · simp (maxDischargeDepth := 20) [hs, List.tail_sublist, List.filter_sublist, List.length_filter_le]
      · simp (maxDischargeDepth := 20) [hs, List.tail_sublist, List.filter_sublist, List.length_filter_le]
      · split
        · rename_i hh
          have h2 := congrArg (fun q : List OutFrame × State => q.2.withinPlaces) hh
          exact ih _ _ (h2.symm.trans (State.within_placeRows _ _ _ _ hs))
        · rename_i hh
          have h2 := congrArg (fun q : List OutFrame × State => q.2.withinPlaces) hh
          exact (State.within_setLane _ _ _).trans (h2.symm.trans (State.within_placeRows _ _ _ _ hs))

@[simp] theorem State.within_proofRun (s : State) (l : Lane) (j : Job) (r : BandRecord) (k : Decoder) (hs : s.withinPlaces = true) :
    (s.proofRun l j r k).withinPlaces = true := by
  unfold State.proofRun
  try dsimp only
  repeat' split
  all_goals simp (maxDischargeDepth := 20) [hs, List.tail_sublist, List.filter_sublist, List.length_filter_le]

@[simp] theorem State.within_proofRecord (s : State) (l : Lane) (j : Job) (e : TableEnd) (hs : s.withinPlaces = true) :
    (s.proofRecord l j e).withinPlaces = true := by
  unfold State.proofRecord
  try dsimp only
  repeat' split
  all_goals simp (maxDischargeDepth := 20) [hs, List.tail_sublist, List.filter_sublist, List.length_filter_le]

@[simp] theorem State.within_proofAbandon (s : State) (l : Lane) (j : Job) (hs : s.withinPlaces = true) :
    (s.proofAbandon l j).withinPlaces = true := by
  unfold State.proofAbandon
  try dsimp only
  repeat' split
  all_goals simp (maxDischargeDepth := 20) [hs, List.tail_sublist, List.filter_sublist, List.length_filter_le]

@[simp] theorem State.within_endReadBack (s : State) (x : Link) (st : Stream) (k : Nat) (r : ReplyResult) (hs : s.withinPlaces = true) :
    (s.endReadBack x st k r).withinPlaces = true := by
  unfold State.endReadBack
  refine State.within_dropStreamRef _ _ (State.within_modLink_le _ x _ (State.within_answer s x k r hs) (by
    intro c; simp [LinkCtl.dropStream]) ?_)
  intro c
  rw [LinkCtl.dropStream, LinkCtl.noteWait_generalUse]
  simp only [LinkCtl.generalUse, Option.toList, List.length_nil]
  omega

theorem State.within_placeFilled (s : State) (x : Link) (f : OutFrame) (hs : s.withinPlaces = true)
    (hf : (s.link x).filling.isSome = true) : (s.placeFilled x f).withinPlaces = true :=
  State.within_modLink s x _ hs fun hc => LinkCtl.roomy_placeFilled hc hf f

theorem State.within_copyMarked (s : State) (x : Link) (st : Stream) (f : OutFrame) (hs : s.withinPlaces = true)
    (hf : (s.link x).filling.isSome = true) : (s.copyMarked x st f).withinPlaces = true := by
  unfold State.copyMarked
  refine State.within_placeFilled _ x f (by simp [hs]) ?_
  rw [State.link_modLink_self]
  exact hf

@[simp] theorem State.payloadDamage_links (s : State) (page index : Nat) (r : BandRecord) (b : Bool) :
    (s.payloadDamage page index r b).links = s.links := by
  unfold State.payloadDamage
  dsimp only
  repeat' split
  all_goals rfl

theorem State.within_streamFail (s : State) (x : Link) (st : Stream) (c : Detail) (ws : List Word) (w : Nat)
    (hs : s.withinPlaces = true) (hf : (s.link x).filling.isSome = true) :
    (s.streamFail x st c ws w).withinPlaces = true := by
  unfold State.streamFail
  split
  · exact State.within_copyMarked _ x _ _ (by simp [hs]) (by simpa [State.link] using hf)
  all_goals simp (maxDischargeDepth := 20) [hs, List.tail_sublist, List.filter_sublist, List.length_filter_le]

theorem State.within_streamSettle (s : State) (x : Link) (st : Stream) (ws : List Word) (hs : s.withinPlaces = true)
    (hf : (s.link x).filling.isSome = true) : (s.streamSettle x st ws).withinPlaces = true := by
  unfold State.streamSettle
  split
  · exact State.within_streamFail s x st _ ws _ hs hf
  · refine State.within_modLink s x _ hs fun hc => LinkCtl.roomy_of_le hc (Nat.le_refl _) ?_
    obtain ⟨v, hv⟩ := Option.isSome_iff_exists.mp hf
    simp [LinkCtl.generalUse, LinkCtl.setStream, hv]

@[simp] theorem State.within_streamBurst (s : State) (x : Link) (ws : List ReadWord) (hs : s.withinPlaces = true) :
    (s.streamBurst x ws).withinPlaces = true := by
  unfold State.streamBurst
  split
  · exact hs
  · rename_i f hf
    have h : (s.link x).filling.isSome = true := by rw [hf]; rfl
    split
    · exact hs
    · rename_i st _
      dsimp only
      generalize hg : (if st.kind.checked = true then _ else none : Option Nat) = o
      clear hg
      cases o
      · exact State.within_streamSettle s x _ _ hs h
      · exact State.within_streamFail s x _ _ _ _ hs h

theorem State.within_streamClaim (s : State) (x : Link) (hs : s.withinPlaces = true)
    (hp : (s.link x).hasPlace = true) (hf : (s.link x).filling = none) : (s.streamClaim x).withinPlaces = true := by
  unfold State.streamClaim
  split
  · exact hs
  · rename_i st _
    have h1 : State.withinPlaces (s.modLink x fun c =>
        ({ c with filling := some ⟨st.serial, []⟩, turn := some st.serial,
                  waiters := c.waiters.filter (· != .engine) } : LinkCtl).noteWait) = true := by
      refine State.within_modLink s x _ hs fun hc => LinkCtl.roomy_noteWait ?_
      rw [LinkCtl.roomy_iff] at hc ⊢
      simp only [LinkCtl.hasPlace, decide_eq_true_eq] at hp
      have hp : (s.link x).generalUse < 24 := hp
      refine ⟨hc.1, ?_⟩
      simp only [LinkCtl.generalUse, hf, Option.toList, List.length_cons, List.length_nil] at hp ⊢
      omega
    dsimp only
    split
    · exact State.within_streamSettle _ x _ _ h1 (by simp)
    · split
      · exact State.within_placeRead _ _ _ _ _ _ h1
      · exact h1

theorem State.within_streamPlaced (s : State) (x : Link) (st : Stream) (ws : List Word) (hs : s.withinPlaces = true)
    (hf : (s.link x).filling.isSome = true) : (s.streamPlaced x st ws).withinPlaces = true := by
  unfold State.streamPlaced
  have h1 := State.within_placeFilled s x (st.frame none ws 0) hs hf
  dsimp only
  repeat' split
  · exact State.within_modLink_setStream _ _ _ h1
  · exact State.within_modLink_le _ x _ h1 (by simp [LinkCtl.setStream]) (by
      intro c; rw [LinkCtl.noteWait_generalUse]; exact Nat.le_refl _)
  all_goals simp (maxDischargeDepth := 20) [h1]

theorem State.within_copyRecord (s : State) (x : Link) (st : Stream) (e : TableEnd) (hs : s.withinPlaces = true)
    (hf : (s.link x).filling.isSome = true) : (s.copyRecord x st e).withinPlaces = true := by
  unfold State.copyRecord
  dsimp only
  repeat' split
  · exact State.within_copyMarked _ x _ _ (by simp [hs]) hf
  · exact State.within_streamSettle _ x _ _ hs hf
  · exact State.within_streamFail _ x _ _ _ _ hs hf

@[simp] theorem State.within_readBandRecord (s : State) (x : Link) (q : RecordRead) (e : TableEnd) (hs : s.withinPlaces = true) :
    (s.readBandRecord x q e).withinPlaces = true := by
  unfold State.readBandRecord
  try dsimp only
  repeat' split
  all_goals simp (maxDischargeDepth := 20) [hs, List.tail_sublist, List.filter_sublist, List.length_filter_le]

@[simp] theorem State.within_refusePixels (s : State) (x : Link) (tag : Byte) (c : Refuse) (hs : s.withinPlaces = true) :
    (s.refusePixels x tag c).withinPlaces = true := State.within_modLink_reply s x _ _ _ hs

@[simp] theorem State.within_takePixels (s : State) (x : Link) (p : Page) (q : PixelFields) (hs : s.withinPlaces = true) :
    (s.takePixels x p q).withinPlaces = true := by
  unfold State.takePixels
  try dsimp only
  repeat' split
  all_goals simp (maxDischargeDepth := 20) [hs, List.tail_sublist, List.filter_sublist, List.length_filter_le]

@[simp] theorem State.within_checkPixels (s : State) (x : Link) (tag : Byte) (body : List Byte) (hs : s.withinPlaces = true) :
    (s.checkPixels x tag body).withinPlaces = true := by
  unfold State.checkPixels
  try dsimp only
  repeat' split
  all_goals simp (maxDischargeDepth := 20) [hs, List.tail_sublist, List.filter_sublist, List.length_filter_le]

@[simp] theorem State.within_servePixels (s : State) (x : Link) (f : Frame) (hs : s.withinPlaces = true) :
    (s.servePixels x f).withinPlaces = true := by
  unfold State.servePixels
  try dsimp only
  repeat' split
  all_goals simp (maxDischargeDepth := 20) [hs, List.tail_sublist, List.filter_sublist, List.length_filter_le]

@[simp] theorem State.within_checkWaiting (s : State) (x : Link) (n : Nat) (hs : s.withinPlaces = true) :
    (s.checkWaiting x n).withinPlaces = true := by
  induction n generalizing s with
  | zero => exact hs
  | succ n ih =>
    unfold State.checkWaiting
    split
    · exact ih _ (by simp (maxDischargeDepth := 20) [hs, List.tail_sublist, List.filter_sublist, List.length_filter_le])
    · exact hs

@[simp] theorem State.within_bandComplete (s : State) (x : Link) (p : Page) (t : SlotId) (band rows : Nat) (o : Slot) (hs : s.withinPlaces = true) :
    (s.bandComplete x p t band rows o).withinPlaces = true := by
  unfold State.bandComplete
  dsimp only
  have h1 := State.within_foldl (State.dispatchEncode p band x t) (fun t' i ht => State.within_dispatchEncode t' p band x t i ht)
    (List.range p.c) (s.modIntake x fun k => { k with slots := k.slots.set t ⟨.waiting, some p.id, some band, rows, p.c⟩ }) hs
  split <;> simp [h1]

@[simp] theorem State.within_slotTakes (s : State) (x : Link) (p : Page) (hb : Nat) (t : SlotId) (band next : Nat) (o : Slot) (hs : s.withinPlaces = true) :
    (s.slotTakes x p hb t band next o).withinPlaces = true := by
  unfold State.slotTakes
  try dsimp only
  repeat' split
  all_goals simp (maxDischargeDepth := 20) [hs, List.tail_sublist, List.filter_sublist, List.length_filter_le]

@[simp] theorem State.within_framesEffects (s : State) (x : Link) (p : Page) (f : FrameWriting) (hs : s.withinPlaces = true) :
    (s.framesEffects x p f).withinPlaces = true := by
  unfold State.framesEffects
  try dsimp only
  repeat' split
  all_goals simp (maxDischargeDepth := 20) [hs, List.tail_sublist, List.filter_sublist, List.length_filter_le]

@[simp] theorem State.within_pixelsWritten (s : State) (x : Link) (f : FrameWriting) (hs : s.withinPlaces = true) :
    (s.pixelsWritten x f).withinPlaces = true := by
  unfold State.pixelsWritten
  try dsimp only
  repeat' split
  all_goals simp (maxDischargeDepth := 20) [hs, List.tail_sublist, List.filter_sublist, List.length_filter_le]

@[simp] theorem State.within_startBurst (s : State) (b : Burst) (hs : s.withinPlaces = true) :
    (s.startBurst b).withinPlaces = true := by
  unfold State.startBurst
  try dsimp only
  repeat' split
  all_goals simp (maxDischargeDepth := 20) [hs, List.tail_sublist, List.filter_sublist, List.length_filter_le]

@[simp] theorem State.within_grantUrgent (s : State) (b : Burst) (hs : s.withinPlaces = true) :
    (s.grantUrgent b).withinPlaces = true := by
  unfold State.grantUrgent
  try dsimp only
  repeat' split
  all_goals simp (maxDischargeDepth := 20) [hs, List.tail_sublist, List.filter_sublist, List.length_filter_le]

@[simp] theorem State.within_grantRun (s : State) (b : Burst) (hs : s.withinPlaces = true) :
    (s.grantRun b).withinPlaces = true := by
  unfold State.grantRun
  try dsimp only
  repeat' split
  all_goals simp (maxDischargeDepth := 20) [hs, List.tail_sublist, List.filter_sublist, List.length_filter_le]

@[simp] theorem State.within_extendRun (s : State) (b : Burst) (hs : s.withinPlaces = true) :
    (s.extendRun b).withinPlaces = true := by
  unfold State.extendRun
  try dsimp only
  repeat' split
  all_goals simp (maxDischargeDepth := 20) [hs, List.tail_sublist, List.filter_sublist, List.length_filter_le]

@[simp] theorem State.within_grantRefresh (s : State)  (hs : s.withinPlaces = true) :
    (s.grantRefresh).withinPlaces = true := by
  unfold State.grantRefresh
  try dsimp only
  repeat' split
  all_goals simp (maxDischargeDepth := 20) [hs, List.tail_sublist, List.filter_sublist, List.length_filter_le]

@[simp] theorem State.within_grantDecision (s : State)  (hs : s.withinPlaces = true) :
    (s.grantDecision).withinPlaces = true := by
  unfold State.grantDecision
  try dsimp only
  repeat' split
  all_goals simp (maxDischargeDepth := 20) [hs, List.tail_sublist, List.filter_sublist, List.length_filter_le]

@[simp] theorem State.within_arbitrate (s : State)  (hs : s.withinPlaces = true) :
    (s.arbitrate).withinPlaces = true := by
  unfold State.arbitrate
  try dsimp only
  repeat' split
  all_goals simp (maxDischargeDepth := 20) [hs, List.tail_sublist, List.filter_sublist, List.length_filter_le]

@[simp] theorem State.within_tableMade (s : State) (op : TableOp) (ws : List ReadWord) (hs : s.withinPlaces = true) :
    (s.tableMade op ws).withinPlaces = true := by
  unfold State.tableMade
  try dsimp only
  repeat' split
  all_goals simp (maxDischargeDepth := 20) [hs, List.tail_sublist, List.filter_sublist, List.length_filter_le]

@[simp] theorem State.within_deliver (s : State) (b : Burst) (ws : List ReadWord) (hs : s.withinPlaces = true) :
    (s.deliver b ws).withinPlaces = true := by
  unfold State.deliver
  try dsimp only
  repeat' split
  all_goals simp (maxDischargeDepth := 20) [hs, List.tail_sublist, List.filter_sublist, List.length_filter_le]

@[simp] theorem State.within_servePrint (s : State) (x : Link) (f : Frame) (hs : s.withinPlaces = true) :
    (s.servePrint x f).withinPlaces = true := by
  unfold State.servePrint
  dsimp only
  split
  · simp [hs]
  · split
    · simp [hs]
    · split
      · simp [hs]
      · rename_i h
        simp only [Config.schedulePlaces] at h
        have h1 : ∀ g : PrintEntry, State.withinPlaces (s.modPress fun f =>
            { f with schedule := f.schedule ++ [g], nextSerial := f.nextSerial + 1 }) = true := by
          intro g
          have h2 := (State.within_iff s).mp hs
          rw [State.within_iff]
          refine ⟨h2.1, h2.2.1, h2.2.2.1, ?_, h2.2.2.2.2⟩
          simp only [State.modPress_press, List.length_append, List.length_cons, List.length_nil]
          omega
        split <;> simp (maxDischargeDepth := 20) [h1]

@[simp] theorem State.within_serveCancelPrint (s : State) (x : Link) (f : Frame) (hs : s.withinPlaces = true) :
    (s.serveCancelPrint x f).withinPlaces = true := by
  unfold State.serveCancelPrint
  try dsimp only
  repeat' split
  all_goals simp (maxDischargeDepth := 20) [hs, List.tail_sublist, List.filter_sublist, List.length_filter_le]

@[simp] theorem State.within_serveSetPress (s : State) (x : Link) (f : Frame) (hs : s.withinPlaces = true) :
    (s.serveSetPress x f).withinPlaces = true := by
  unfold State.serveSetPress
  try dsimp only
  repeat' split
  all_goals simp (maxDischargeDepth := 20) [hs, List.tail_sublist, List.filter_sublist, List.length_filter_le]

@[simp] theorem State.within_answerPress (s : State) (l : List Answer) (hs : s.withinPlaces = true) :
    (s.answerPress l).withinPlaces = true := by
  unfold State.answerPress
  try dsimp only
  repeat' split
  all_goals simp (maxDischargeDepth := 20) [hs, List.tail_sublist, List.filter_sublist, List.length_filter_le]

@[simp] theorem State.within_wake (s : State) (w : WakeCause) (h : Bool) (hs : s.withinPlaces = true) :
    (s.wake w h).withinPlaces = true := by
  unfold State.wake
  try dsimp only
  repeat' split
  all_goals simp (maxDischargeDepth := 20) [hs, List.tail_sublist, List.filter_sublist, List.length_filter_le]

@[simp] theorem State.within_beginSheet (s : State) (e : PrintEntry) (p : Page) (hs : s.withinPlaces = true) :
    (s.beginSheet e p).withinPlaces = true := by
  unfold State.beginSheet
  try dsimp only
  repeat' split
  all_goals simp (maxDischargeDepth := 20) [hs, List.tail_sublist, List.filter_sublist, List.length_filter_le]

@[simp] theorem State.within_takeSheetStart (s : State)  (hs : s.withinPlaces = true) :
    (s.takeSheetStart).withinPlaces = true := by
  unfold State.takeSheetStart
  try dsimp only
  repeat' split
  all_goals simp (maxDischargeDepth := 20) [hs, List.tail_sublist, List.filter_sublist, List.length_filter_le]

@[simp] theorem State.within_sheetDone (s : State) (e : PrintEntry) (hs : s.withinPlaces = true) :
    (s.sheetDone e).withinPlaces = true := by
  unfold State.sheetDone
  try dsimp only
  repeat' split
  all_goals simp (maxDischargeDepth := 20) [hs, List.tail_sublist, List.filter_sublist, List.length_filter_le]

@[simp] theorem State.within_sendLine (s : State) (e : PrintEntry) (p : Page) (hs : s.withinPlaces = true) :
    (s.sendLine e p).withinPlaces = true := by
  unfold State.sendLine
  try dsimp only
  repeat' split
  all_goals simp (maxDischargeDepth := 20) [hs, List.tail_sublist, List.filter_sublist, List.length_filter_le]

@[simp] theorem State.within_takeLineRequest (s : State)  (hs : s.withinPlaces = true) :
    (s.takeLineRequest).withinPlaces = true := by
  unfold State.takeLineRequest
  try dsimp only
  repeat' split
  all_goals simp (maxDischargeDepth := 20) [hs, List.tail_sublist, List.filter_sublist, List.length_filter_le]

@[simp] theorem State.within_takeSheetAbort (s : State)  (hs : s.withinPlaces = true) :
    (s.takeSheetAbort).withinPlaces = true := by
  unfold State.takeSheetAbort
  try dsimp only
  repeat' split
  all_goals simp (maxDischargeDepth := 20) [hs, List.tail_sublist, List.filter_sublist, List.length_filter_le]

@[simp] theorem State.within_uncountSheet (s : State) (hs : s.withinPlaces = true) :
    (s.uncountSheet).withinPlaces = true := by
  unfold State.uncountSheet
  split
  · rename_i e _ _
    split
    · exact State.within_modPress s _ hs (by simp) (by simp)
    · split
      · rename_i h
        have h1 : State.withinPlaces (s.modPress fun f => { f with schedule := e :: f.schedule }) = true := by
          have h2 := (State.within_iff s).mp hs
          rw [State.within_iff]
          refine ⟨h2.1, h2.2.1, h2.2.2.1, ?_, h2.2.2.2.2⟩
          simp only [Config.schedulePlaces] at h
          simp only [State.modPress_press, List.length_cons]
          omega
        simp (maxDischargeDepth := 20) [h1]
      · exact hs
  · exact hs

@[simp] theorem State.within_takeSignal (s : State) (g : PressSignal) (hs : s.withinPlaces = true) :
    (s.takeSignal g).withinPlaces = true := by
  unfold State.takeSignal
  try dsimp only
  repeat' split
  all_goals simp (maxDischargeDepth := 20) [hs, List.tail_sublist, List.filter_sublist, List.length_filter_le]

@[simp] theorem State.within_pressSignal (s : State) (g : PressSignal) (hs : s.withinPlaces = true) :
    (s.pressSignal g).withinPlaces = true := by
  unfold State.pressSignal
  try dsimp only
  repeat' split
  all_goals simp (maxDischargeDepth := 20) [hs, List.tail_sublist, List.filter_sublist, List.length_filter_le]

@[simp] theorem State.within_drainSignals (s : State) (n : Nat) (hs : s.withinPlaces = true) :
    (s.drainSignals n).withinPlaces = true := by
  induction n generalizing s with
  | zero => exact hs
  | succ n ih =>
    unfold State.drainSignals
    split
    · exact ih _ (by simp (maxDischargeDepth := 20) [hs, List.tail_sublist, List.filter_sublist, List.length_filter_le])
    · exact hs

@[simp] theorem State.within_takeWaitingSignals (s : State)  (hs : s.withinPlaces = true) :
    (s.takeWaitingSignals).withinPlaces = true := by
  unfold State.takeWaitingSignals
  try dsimp only
  repeat' split
  all_goals simp (maxDischargeDepth := 20) [hs, List.tail_sublist, List.filter_sublist, List.length_filter_le]

@[simp] theorem State.within_cutAnswers (s : State) (h : s.withinPlaces = true) :
    (s.modPress PressFeed.cutAnswers).withinPlaces = true := by
  refine State.within_modPress s _ h (fun c => ?_) (fun c => ?_)
  all_goals
    unfold PressFeed.cutAnswers
    split <;> simp

@[simp] theorem State.within_pressResetNow (s : State)  (hs : s.withinPlaces = true) :
    (s.pressResetNow).withinPlaces = true := by
  unfold State.pressResetNow
  try dsimp only
  repeat' split
  all_goals simp (maxDischargeDepth := 20) [hs, List.tail_sublist, List.filter_sublist, List.length_filter_le]

@[simp] theorem State.within_takeHold (s : State) (x : Link) (f : Frame) (hs : s.withinPlaces = true) :
    (s.takeHold x f).withinPlaces = true := State.within_modLink_same s x _ hs (fun _ => rfl) (fun _ => rfl) (fun _ => rfl) (fun _ => rfl)

@[simp] theorem State.within_takeResume (s : State) (x : Link) (hs : s.withinPlaces = true) :
    (s.takeResume x).withinPlaces = true := by
  refine State.within_modLink s x _ hs fun hc => ?_
  unfold LinkCtl.endHold
  split
  · exact LinkCtl.roomy_startSend (LinkCtl.roomy_of_same hc rfl rfl rfl rfl)
  · exact hc

@[simp] theorem State.within_frameIn (s : State) (x : Link) (f : Frame) (hs : s.withinPlaces = true) :
    (s.frameIn x f).withinPlaces = true := by
  unfold State.frameIn
  repeat' split
  · simp [hs]
  · simp [hs]
  · exact State.within_modLink_same s x _ hs (fun _ => rfl) (fun _ => rfl) (fun _ => rfl) (fun _ => rfl)
  · exact State.within_modLink_same s x _ hs (fun _ => rfl) (fun _ => rfl) (fun _ => rfl) (fun _ => rfl)

@[simp] theorem State.within_abortStreams (s : State) (x : Link) (hs : s.withinPlaces = true) :
    (s.abortStreams x).withinPlaces = true := by
  unfold State.abortStreams
  exact State.within_foldl _ (fun t (st : Stream) ht => (State.within_dropStreamRef t st.page ht)) _ _ hs

@[simp] theorem State.within_resetIntake (s : State) (x : Link) (hs : s.withinPlaces = true) :
    (s.resetIntake x).withinPlaces = true := by
  unfold State.resetIntake
  try dsimp only
  repeat' split
  all_goals simp (maxDischargeDepth := 20) [hs, List.tail_sublist, List.filter_sublist, List.length_filter_le]

@[simp] theorem State.within_abandonProof (s : State) (x : Link) (l : Lane) (hs : s.withinPlaces = true) :
    (State.abandonProof x s l).withinPlaces = true := by
  unfold State.abandonProof
  try dsimp only
  repeat' split
  all_goals simp (maxDischargeDepth := 20) [hs, List.tail_sublist, List.filter_sublist, List.length_filter_le]

@[simp] theorem State.within_resetProofs (s : State) (x : Link) (hs : s.withinPlaces = true) :
    (s.resetProofs x).withinPlaces = true := by
  unfold State.resetProofs
  exact State.within_foldl _ (fun t l ht => State.within_abandonProof t x l ht) _ _ (State.within_takeOutJobs _ _ hs)

@[simp] theorem State.within_endListing (s : State) (q : Listing) (hs : s.withinPlaces = true) :
    (s.endListing q).withinPlaces = true := by
  unfold State.endListing
  try dsimp only
  repeat' split
  all_goals simp (maxDischargeDepth := 20) [hs, List.tail_sublist, List.filter_sublist, List.length_filter_le]

@[simp] theorem State.within_resetListings (s : State) (x : Link) (hs : s.withinPlaces = true) :
    (s.resetListings x).withinPlaces = true := by
  unfold State.resetListings
  exact State.within_foldl _ (fun t q ht => State.within_endListing t q ht) _ _ hs

@[simp] theorem State.within_resetWake (s : State) (x : Link) (hs : s.withinPlaces = true) :
    (s.resetWake x).withinPlaces = true := by
  unfold State.resetWake
  try dsimp only
  repeat' split
  all_goals simp (maxDischargeDepth := 20) [hs, List.tail_sublist, List.filter_sublist, List.length_filter_le]

@[simp] theorem State.within_resetLink (s : State) (x : Link) (hs : s.withinPlaces = true) :
    (s.resetLink x).withinPlaces = true := by
  unfold State.resetLink
  refine State.within_resetListings _ _ (State.within_resetProofs _ _ (State.within_resetIntake _ _
    (State.within_resetWake _ _ (State.within_modLink _ x _ (State.within_abortStreams s x hs) fun h => ?_))))
  unfold LinkCtl.reset
  split
  · exact LinkCtl.roomy_of_same h rfl rfl rfl rfl
  · exact LinkCtl.roomy_of_same LinkCtl.roomy_initial rfl rfl rfl rfl

@[simp] theorem State.within_serveClearStatus (s : State) (x : Link) (f : Frame) (hs : s.withinPlaces = true) :
    (s.serveClearStatus x f).withinPlaces = true := by
  unfold State.serveClearStatus
  exact State.within_reply _ _ _ _ (State.within_modLink_same s x _ hs (fun _ => rfl) (fun _ => rfl) (fun _ => rfl)
    (fun _ => rfl))

@[simp] theorem State.within_serveRest (s : State) (x : Link) (f : Frame) (k : Nat) (hs : s.withinPlaces = true) :
    (s.serveRest x f k).withinPlaces = true := by
  unfold State.serveRest
  try dsimp only
  repeat' split
  all_goals simp (maxDischargeDepth := 20) [hs, List.tail_sublist, List.filter_sublist, List.length_filter_le]

@[simp] theorem State.within_serveWake (s : State) (w : Option WakeCause) (h : Bool) (hs : s.withinPlaces = true) :
    (s.serveWake w h).withinPlaces = true := by
  unfold State.serveWake
  dsimp only
  repeat' split
  all_goals simp (maxDischargeDepth := 20) [hs, List.tail_sublist, List.filter_sublist, List.length_filter_le]

@[simp] theorem State.within_serveSetStore (s : State) (x : Link) (f : Frame) (hs : s.withinPlaces = true) :
    (s.serveSetStore x f).withinPlaces = true := by
  unfold State.serveSetStore
  try dsimp only
  repeat' split
  all_goals simp (maxDischargeDepth := 20) [hs, List.tail_sublist, List.filter_sublist, List.length_filter_le]

@[simp] theorem State.within_serveSetProfile (s : State) (x : Link) (f : Frame) (hs : s.withinPlaces = true) :
    (s.serveSetProfile x f).withinPlaces = true := by
  unfold State.serveSetProfile
  try dsimp only
  repeat' split
  all_goals simp (maxDischargeDepth := 20) [hs, List.tail_sublist, List.filter_sublist, List.length_filter_le]

theorem State.within_enterPage (s : State) (x : Link) (k : Nat) (p : Page) (hs : s.withinPlaces = true)
    (hp : s.dir.pages.length < 256) : (s.enterPage x k p).withinPlaces = true := by
  unfold State.enterPage
  dsimp only
  refine State.within_placeOp _ _ ((State.within_modIntake _ _ _).trans ?_)
  have h := (State.within_iff s).mp hs
  rw [State.within_iff]
  refine ⟨h.1, ?_, h.2.2⟩
  simp only [State.modDir_dir, List.length_append, List.length_cons, List.length_nil]
  omega

@[simp] theorem State.closeAdmission_dir (s : State) : s.closeAdmission.dir = s.dir := by
  unfold State.closeAdmission State.notifyBoth State.notify
  simp
@[simp] theorem State.useAdmit_dir (s : State) : s.useAdmit.dir = s.dir := by
  unfold State.useAdmit
  dsimp only
  repeat' split
  all_goals simp
@[simp] theorem State.reportFall_dir (s : State) (n : Nat) : (s.reportFall n).dir = s.dir := by
  unfold State.reportFall State.leaveNormal
  dsimp only
  repeat' split
  all_goals simp
theorem State.takeHeadExtent_dir {owner : Nat} {use : ExtentUse} {s t : State} {e : Nat}
    (hh : s.takeHeadExtent owner use = some (e, t)) : t.dir = s.dir := by
  unfold State.takeHeadExtent at hh
  split at hh
  · simp at hh
  · simp only [Option.some.injEq, Prod.mk.injEq] at hh
    rw [← hh.2]
    simp

theorem State.within_admitPage (s : State) (x : Link) (k : Nat) (q : OpenFields) (cls : Nat) (t : Option Link) (m : Bool)
    (hs : s.withinPlaces = true) (hp : s.dir.pages.length < 256) :
    (s.admitPage x k q cls t m).withinPlaces = true := by
  have hu : (if m then s else s.useAdmit).withinPlaces = true := by split <;> simp [hs]
  have hd : (if m then s else s.useAdmit).dir = s.dir := by split <;> simp
  unfold State.admitPage
  dsimp only
  split
  · rename_i hh
    refine State.within_arbitrate _ (State.within_enterPage _ _ _ _ (State.within_takeHeadExtent hh hu) ?_)
    rw [State.takeHeadExtent_dir hh, hd]
    exact hp
  · simp (maxDischargeDepth := 20) [hu]

@[simp] theorem State.within_serveOpenPage (s : State) (x : Link) (m : Bool) (f : Frame) (k : Nat) (hs : s.withinPlaces = true) :
    (s.serveOpenPage x m f k).withinPlaces = true := by
  unfold State.serveOpenPage
  dsimp only
  repeat' split
  · simp [hs]
  · simp [hs]
  · simp [hs]
  · have h : s.openRefusal x (OpenFields.of f.body) = none := by assumption
    refine State.within_admitPage s x k _ _ _ m hs ?_
    unfold State.openRefusal at h
    by_contra hc
    have hc : Config.directoryPlaces ≤ s.dir.pages.length := by
      simp only [Config.directoryPlaces]
      omega
    rw [if_pos hc] at h
    repeat' split at h
    all_goals simp at h

@[simp] theorem State.within_headerDone (s : State) (h : HeaderInit) (hs : s.withinPlaces = true) :
    (s.headerDone h).withinPlaces = true := by
  unfold State.headerDone
  try dsimp only
  repeat' split
  all_goals simp (maxDischargeDepth := 20) [hs, List.tail_sublist, List.filter_sublist, List.length_filter_le]

@[simp] theorem State.within_retire (s : State) (x : Link) (k : Nat) (p : Page) (hs : s.withinPlaces = true) :
    (s.retire x k p).withinPlaces = true := by
  unfold State.retire
  dsimp only
  split <;> simp (maxDischargeDepth := 20) [hs, State.within_ceaseIntake]

@[simp] theorem State.within_serveRetirePage (s : State) (x : Link) (f : Frame) (k : Nat) (hs : s.withinPlaces = true) :
    (s.serveRetirePage x f k).withinPlaces = true := by
  unfold State.serveRetirePage
  try dsimp only
  repeat' split
  all_goals simp (maxDischargeDepth := 20) [hs, List.tail_sublist, List.filter_sublist, List.length_filter_le]

@[simp] theorem State.within_releaseStep (s : State) (r : Release) (p : Page) (e : TableEnd) (hs : s.withinPlaces = true) :
    (s.releaseStep r p e).withinPlaces = true := by
  unfold State.releaseStep
  try dsimp only
  repeat' split
  all_goals simp (maxDischargeDepth := 20) [hs, List.tail_sublist, List.filter_sublist, List.length_filter_le]

@[simp] theorem State.within_serveListPage (s : State) (x : Link) (f : Frame) (k : Nat) (hs : s.withinPlaces = true) :
    (s.serveListPage x f k).withinPlaces = true := by
  unfold State.serveListPage
  try dsimp only
  repeat' split
  all_goals simp (maxDischargeDepth := 20) [hs, List.tail_sublist, List.filter_sublist, List.length_filter_le]

@[simp] theorem State.within_listStep (s : State) (q : Listing) (e : TableEnd) (hs : s.withinPlaces = true) :
    (s.listStep q e).withinPlaces = true := by
  unfold State.listStep
  try dsimp only
  repeat' split
  all_goals simp (maxDischargeDepth := 20) [hs, List.tail_sublist, List.filter_sublist, List.length_filter_le]

@[simp] theorem State.within_bandRecorded (s : State) (l : Lane) (j : Job) (hs : s.withinPlaces = true) :
    (s.bandRecorded l j).withinPlaces = true := by
  unfold State.bandRecorded
  try dsimp only
  repeat' split
  all_goals simp (maxDischargeDepth := 20) [hs, List.tail_sublist, List.filter_sublist, List.length_filter_le]

@[simp] theorem State.within_serveReadBandDecoded (s : State) (x : Link) (f : Frame) (k : Nat) (hs : s.withinPlaces = true) :
    (s.serveReadBandDecoded x f k).withinPlaces = true := by
  unfold State.serveReadBandDecoded
  dsimp only
  split
  · simp [hs]
  · split
    · simp [hs]
    · split
      · simp [hs]
      · split
        · simp [hs]
        · split
          · simp [hs]
          · split
            · simp [hs]
            · rename_i p _ _ _ _ _ h
              have h : ¬ 8 ≤ (s.disp.queues.get (s.disp.destined p.id (BandFields.of f.body).band
                  (BandFields.of f.body).comp)).length := h
              refine State.within_arbitrate _ (State.within_laneTake _ _ (State.within_joinQueue s _ _ _ hs rfl ?_))
              simp only [List.length_append, List.length_cons, List.length_nil]
              omega

theorem State.within_proofPlace (s : State) (l : Lane) (j : Job) (r : BandRecord) (k : Decoder) (f : OutFrame)
    (rest : List OutFrame) (hs : s.withinPlaces = true) (hp : (s.link j.link).hasPlace = true) :
    (s.proofPlace l j r k f rest).withinPlaces = true := by
  unfold State.proofPlace
  dsimp only
  have h0 : State.withinPlaces (s.modLink j.link fun c => ({ c with waiters := c.waiters.tail } : LinkCtl).place f)
      = true := State.within_modLink s _ _ hs fun hc =>
    LinkCtl.roomy_place (c := { s.link j.link with waiters := (s.link j.link).waiters.tail })
      (LinkCtl.roomy_of_same hc rfl rfl rfl rfl) hp f
  split
  · rename_i hh
    have h2 := congrArg (fun q : List OutFrame × State => q.2.withinPlaces) hh
    exact State.within_proofRun _ _ _ _ _ (h2.symm.trans (State.within_placeRows _ _ _ _ h0))
  · rename_i hh
    have h2 := congrArg (fun q : List OutFrame × State => q.2.withinPlaces) hh
    exact (State.within_setLane _ _ _).trans (h2.symm.trans (State.within_placeRows _ _ _ _ h0))

@[simp] theorem State.within_serveSetLaneTable (s : State) (x : Link) (f : Frame) (hs : s.withinPlaces = true) :
    (s.serveSetLaneTable x f).withinPlaces = true := by
  unfold State.serveSetLaneTable
  try dsimp only
  repeat' split
  all_goals simp (maxDischargeDepth := 20) [hs, List.tail_sublist, List.filter_sublist, List.length_filter_le]

@[simp] theorem State.within_serveSetRule (s : State) (x : Link) (f : Frame) (hs : s.withinPlaces = true) :
    (s.serveSetRule x f).withinPlaces = true := by
  unfold State.serveSetRule
  try dsimp only
  repeat' split
  all_goals simp (maxDischargeDepth := 20) [hs, List.tail_sublist, List.filter_sublist, List.length_filter_le]

@[simp] theorem State.within_serveSetDefaultClass (s : State) (x : Link) (f : Frame) (hs : s.withinPlaces = true) :
    (s.serveSetDefaultClass x f).withinPlaces = true := by
  unfold State.serveSetDefaultClass
  try dsimp only
  repeat' split
  all_goals simp (maxDischargeDepth := 20) [hs, List.tail_sublist, List.filter_sublist, List.length_filter_le]

@[simp] theorem State.within_serveSetWatermarks (s : State) (x : Link) (f : Frame) (hs : s.withinPlaces = true) :
    (s.serveSetWatermarks x f).withinPlaces = true := by
  unfold State.serveSetWatermarks
  try dsimp only
  repeat' split
  all_goals simp (maxDischargeDepth := 20) [hs, List.tail_sublist, List.filter_sublist, List.length_filter_le]

@[simp] theorem State.within_serveReadBandCompressed (s : State) (x : Link) (f : Frame) (k : Nat) (hs : s.withinPlaces = true) :
    (s.serveReadBandCompressed x f k).withinPlaces = true := by
  unfold State.serveReadBandCompressed
  try dsimp only
  repeat' split
  all_goals simp (maxDischargeDepth := 20) [hs, List.tail_sublist, List.filter_sublist, List.length_filter_le]

@[simp] theorem State.within_readBandEnded (s : State) (x : Link) (q : RecordRead) (e : TableEnd) (hs : s.withinPlaces = true) :
    (s.readBandEnded x q e).withinPlaces = true := by
  unfold State.readBandEnded
  try dsimp only
  repeat' split
  all_goals simp (maxDischargeDepth := 20) [hs, List.tail_sublist, List.filter_sublist, List.length_filter_le]

theorem State.within_copyFinish (s : State) (x : Link) (st : Stream) (hs : s.withinPlaces = true)
    (hp : (s.link x).hasPlace = true) : (s.copyFinish x st).withinPlaces = true := by
  unfold State.copyFinish
  refine State.within_dropStreamRef _ _ (State.within_modLink s x _ hs fun hc => LinkCtl.roomy_noteWait
    (LinkCtl.roomy_of_same (c := LinkCtl.place (.notice (.copyDone st.page st.marked))
      { s.link x with waiters := (s.link x).waiters.filter (· != .engine) }) ?_ rfl rfl rfl rfl))
  exact LinkCtl.roomy_place (c := { s.link x with waiters := (s.link x).waiters.filter (· != .engine) })
    (LinkCtl.roomy_of_same hc rfl rfl rfl rfl) hp _

/-! ## Commands -/

theorem State.within_takeHead {x : Link} {m : Frame → Bool} {s t : State} {f : Frame}
    (h : s.takeHead x m = some (f, t)) (hs : s.withinPlaces = true) : t.withinPlaces = true := by
  unfold State.takeHead at h
  split at h
  · simp at h
  · split at h
    · rename_i hc
      simp only [Option.some.injEq, Prod.mk.injEq] at h
      rw [← h.2]
      refine State.within_modLink s x _ hs fun hl => ?_
      simp only [State.canTake, Bool.and_eq_true, decide_eq_true_eq] at hc
      have hc : (s.link x).replyUse < 8 := hc.1.1
      rw [LinkCtl.roomy_iff] at hl ⊢
      exact ⟨hc, hl.2⟩
    · simp at h

theorem State.within_serveShort (s : State) (x : Link) (m ok : Frame → Bool) (g : Frame → State → State)
    (hg : ∀ f t, t.withinPlaces = true → (g f t).withinPlaces = true) (hs : s.withinPlaces = true) :
    (s.serveShort x m ok g).withinPlaces = true := by
  unfold State.serveShort
  split
  · exact hs
  · rename_i h
    have h1 := State.within_takeHead h hs
    repeat' split
    all_goals simp [hg, h1]

theorem State.within_serveLong (s : State) (x : Link) (m ok : Frame → Bool) (g : Frame → Nat → State → State)
    (hg : ∀ f k t, t.withinPlaces = true → (g f k t).withinPlaces = true) (hs : s.withinPlaces = true) :
    (s.serveLong x m ok g).withinPlaces = true := by
  unfold State.serveLong
  split
  · exact hs
  · rename_i h
    have h1 := State.within_takeHead h hs
    split
    · simp [h1]
    · split
      · split
        · simp [h1]
        · rename_i hl
          exact hg _ _ _ (State.within_addLong _ _ _ h1)
      · simp [h1]

@[simp] theorem State.within_takeOpenPage (s : State) (x : Link) (m : Bool) (hs : s.withinPlaces = true) :
    (s.takeOpenPage x m).withinPlaces = true := by
  unfold State.takeOpenPage
  exact State.within_serveLong s x _ _ _ (fun f k t ht => State.within_serveOpenPage t x m f k ht) hs

end Sys2Proof.Machine
end

