-- ==== Sys2Proof/Laws/Requests.lean ====
section
/-!
SUPPORT. The taking of a request (R172, R173): what serving a request on offer comes to, and the answer of a long
request in the event that takes it.
-/

-- One proof after another: the package as one text asks for more threads at once than the check allows.
set_option Elab.async false
set_option linter.unusedTactic false
set_option linter.unusedSimpArgs false
set_option linter.unreachableTactic false
namespace Sys2Proof.Machine

theorem State.offers_iff {s : State} {x : Link} {k : Nat} {f : Frame} :
    s.offers x k f = true ↔
      (s.link x).rx.head? = some f ∧ f.k = k ∧ (s.link x).replyUse < Config.replyPlaces ∧ s.part = .ready := by
  simp [State.offers, and_assoc]

/-- READY or REFRESHING, as the outside sees it (R112). -/
theorem State.part_ready {s : State} : s.part = .ready ↔ s.ctl.state = .ready ∨ s.ctl.state = .refreshing := by
  unfold State.part
  cases s.ctl.state <;> simp

theorem State.rxHeld_of_ready {s : State} {x : Link} (h : s.part = .ready) : s.rxHeld x = false := by
  rw [State.part_ready] at h
  unfold State.rxHeld
  rcases h with h | h <;> simp [h]

theorem State.notServing_of_ready {s : State} (h : s.part = .ready) : s.notServing = false := by
  simp [State.notServing, h]

/-- The state after the head of a link has been taken (R173). -/
def State.tookAt (x : Link) (s : State) : State := s.modLink x LinkCtl.took

@[simp] theorem State.part_modLink (s : State) (x : Link) (g : LinkCtl → LinkCtl) : (s.modLink x g).part = s.part := rfl

/-- The head of a link is taken where it stands and may be (R172). -/
theorem State.takeHead_head {s : State} {x : Link} {f : Frame} {m : Frame → Bool}
    (h : (s.link x).rx.head? = some f) (hc : s.canTake x = true) (hm : m f = true) :
    s.takeHead x m = some (f, s.tookAt x) := by
  unfold State.takeHead
  cases hr : (s.link x).rx with
  | nil => simp [hr] at h
  | cons g rest =>
    simp only [hr, List.head?_cons, Option.some.injEq] at h
    subst h
    simp only [hc, hm, Bool.and_self, if_true, Option.some.injEq, Prod.mk.injEq, true_and]
    unfold State.tookAt State.modLink
    have hr2 : (s.links.get x).rx = g :: rest := hr
    simp [LinkCtl.took, hr2]

theorem State.takeHead_offers {s : State} {x : Link} {k : Nat} {f : Frame} {m : Frame → Bool}
    (h : s.offers x k f = true) (hm : m f = true) : s.takeHead x m = some (f, s.tookAt x) := by
  rw [State.offers_iff] at h
  exact State.takeHead_head h.1 (by simp [State.canTake, h.2.2.1, State.rxHeld_of_ready h.2.2.2]) hm

/-- Answering a request just taken. -/
theorem State.reply_tookAt (s : State) (x : Link) (f : Frame) (r : ReplyResult) :
    (s.tookAt x).reply x f r = s.answeredAt x f r := by
  cases x <;> rfl

/-- A short request on offer: refused for its length, or served. -/
theorem State.serveShort_offers {s : State} {x : Link} {k : Nat} {f : Frame} {m ok : Frame → Bool}
    {g : Frame → State → State} (h : s.offers x k f = true) (hm : m f = true) :
    s.serveShort x m ok g =
      if ok f = true then g f (s.tookAt x) else s.answeredAt x f (.refused .badRequest) := by
  unfold State.serveShort
  rw [State.takeHead_offers h hm]
  have hp : (s.tookAt x).notServing = false := State.notServing_of_ready (State.offers_iff.1 h).2.2.2
  simp only [hp, Bool.false_eq_true, if_false, State.reply_tookAt]

/-- A long request on offer: refused for its length, refused BUSY, or served with its ticket. -/
theorem State.serveLong_offers {s : State} {x : Link} {k : Nat} {f : Frame} {m ok : Frame → Bool}
    {g : Frame → Nat → State → State} (h : s.offers x k f = true) (hm : m f = true) :
    s.serveLong x m ok g =
      if ok f = true then
        if Config.longSlots ≤ (s.link x).long.length then s.answeredAt x f (.refused .busy)
        else g f s.nextTicket ((s.tookAt x).addLong x f)
      else s.answeredAt x f (.refused .badRequest) := by
  unfold State.serveLong
  rw [State.takeHead_offers h hm]
  have hp : (s.tookAt x).notServing = false := State.notServing_of_ready (State.offers_iff.1 h).2.2.2
  have hl : ((s.tookAt x).link x).long = (s.link x).long := by simp [State.tookAt, LinkCtl.took]
  have ht : (s.tookAt x).nextTicket = s.nextTicket := rfl
  simp only [hp, Bool.false_eq_true, if_false, State.reply_tookAt, hl, ht]

/-- A long request made outstanding: the link alone changes, and the ticket counter. -/
theorem State.addLong_tookAt (s : State) (x : Link) (f : Frame) :
    (s.tookAt x).addLong x f =
      { s with links := s.links.set x ((s.link x).tookLong f s.nextTicket), nextTicket := s.nextTicket + 1 } := by
  cases x <;> rfl

theorem State.freshTickets_link {s : State} (h : s.freshTickets = true) (x : Link) :
    ∀ q ∈ (s.link x).long, q.ticket < s.nextTicket := by
  simp only [State.freshTickets, List.all_cons, List.all_nil, Bool.and_true, Bool.and_eq_true, List.all_eq_true,
    decide_eq_true_eq] at h
  cases x
  · exact h.1
  · exact h.2

/-- A long request answered in the event that takes it. -/
theorem State.answer_addLong {s : State} {x : Link} {f : Frame} {r : ReplyResult} (hf : s.freshTickets = true) :
    ((s.tookAt x).addLong x f).answer x s.nextTicket r = s.answeredLong x f r := by
  have hlt := State.freshTickets_link hf x
  rw [State.addLong_tookAt]
  unfold State.answer
  have hlong :
      (({ s with links := s.links.set x ((s.link x).tookLong f s.nextTicket), nextTicket := s.nextTicket + 1 } :
        State).link x).long = (s.link x).long ++ [⟨s.nextTicket, f.k, f.tag⟩] := by
    cases x <;> rfl
  have hnone : (s.link x).long.find? (fun q => q.ticket == s.nextTicket) = none := by
    rw [List.find?_eq_none]
    intro q hq
    have := hlt q hq
    simp
    omega
  have hfil : (s.link x).long.filter (fun q => q.ticket != s.nextTicket) = (s.link x).long := by
    rw [List.filter_eq_self]
    intro q hq
    have := hlt q hq
    simp
    omega
  rw [hlong, List.find?_append, hnone]
  simp only [Option.none_or, List.find?_cons, beq_self_eq_true]
  have hc : ({ LinkCtl.tookLong (s.link x) f s.nextTicket with
      long := ((s.link x).tookLong f s.nextTicket).long.filter (fun q => q.ticket != s.nextTicket) } : LinkCtl) =
      (s.link x).took := by
    simp [LinkCtl.tookLong, List.filter_append, hfil, LinkCtl.took]
  unfold State.answeredLong LinkCtl.answered
  cases x <;>
    · simp only [State.modLink, State.link, Pair.get, Pair.set] at hc ⊢
      rw [hc]

/-- A long request on offer that its owner answers at once. -/
theorem State.serveLong_answered {s : State} {x : Link} {k : Nat} {f : Frame} {m ok : Frame → Bool}
    {g : Frame → Nat → State → State} {r : ReplyResult} (h : s.offers x k f = true) (hm : m f = true)
    (ho : ok f = true) (hl : (s.link x).long.length < Config.longSlots) (hf : s.freshTickets = true)
    (hg : g f s.nextTicket ((s.tookAt x).addLong x f) = ((s.tookAt x).addLong x f).answer x s.nextTicket r) :
    s.serveLong x m ok g = s.answeredLong x f r := by
  rw [State.serveLong_offers h hm, if_pos ho, if_neg (by omega), hg, State.answer_addLong hf]

end Sys2Proof.Machine
end

