-- ==== Sys2Proof/Laws/Sound.lean ====
section
/-!
SUPPORT. What each shared operation keeps: the free count is the pool's, the links keep their bounds, the tickets
given out lie below the counter (State.sound).
-/

-- One proof after another: the package as one text asks for more threads at once than the check allows.
set_option Elab.async false
set_option linter.unusedTactic false
set_option linter.unusedSimpArgs false
set_option linter.unreachableTactic false
namespace Sys2Proof.Machine

/-- One link's part of `State.sound`, under the ticket counter `n`. -/
def LinkCtl.sound (n : Nat) (c : LinkCtl) : Bool := c.bounded && c.long.all fun q => decide (q.ticket < n)

/-- Both links' part of `State.sound`. -/
def State.linksSound (s : State) : Bool := s.links.a.sound s.nextTicket && s.links.b.sound s.nextTicket

theorem State.sound_eq (s : State) : s.sound = (s.countedPool && s.linksSound) := by
  simp only [State.sound, State.linksSound, State.linksBounded, State.freshTickets, LinkCtl.sound, State.link, Pair.get,
    List.all_cons, List.all_nil, Bool.and_true]
  cases s.countedPool <;> cases s.links.a.bounded <;> cases s.links.b.bounded <;> simp

theorem State.sound_iff (s : State) : s.sound = true ↔
    s.adm.freeCount = s.map.pool.length ∧ (s.links.a.sound s.nextTicket = true ∧ s.links.b.sound s.nextTicket = true) := by
  simp [State.sound_eq, State.countedPool, State.linksSound]

theorem LinkCtl.sound_of_fields {n : Nat} {c d : LinkCtl} (h : c.sound n = true) (hr : d.rx = c.rx)
    (hl : d.long = c.long) (hf : d.framesDiscarded = c.framesDiscarded)
    (hn : d.noticesDiscarded = c.noticesDiscarded) : d.sound n = true := by
  simp only [LinkCtl.sound, LinkCtl.bounded, hr, hl, hf, hn] at h ⊢
  exact h

theorem LinkCtl.sound_placeNotice {n : Nat} {c : LinkCtl} (h : c.sound n = true) (m : Notice) :
    (LinkCtl.placeNotice m c).sound n = true := by
  unfold LinkCtl.placeNotice
  split
  · exact LinkCtl.sound_of_fields h (by simp) (by simp) (by simp) (by simp)
  · simp only [LinkCtl.sound, LinkCtl.bounded, Bool.and_eq_true, decide_eq_true_eq] at h ⊢
    refine ⟨⟨h.1.1, ?_⟩, h.2⟩
    simp [satAdd]

theorem LinkCtl.sound_mono {n m : Nat} {c : LinkCtl} (h : c.sound n = true) (hm : n ≤ m) : c.sound m = true := by
  simp only [LinkCtl.sound, Bool.and_eq_true, List.all_eq_true, decide_eq_true_eq] at h ⊢
  exact ⟨h.1, fun q hq => Nat.lt_of_lt_of_le (h.2 q hq) hm⟩

theorem State.sound_foldl {α : Type} (g : State → α → State) (hg : ∀ s a, s.sound = true → (g s a).sound = true)
    (l : List α) (s : State) (h : s.sound = true) : (l.foldl g s).sound = true := by
  induction l generalizing s with
  | nil => exact h
  | cons a l ih => exact ih _ (hg s a h)

theorem State.sound_modLink (s : State) (x : Link) (f : LinkCtl → LinkCtl) (h : s.sound = true)
    (hf : ∀ c : LinkCtl, c.sound s.nextTicket = true → (f c).sound s.nextTicket = true) :
    (s.modLink x f).sound = true := by
  rw [State.sound_iff] at h ⊢
  cases x
  · exact ⟨h.1, hf _ h.2.1, h.2.2⟩
  · exact ⟨h.1, h.2.1, hf _ h.2.2⟩

/-- A change of a link that leaves the four fields. -/
@[simp] theorem State.sound_modLink_fields (s : State) (x : Link) (f : LinkCtl → LinkCtl) (h : s.sound = true)
    (hr : ∀ c, (f c).rx = c.rx) (hl : ∀ c, (f c).long = c.long)
    (hf : ∀ c, (f c).framesDiscarded = c.framesDiscarded) (hn : ∀ c, (f c).noticesDiscarded = c.noticesDiscarded) :
    (s.modLink x f).sound = true :=
  State.sound_modLink s x f h fun c hc => LinkCtl.sound_of_fields hc (hr c) (hl c) (hf c) (hn c)

@[simp] theorem State.sound_modIntake (s : State) (x : Link) (f : Intake → Intake) :
    (s.modIntake x f).sound = s.sound := rfl
@[simp] theorem State.sound_modPress (s : State) (f : PressFeed → PressFeed) : (s.modPress f).sound = s.sound := rfl
@[simp] theorem State.sound_modCtl (s : State) (f : StoreCtl → StoreCtl) : (s.modCtl f).sound = s.sound := rfl
@[simp] theorem State.sound_modArb (s : State) (f : Arbiter → Arbiter) : (s.modArb f).sound = s.sound := rfl
@[simp] theorem State.sound_modDir (s : State) (f : Directory → Directory) : (s.modDir f).sound = s.sound := rfl
@[simp] theorem State.sound_modDisp (s : State) (f : Dispatcher → Dispatcher) : (s.modDisp f).sound = s.sound := rfl
@[simp] theorem State.sound_modPage (s : State) (id : Nat) (f : Page → Page) : (s.modPage id f).sound = s.sound := rfl
@[simp] theorem State.sound_setLane (s : State) (l : Lane) (v : LaneState) : (s.setLane l v).sound = s.sound := rfl
@[simp] theorem State.sound_modAdm (s : State) (f : Admission → Admission)
    (h : ∀ a, (f a).freeCount = a.freeCount) : (s.modAdm f).sound = s.sound := by
  have h1 : (s.modAdm f).countedPool = s.countedPool := by simp [State.countedPool, h]
  rw [State.sound_eq, State.sound_eq, h1]
  rfl

@[simp] theorem State.sound_modLink_setStream (s : State) (x : Link) (st : Stream) (h : s.sound = true) :
    (s.modLink x (LinkCtl.setStream st)).sound = true :=
  State.sound_modLink_fields s x _ h (fun _ => rfl) (fun _ => rfl) (fun _ => rfl) (fun _ => rfl)

@[simp] theorem LinkCtl.placeRows_long (l : Lane) (fs : List OutFrame) (c : LinkCtl) :
    (LinkCtl.placeRows l fs c).2.long = c.long := by
  induction fs generalizing c with
  | nil => rfl
  | cons f fs ih =>
    unfold LinkCtl.placeRows
    split <;> simp [ih]
@[simp] theorem LinkCtl.placeRows_rx2 (l : Lane) (fs : List OutFrame) (c : LinkCtl) :
    (LinkCtl.placeRows l fs c).2.rx = c.rx := by
  induction fs generalizing c with
  | nil => rfl
  | cons f fs ih =>
    unfold LinkCtl.placeRows
    split <;> simp [ih]
@[simp] theorem LinkCtl.placeRows_framesDiscarded (l : Lane) (fs : List OutFrame) (c : LinkCtl) :
    (LinkCtl.placeRows l fs c).2.framesDiscarded = c.framesDiscarded := by
  induction fs generalizing c with
  | nil => rfl
  | cons f fs ih =>
    unfold LinkCtl.placeRows
    split <;> simp [ih]
@[simp] theorem LinkCtl.placeRows_noticesDiscarded (l : Lane) (fs : List OutFrame) (c : LinkCtl) :
    (LinkCtl.placeRows l fs c).2.noticesDiscarded = c.noticesDiscarded := by
  induction fs generalizing c with
  | nil => rfl
  | cons f fs ih =>
    unfold LinkCtl.placeRows
    split <;> simp [ih]

theorem State.sound_placeRows (s : State) (l : Lane) (x : Link) (fs : List OutFrame) (h : s.sound = true) :
    (s.placeRows l x fs).2.sound = true :=
  State.sound_modLink_fields s x (fun c => (LinkCtl.placeRows l fs c).2) h (by simp) (by simp) (by simp) (by simp)

/-- A link's frames may leave its receive buffer. -/
theorem State.sound_dropHead (s : State) (x : Link) (f : Frame) (rest : List Frame) (g : LinkCtl → LinkCtl)
    (h : s.sound = true) (hx : (s.link x).rx = f :: rest) (hr : (g (s.link x)).rx = rest)
    (hl : (g (s.link x)).long = (s.link x).long)
    (hf : (g (s.link x)).framesDiscarded = (s.link x).framesDiscarded)
    (hn : (g (s.link x)).noticesDiscarded = (s.link x).noticesDiscarded) : (s.modLink x g).sound = true := by
  rw [State.sound_iff] at h ⊢
  have key : ∀ c : LinkCtl, c.sound s.nextTicket = true → c.rx = f :: rest → (g c).rx = rest → (g c).long = c.long →
      (g c).framesDiscarded = c.framesDiscarded → (g c).noticesDiscarded = c.noticesDiscarded →
      (g c).sound s.nextTicket = true := by
    intro c hc h1 h2 h3 h4 h5
    simp only [LinkCtl.sound, LinkCtl.bounded, h1, h2, h3, h4, h5, Bool.and_eq_true, decide_eq_true_eq,
      List.length_cons] at hc ⊢
    refine ⟨⟨⟨⟨?_, hc.1.1.1.2⟩, hc.1.1.2⟩, hc.1.2⟩, hc.2⟩
    omega
  cases x
  · exact ⟨h.1, key _ h.2.1 hx hr hl hf hn, h.2.2⟩
  · exact ⟨h.1, h.2.1, key _ h.2.2 hx hr hl hf hn⟩

@[simp] theorem State.sound_dropPrintRef (s : State) (id : Nat) (hs : s.sound = true) :
    (s.dropPrintRef id).sound = true := by
  unfold State.dropPrintRef
  try dsimp only
  repeat' split
  all_goals simp (maxDischargeDepth := 20) [hs]

@[simp] theorem State.sound_dropStreamRef (s : State) (id : Nat) (hs : s.sound = true) :
    (s.dropStreamRef id).sound = true := by
  unfold State.dropStreamRef
  try dsimp only
  repeat' split
  all_goals simp (maxDischargeDepth := 20) [hs]

@[simp] theorem State.sound_damageEvent (s : State) (id : Nat) (hs : s.sound = true) :
    (s.damageEvent id).sound = true := by
  unfold State.damageEvent
  try dsimp only
  repeat' split
  all_goals simp (maxDischargeDepth := 20) [hs]

@[simp] theorem State.sound_notify (s : State) (x : Link) (n : Notice) (hs : s.sound = true) :
    (s.notify x n).sound = true := State.sound_modLink s x _ hs fun _ hc => LinkCtl.sound_placeNotice hc n

@[simp] theorem State.sound_notifyBoth (s : State) (n : Notice) (hs : s.sound = true) :
    (s.notifyBoth n).sound = true := by
  unfold State.notifyBoth
  simp (maxDischargeDepth := 20) [hs]

@[simp] theorem State.sound_reply (s : State) (x : Link) (f : Frame) (r : ReplyResult) (hs : s.sound = true) :
    (s.reply x f r).sound = true := by
  unfold State.reply
  try dsimp only
  repeat' split
  all_goals simp (maxDischargeDepth := 20) [hs]

@[simp] theorem State.sound_answer (s : State) (x : Link) (k : Nat) (r : ReplyResult) (hs : s.sound = true) :
    (s.answer x k r).sound = true := by
  unfold State.answer
  split
  · exact hs
  · refine State.sound_modLink s x _ hs fun c hc => ?_
    refine LinkCtl.sound_of_fields (c := { c with long := c.long.filter (fun q => q.ticket != k) }) ?_ (by simp) (by simp)
      (by simp) (by simp)
    simp only [LinkCtl.sound, LinkCtl.bounded, Bool.and_eq_true, decide_eq_true_eq, List.all_eq_true] at hc ⊢
    refine ⟨⟨⟨⟨hc.1.1.1.1, ?_⟩, hc.1.1.2⟩, hc.1.2⟩, fun q hq => hc.2 q (List.mem_of_mem_filter hq)⟩
    exact Nat.le_trans (List.length_filter_le _ _) hc.1.1.1.2

@[simp] theorem State.sound_freeReplyPlace (s : State) (x : Link) (hs : s.sound = true) :
    (s.freeReplyPlace x).sound = true := by
  unfold State.freeReplyPlace
  try dsimp only
  repeat' split
  all_goals simp (maxDischargeDepth := 20) [hs]

@[simp] theorem State.sound_flagClamped (s : State) (x : Link) (hs : s.sound = true) :
    (s.flagClamped x).sound = true := by
  unfold State.flagClamped
  try dsimp only
  repeat' split
  all_goals simp (maxDischargeDepth := 20) [hs]

@[simp] theorem State.sound_flagStoreParity (s : State)  (hs : s.sound = true) :
    (s.flagStoreParity).sound = true := by
  unfold State.flagStoreParity
  try dsimp only
  repeat' split
  all_goals simp (maxDischargeDepth := 20) [hs]

@[simp] theorem State.sound_flagUnderrun (s : State)  (hs : s.sound = true) :
    (s.flagUnderrun).sound = true := by
  unfold State.flagUnderrun
  try dsimp only
  repeat' split
  all_goals simp (maxDischargeDepth := 20) [hs]

theorem State.sound_bump (s : State) (h : s.sound = true) :
    State.sound { s with nextTicket := s.nextTicket + 1 } = true := by
  rw [State.sound_iff] at h ⊢
  exact ⟨h.1, LinkCtl.sound_mono h.2.1 (by simp), LinkCtl.sound_mono h.2.2 (by simp)⟩

theorem State.sound_addLong (s : State) (x : Link) (f : Frame) (h : s.sound = true)
    (hl : (s.link x).long.length < Config.longSlots) : (s.addLong x f).sound = true := by
  unfold State.addLong
  dsimp only
  rw [State.sound_iff] at h ⊢
  have key : ∀ c : LinkCtl, c.sound s.nextTicket = true → c.long.length < Config.longSlots →
      LinkCtl.sound (s.nextTicket + 1) { c with long := c.long ++ [⟨s.nextTicket, f.k, f.tag⟩] } = true := by
    intro c hc h1
    have h2 := LinkCtl.sound_mono hc (Nat.le_succ s.nextTicket)
    simp only [LinkCtl.sound, LinkCtl.bounded, Bool.and_eq_true, decide_eq_true_eq, List.length_append,
      List.length_cons, List.length_nil, List.all_append, List.all_cons, List.all_nil] at h2 ⊢
    exact ⟨⟨⟨⟨h2.1.1.1.1, by omega⟩, h2.1.1.2⟩, h2.1.2⟩, h2.2, by simp⟩
  cases x
  · exact ⟨h.1, key _ h.2.1 hl, LinkCtl.sound_mono h.2.2 (by simp)⟩
  · exact ⟨h.1, LinkCtl.sound_mono h.2.1 (by simp), key _ h.2.2 hl⟩

@[simp] theorem State.sound_closeAdmission (s : State)  (hs : s.sound = true) :
    (s.closeAdmission).sound = true := by
  unfold State.closeAdmission
  try dsimp only
  repeat' split
  all_goals simp (maxDischargeDepth := 20) [hs]

@[simp] theorem State.sound_leaveNormal (s : State)  (hs : s.sound = true) :
    (s.leaveNormal).sound = true := by
  unfold State.leaveNormal
  try dsimp only
  repeat' split
  all_goals simp (maxDischargeDepth := 20) [hs]

@[simp] theorem State.sound_openAdmission (s : State)  (hs : s.sound = true) :
    (s.openAdmission).sound = true := by
  unfold State.openAdmission
  try dsimp only
  repeat' split
  all_goals simp (maxDischargeDepth := 20) [hs]

theorem State.sound_reportFall (s : State) (n : Nat) (h : s.linksSound = true) (hn : n = s.map.pool.length) :
    (s.reportFall n).sound = true := by
  have h1 : State.sound (s.modAdm fun a => { a with freeCount := n }) = true := by
    rw [State.sound_iff]
    simp only [State.linksSound, Bool.and_eq_true] at h
    exact ⟨hn, h⟩
  unfold State.reportFall
  dsimp only
  split
  · exact State.sound_leaveNormal _ h1
  · exact h1

@[simp] theorem State.sound_useAdmit (s : State)  (hs : s.sound = true) :
    (s.useAdmit).sound = true := by
  unfold State.useAdmit
  try dsimp only
  repeat' split
  all_goals simp (maxDischargeDepth := 20) [hs]

@[simp] theorem State.sound_reevaluate (s : State)  (hs : s.sound = true) :
    (s.reevaluate).sound = true := by
  unfold State.reevaluate
  try dsimp only
  repeat' split
  all_goals simp (maxDischargeDepth := 20) [hs]

@[simp] theorem State.sound_returnExtent (s : State) (e : Nat) (hs : s.sound = true) :
    (s.returnExtent e).sound = true := by
  unfold State.returnExtent State.reportRise
  dsimp only
  have h1 : State.sound ((s.modMap fun m => { table := planeDrop m.table e, pool := m.pool ++ [e] }).modAdm fun a =>
      { a with freeCount := (s.modMap fun m => { table := planeDrop m.table e, pool := m.pool ++ [e] }).map.pool.length }) =
        true := by
    rw [State.sound_iff] at hs ⊢
    exact ⟨rfl, hs.2⟩
  split
  · exact State.sound_openAdmission _ h1
  · exact h1

@[simp] theorem State.sound_returnChain (s : State) (e : Option Nat) (hs : s.sound = true) :
    (s.returnChain e).sound = true := by
  unfold State.returnChain
  split
  · exact hs
  · exact State.sound_foldl _ (fun s e hs => State.sound_returnExtent s e hs) _ _ hs

@[simp] theorem State.sound_returnHeader (s : State) (owner header : Nat) (hs : s.sound = true) :
    (s.returnHeader owner header).sound = true := by
  unfold State.returnHeader
  exact State.sound_returnExtent _ _
    (State.sound_foldl _ (fun s (p : Nat × Nat) hs => State.sound_returnChain s (some p.2) hs) _ _ hs)

@[simp] theorem State.sound_placeOp (s : State) (op : TableOp) (hs : s.sound = true) :
    (s.placeOp op).sound = true := by
  unfold State.placeOp
  try dsimp only
  repeat' split
  all_goals simp (maxDischargeDepth := 20) [hs]

@[simp] theorem State.sound_placeDeferred (s : State) : s.placeDeferred.sound = s.sound := rfl

@[simp] theorem State.sound_placeRead (s : State) (c : Client) (h i n : Nat) (ck : Bool) (hs : s.sound = true) :
    (s.placeRead c h i n ck).sound = true := by
  unfold State.placeRead
  try dsimp only
  repeat' split
  all_goals simp (maxDischargeDepth := 20) [hs]

@[simp] theorem State.sound_placeRecord (s : State) (c : Client) (h i : Nat) (r : BandRecord) (hs : s.sound = true) :
    (s.placeRecord c h i r).sound = true := by
  unfold State.placeRecord
  try dsimp only
  repeat' split
  all_goals simp (maxDischargeDepth := 20) [hs]

@[simp] theorem State.sound_disown (s : State) (m : Burst → Bool) (hs : s.sound = true) :
    (s.disown m).sound = true := by
  unfold State.disown
  try dsimp only
  repeat' split
  all_goals simp (maxDischargeDepth := 20) [hs]

@[simp] theorem State.sound_flagIf (s : State) (b : Bool) (hs : s.sound = true) :
    (s.flagIf b).sound = true := by
  unfold State.flagIf
  try dsimp only
  repeat' split
  all_goals simp (maxDischargeDepth := 20) [hs]

@[simp] theorem State.sound_withdraw (s : State) (c : Client) (hs : s.sound = true) :
    (s.withdraw c).sound = true := by
  unfold State.withdraw
  simp (maxDischargeDepth := 20) [hs]

@[simp] theorem State.sound_payloadDamage (s : State) (page index : Nat) (r : BandRecord) (b : Bool) (hs : s.sound = true) :
    (s.payloadDamage page index r b).sound = true := by
  unfold State.payloadDamage
  try dsimp only
  repeat' split
  all_goals simp (maxDischargeDepth := 20) [hs]

@[simp] theorem State.sound_testPress (s : State)  (hs : s.sound = true) :
    (s.testPress).sound = true := by
  unfold State.testPress
  try dsimp only
  repeat' split
  all_goals simp (maxDischargeDepth := 20) [hs]

@[simp] theorem State.sound_pressBand (s : State)  (hs : s.sound = true) :
    (s.pressBand).sound = true := by
  unfold State.pressBand
  try dsimp only
  repeat' split
  all_goals simp (maxDischargeDepth := 20) [hs]

@[simp] theorem State.sound_pressStop (s : State)  (hs : s.sound = true) :
    (s.pressStop).sound = true := by
  unfold State.pressStop
  try dsimp only
  repeat' split
  all_goals simp (maxDischargeDepth := 20) [hs]

@[simp] theorem State.sound_pressEnter (s : State) (e : Option PrintEntry) (hs : s.sound = true) :
    (s.pressEnter e).sound = true := by
  unfold State.pressEnter
  try dsimp only
  repeat' split
  all_goals simp (maxDischargeDepth := 20) [hs]

@[simp] theorem State.sound_pressDamage (s : State) (d : DecPos) (comp : Nat) (cause : Detail) (row : Nat) (r : Option BandRecord) (c : Nat) (hs : s.sound = true) :
    (s.pressDamage d comp cause row r c).sound = true := by
  unfold State.pressDamage
  try dsimp only
  repeat' split
  all_goals simp (maxDischargeDepth := 20) [hs]

@[simp] theorem State.sound_pressRowBegin (s : State) (hs : s.sound = true) :
    (s.pressRowBegin).sound = true := by
  unfold State.pressRowBegin
  try dsimp only
  repeat' split
  all_goals simp (maxDischargeDepth := 20) [hs]

@[simp] theorem State.sound_pressAdvance (s : State) (n : Nat) (hs : s.sound = true) :
    (s.pressAdvance n).sound = true := by
  induction n generalizing s with
  | zero => exact hs
  | succ n ih =>
    unfold State.pressAdvance
    repeat' split
    all_goals first | exact hs | (apply ih; simp (maxDischargeDepth := 20) [hs]) | simp (maxDischargeDepth := 20) [hs]

@[simp] theorem State.sound_pressRun (s : State) (hs : s.sound = true) :
    (s.pressRun).sound = true := by
  unfold State.pressRun
  try dsimp only
  repeat' split
  all_goals simp (maxDischargeDepth := 20) [hs]

@[simp] theorem State.sound_pressRow (s : State) (hs : s.sound = true) :
    (s.pressRow).sound = true := by
  unfold State.pressRow
  simp (maxDischargeDepth := 20) [hs]

@[simp] theorem State.sound_pressRoomFreed (s : State)  (hs : s.sound = true) :
    (s.pressRoomFreed).sound = true := by
  unfold State.pressRoomFreed
  try dsimp only
  repeat' split
  all_goals simp (maxDischargeDepth := 20) [hs]

@[simp] theorem State.sound_pressTakeRecord (s : State) (d : DecPos) (p : Page) (ws : List ReadWord) (comp : Nat) (hs : s.sound = true) :
    (State.pressTakeRecord d p ws s comp).sound = true := by
  unfold State.pressTakeRecord
  try dsimp only
  repeat' split
  all_goals simp (maxDischargeDepth := 20) [hs]

@[simp] theorem State.sound_pressRecords (s : State) (e : TableEnd) (hs : s.sound = true) :
    (s.pressRecords e).sound = true := by
  unfold State.pressRecords
  dsimp only
  repeat' split
  · exact hs
  · exact State.sound_foldl _ (fun t i ht => State.sound_pressTakeRecord t _ _ _ i ht) _ _ hs
  · exact State.sound_pressRow _ (State.sound_foldl _ (fun t i ht => State.sound_pressTakeRecord t _ _ _ i ht) _ _ hs)

@[simp] theorem State.sound_pressFeed (s : State) (ws : List ReadWord) (hs : s.sound = true) :
    (s.pressFeed ws).sound = true := by
  unfold State.pressFeed
  try dsimp only
  repeat' split
  all_goals simp (maxDischargeDepth := 20) [hs]

@[simp] theorem State.sound_dropOwed (s : State) (hs : s.sound = true) :
    (s.dropOwed).sound = true := by
  unfold State.dropOwed
  try dsimp only
  repeat' split
  all_goals simp (maxDischargeDepth := 20) [hs]

@[simp] theorem State.sound_pressMoveOn (s : State) (d : DecPos) (hs : s.sound = true) :
    (s.pressMoveOn d).sound = true := by
  unfold State.pressMoveOn
  try dsimp only
  repeat' split
  all_goals simp (maxDischargeDepth := 20) [hs]

@[simp] theorem State.sound_pressFinish (s : State) (d : DecPos) (p : Page) (rows : List (List Nat)) (hs : s.sound = true) :
    (s.pressFinish d p rows).sound = true := by
  unfold State.pressFinish
  try dsimp only
  repeat' split
  all_goals simp (maxDischargeDepth := 20) [hs]

theorem State.sound_takeEnd {m : Client → Bool} {s t : State} {e : TableEnd}
    (h : s.takeEnd m = some (e, t)) (hs : s.sound = true) : t.sound = true := by
  unfold State.takeEnd at h
  split at h
  · simp only [Option.some.injEq, Prod.mk.injEq] at h
    rw [← h.2]
    exact hs
  · simp at h

@[simp] theorem State.sound_pressTakeEnd (s : State) (hs : s.sound = true) :
    (s.pressTakeEnd).sound = true := by
  unfold State.pressTakeEnd
  split
  · rename_i e t he
    exact State.sound_pressRecords _ _ (State.sound_takeEnd he hs)
  · exact hs

@[simp] theorem State.sound_finishDue (s : State) (n : Nat) (hs : s.sound = true) :
    (s.finishDue n).sound = true := by
  induction n generalizing s with
  | zero => exact hs
  | succ n ih =>
    unfold State.finishDue
    repeat' split
    · exact ih _ (State.sound_pressFinish _ _ _ _ hs)
    all_goals exact hs

@[simp] theorem State.sound_pressDue (s : State) (hs : s.sound = true) :
    (s.pressDue).sound = true := by
  unfold State.pressDue
  have h1 : (if s.arb.pressUrgent = true then s.pressTakeEnd else s).sound = true := by
    split
    · exact State.sound_pressTakeEnd _ hs
    · exact hs
  dsimp only
  split
  · exact State.sound_finishDue _ _ h1
  · exact h1

@[simp] theorem State.sound_pressHalt (s : State)  (hs : s.sound = true) :
    (s.pressHalt).sound = true := by
  unfold State.pressHalt
  try dsimp only
  repeat' split
  all_goals simp (maxDischargeDepth := 20) [hs]

@[simp] theorem State.sound_pressRestart (s : State)  (hs : s.sound = true) :
    (s.pressRestart).sound = true := by
  unfold State.pressRestart
  try dsimp only
  repeat' split
  all_goals simp (maxDischargeDepth := 20) [hs]

@[simp] theorem State.sound_pressPassRemoved (s : State)  (hs : s.sound = true) :
    (s.pressPassRemoved).sound = true := by
  unfold State.pressPassRemoved
  try dsimp only
  repeat' split
  all_goals simp (maxDischargeDepth := 20) [hs]

@[simp] theorem State.sound_cancelEntry (s : State) (e : PrintEntry) (hs : s.sound = true) :
    (s.cancelEntry e).sound = true := by
  unfold State.cancelEntry
  try dsimp only
  repeat' split
  all_goals simp (maxDischargeDepth := 20) [hs]

@[simp] theorem State.sound_dropEntries (s : State) (page : Nat) (hs : s.sound = true) :
    (s.dropEntries page).sound = true := by
  unfold State.dropEntries
  dsimp only
  refine State.sound_testPress _ (State.sound_pressPassRemoved _ ?_)
  exact State.sound_foldl _ (fun t e ht => State.sound_notify t _ _ ht) _ _ hs

@[simp] theorem State.sound_pressSealed (s : State) (page : Nat) (hs : s.sound = true) :
    (s.pressSealed page).sound = true := by
  unfold State.pressSealed
  try dsimp only
  repeat' split
  all_goals simp (maxDischargeDepth := 20) [hs]

@[simp] theorem State.sound_emptySlot (s : State) (x : Link) (t : SlotId) (hs : s.sound = true) :
    (s.emptySlot x t).sound = true := by
  unfold State.emptySlot
  try dsimp only
  repeat' split
  all_goals simp (maxDischargeDepth := 20) [hs]

@[simp] theorem State.sound_slotJobEnd (s : State) (x : Link) (t : SlotId) (hs : s.sound = true) :
    (s.slotJobEnd x t).sound = true := by
  unfold State.slotJobEnd
  try dsimp only
  repeat' split
  all_goals simp (maxDischargeDepth := 20) [hs]

@[simp] theorem State.sound_emptyFilling (s : State) (x : Link) (page : Nat) (t : SlotId) (hs : s.sound = true) :
    (State.emptyFilling x page s t).sound = true := by
  unfold State.emptyFilling
  try dsimp only
  repeat' split
  all_goals simp (maxDischargeDepth := 20) [hs]

@[simp] theorem State.sound_ceaseIntake (s : State) (page : Nat) (x : Link) (hs : s.sound = true) :
    (State.ceaseIntake page s x).sound = true := by
  unfold State.ceaseIntake
  split
  · exact State.sound_foldl _ (fun t k ht => State.sound_emptyFilling t x page k ht) _ _ hs
  · exact hs

@[simp] theorem State.sound_movePending (s : State) (l : Lane) (hs : s.sound = true) :
    (s.movePending l).sound = true := by
  unfold State.movePending
  try dsimp only
  repeat' split
  all_goals simp (maxDischargeDepth := 20) [hs]

@[simp] theorem State.sound_startJob (s : State) (l : Lane) (j : Job) (hs : s.sound = true) :
    (s.startJob l j).sound = true := by
  unfold State.startJob
  try dsimp only
  repeat' split
  all_goals simp (maxDischargeDepth := 20) [hs]

@[simp] theorem State.sound_laneTake (s : State) (l : Lane) (hs : s.sound = true) :
    (s.laneTake l).sound = true := by
  unfold State.laneTake
  try dsimp only
  repeat' split
  all_goals simp (maxDischargeDepth := 20) [hs]

@[simp] theorem State.sound_laneFree (s : State) (l : Lane) (hs : s.sound = true) :
    (s.laneFree l).sound = true := by
  unfold State.laneFree
  try dsimp only
  repeat' split
  all_goals simp (maxDischargeDepth := 20) [hs]

@[simp] theorem State.sound_dispatchEncode (s : State) (p : Page) (band : Nat) (x : Link) (t : SlotId) (comp : Nat) (hs : s.sound = true) :
    (State.dispatchEncode p band x t s comp).sound = true := by
  unfold State.dispatchEncode
  try dsimp only
  repeat' split
  all_goals simp (maxDischargeDepth := 20) [hs]

@[simp] theorem State.sound_removedJob (s : State) (c : Refuse) (j : Job) (hs : s.sound = true) :
    (State.removedJob c s j).sound = true := by
  unfold State.removedJob
  try dsimp only
  repeat' split
  all_goals simp (maxDischargeDepth := 20) [hs]

@[simp] theorem State.sound_movePendings (s : State) (l : Lane) (n : Nat) (hs : s.sound = true) :
    (s.movePendings l n).sound = true := by
  induction n generalizing s with
  | zero => exact hs
  | succ n ih => exact ih _ (by simp (maxDischargeDepth := 20) [hs])

@[simp] theorem State.sound_takeOutJobs (s : State) (g : Job → Bool) (hs : s.sound = true) :
    (s.takeOutJobs g).sound = true := by
  unfold State.takeOutJobs
  exact State.sound_foldl _ (fun t l ht => State.sound_movePendings t l _ ht) _ _ hs

@[simp] theorem State.sound_removeJobs (s : State) (page : Nat) (c : Refuse) (hs : s.sound = true) :
    (s.removeJobs page c).sound = true := by
  unfold State.removeJobs
  exact State.sound_foldl _ (fun t j ht => State.sound_removedJob t c j ht) _ _ (State.sound_takeOutJobs _ _ hs)

@[simp] theorem State.sound_beginRelease (s : State) (page : Nat) (hs : s.sound = true) :
    (s.beginRelease page).sound = true := by
  unfold State.beginRelease
  try dsimp only
  repeat' split
  all_goals simp (maxDischargeDepth := 20) [hs]

@[simp] theorem State.sound_endWork (s : State) (page : Nat) (hs : s.sound = true) :
    (s.endWork page).sound = true := by
  unfold State.endWork
  try dsimp only
  repeat' split
  all_goals simp (maxDischargeDepth := 20) [hs]

@[simp] theorem State.sound_failPage (s : State) (page : Nat) (c : FailCause) (hs : s.sound = true) :
    (s.failPage page c).sound = true := by
  unfold State.failPage
  dsimp only
  repeat' split
  all_goals simp (maxDischargeDepth := 20) [hs, State.sound_ceaseIntake]

@[simp] theorem State.sound_addStream (s : State) (x : Link) (page : Nat) (mk : Nat → Stream) (hs : s.sound = true) :
    (s.addStream x page mk).sound = true := by
  unfold State.addStream
  dsimp only
  have h1 := State.sound_modLink_fields (s.modPage page fun p => { p with streamRefs := p.streamRefs + 1 }) x
    (fun c => ({ c with streams := c.streams ++ [mk s.nextTicket] } : LinkCtl).noteWait) hs (by simp) (by simp) (by simp)
    (by simp)
  exact State.sound_bump _ h1

@[simp] theorem State.sound_sealPage (s : State) (p : Page) (hs : s.sound = true) :
    (s.sealPage p).sound = true := by
  unfold State.sealPage
  try dsimp only
  repeat' split
  all_goals simp (maxDischargeDepth := 20) [hs]

@[simp] theorem State.sound_recordStored (s : State) (page : Nat) (hs : s.sound = true) :
    (s.recordStored page).sound = true := by
  unfold State.recordStored
  try dsimp only
  repeat' split
  all_goals simp (maxDischargeDepth := 20) [hs]

@[simp] theorem State.sound_pageGone (s : State) (x : Link) (page : Nat) (hs : s.sound = true) :
    (s.modLink x (LinkCtl.pageGone page)).sound = true :=
  State.sound_modLink_fields s x _ hs (fun _ => rfl) (fun _ => rfl) (fun _ => rfl) (fun _ => rfl)

@[simp] theorem State.sound_endRelease (s : State) (r : Release) (p : Page) (hs : s.sound = true) :
    (s.endRelease r p).sound = true := by
  unfold State.endRelease
  try dsimp only
  repeat' split
  all_goals simp (maxDischargeDepth := 20) [hs]

@[simp] theorem State.sound_encodeOver (s : State) (l : Lane) (j : Job) (hs : s.sound = true) :
    (s.encodeOver l j).sound = true := by
  unfold State.encodeOver
  try dsimp only
  repeat' split
  all_goals simp (maxDischargeDepth := 20) [hs]

@[simp] theorem State.sound_encodeFail (s : State) (l : Lane) (j : Job) (r : EncodeRun) (c : FailCause) (hs : s.sound = true) :
    (s.encodeFail l j r c).sound = true := by
  unfold State.encodeFail
  try dsimp only
  repeat' split
  all_goals simp (maxDischargeDepth := 20) [hs]

theorem State.sound_takeHeadExtent {owner : Nat} {use : ExtentUse} {s t : State} {e : Nat}
    (hh : s.takeHeadExtent owner use = some (e, t)) (h : s.sound = true) : t.sound = true := by
  unfold State.takeHeadExtent at hh
  split at hh
  · simp at hh
  · simp only [Option.some.injEq, Prod.mk.injEq] at hh
    rw [← hh.2]
    refine State.sound_reportFall _ _ ?_ rfl
    rw [State.sound_iff] at h
    simp [State.linksSound, h.2]

theorem State.sound_takePayload {owner index : Nat} {last : Option Nat} {s t : State} {e : Nat}
    (hh : s.takePayload owner index last = some (e, t)) (h : s.sound = true) : t.sound = true := by
  unfold State.takePayload at hh
  split at hh
  · exact State.sound_takeHeadExtent hh h
  · split at hh
    · split at hh
      · simp at hh
      · simp only [Option.some.injEq, Prod.mk.injEq] at hh
        rw [← hh.2]
        refine State.sound_reportFall _ _ ?_ rfl
        rw [State.sound_iff] at h
        simp [State.linksSound, h.2]
    · simp at hh

@[simp] theorem State.sound_encodeSettle (s : State) (l : Lane) (j : Job) (r : EncodeRun) (hs : s.sound = true) :
    (s.encodeSettle l j r).sound = true := by
  unfold State.encodeSettle
  repeat' split
  · rename_i hh
    simp [State.sound_takePayload hh hs]
  all_goals simp (maxDischargeDepth := 20) [hs]

@[simp] theorem State.sound_encodeBurst (s : State) (l : Lane) (j : Job) (r : EncodeRun) (b : Burst) (ws : List ReadWord) (hs : s.sound = true) :
    (s.encodeBurst l j r b ws).sound = true := by
  unfold State.encodeBurst
  try dsimp only
  repeat' split
  all_goals simp (maxDischargeDepth := 20) [hs]

@[simp] theorem State.sound_encodeEnded (s : State) (l : Lane) (j : Job) (r : EncodeRun) (hs : s.sound = true) :
    (s.encodeEnded l j r).sound = true := by
  unfold State.encodeEnded
  try dsimp only
  repeat' split
  all_goals simp (maxDischargeDepth := 20) [hs]

@[simp] theorem State.sound_proofOver (s : State) (l : Lane) (j : Job) (hs : s.sound = true) :
    (s.proofOver l j).sound = true := by
  unfold State.proofOver
  try dsimp only
  repeat' split
  all_goals simp (maxDischargeDepth := 20) [hs]

@[simp] theorem State.sound_proofReply (s : State) (j : Job) (r : ReplyResult) (hs : s.sound = true) :
    (s.proofReply j r).sound = true := by
  unfold State.proofReply
  try dsimp only
  repeat' split
  all_goals simp (maxDischargeDepth := 20) [hs]

@[simp] theorem State.sound_proofFail (s : State) (l : Lane) (j : Job) (r : BandRecord) (c : Detail) (row : Nat) (hs : s.sound = true) :
    (s.proofFail l j r c row).sound = true := by
  unfold State.proofFail
  try dsimp only
  repeat' split
  all_goals simp (maxDischargeDepth := 20) [hs]

@[simp] theorem State.sound_proofDone (s : State) (l : Lane) (j : Job) (r : BandRecord) (hr : Nat) (hs : s.sound = true) :
    (s.proofDone l j r hr).sound = true := by
  unfold State.proofDone
  try dsimp only
  repeat' split
  all_goals simp (maxDischargeDepth := 20) [hs]

@[simp] theorem State.sound_proofAdvance (s : State) (l : Lane) (j : Job) (r : BandRecord) (n : Nat) (k : Decoder) (hs : s.sound = true) :
    (s.proofAdvance l j r n k).sound = true := by
  induction n generalizing s k with
  | zero => exact hs
  | succ n ih =>
    unfold State.proofAdvance
    split
    · simp (maxDischargeDepth := 20) [hs]
    · split
      · simp (maxDischargeDepth := 20) [hs]
      · simp (maxDischargeDepth := 20) [hs]
      · split
        · rename_i hh
          have h2 := congrArg (fun q : List OutFrame × State => q.2.sound) hh
          exact ih _ _ (h2.symm.trans (State.sound_placeRows _ _ _ _ hs))
        · rename_i hh
          have h2 := congrArg (fun q : List OutFrame × State => q.2.sound) hh
          exact (State.sound_setLane _ _ _).trans (h2.symm.trans (State.sound_placeRows _ _ _ _ hs))

@[simp] theorem State.sound_proofRun (s : State) (l : Lane) (j : Job) (r : BandRecord) (k : Decoder) (hs : s.sound = true) :
    (s.proofRun l j r k).sound = true := by
  unfold State.proofRun
  try dsimp only
  repeat' split
  all_goals simp (maxDischargeDepth := 20) [hs]

@[simp] theorem State.sound_proofRecord (s : State) (l : Lane) (j : Job) (e : TableEnd) (hs : s.sound = true) :
    (s.proofRecord l j e).sound = true := by
  unfold State.proofRecord
  try dsimp only
  repeat' split
  all_goals simp (maxDischargeDepth := 20) [hs]

@[simp] theorem State.sound_proofAbandon (s : State) (l : Lane) (j : Job) (hs : s.sound = true) :
    (s.proofAbandon l j).sound = true := by
  unfold State.proofAbandon
  try dsimp only
  repeat' split
  all_goals simp (maxDischargeDepth := 20) [hs]

@[simp] theorem State.sound_endReadBack (s : State) (x : Link) (st : Stream) (k : Nat) (r : ReplyResult) (hs : s.sound = true) :
    (s.endReadBack x st k r).sound = true := by
  unfold State.endReadBack
  try dsimp only
  repeat' split
  all_goals simp (maxDischargeDepth := 20) [hs]

@[simp] theorem State.sound_placeFilled (s : State) (x : Link) (f : OutFrame) (hs : s.sound = true) :
    (s.placeFilled x f).sound = true := by
  unfold State.placeFilled
  try dsimp only
  repeat' split
  all_goals simp (maxDischargeDepth := 20) [hs]

@[simp] theorem State.sound_copyMarked (s : State) (x : Link) (st : Stream) (f : OutFrame) (hs : s.sound = true) :
    (s.copyMarked x st f).sound = true := by
  unfold State.copyMarked
  try dsimp only
  repeat' split
  all_goals simp (maxDischargeDepth := 20) [hs]

@[simp] theorem State.sound_streamFail (s : State) (x : Link) (st : Stream) (c : Detail) (ws : List Word) (w : Nat) (hs : s.sound = true) :
    (s.streamFail x st c ws w).sound = true := by
  unfold State.streamFail
  try dsimp only
  repeat' split
  all_goals simp (maxDischargeDepth := 20) [hs]

@[simp] theorem State.sound_streamSettle (s : State) (x : Link) (st : Stream) (ws : List Word) (hs : s.sound = true) :
    (s.streamSettle x st ws).sound = true := by
  unfold State.streamSettle
  try dsimp only
  repeat' split
  all_goals simp (maxDischargeDepth := 20) [hs]

@[simp] theorem State.sound_streamBurst (s : State) (x : Link) (ws : List ReadWord) (hs : s.sound = true) :
    (s.streamBurst x ws).sound = true := by
  unfold State.streamBurst
  try dsimp only
  repeat' split
  all_goals simp (maxDischargeDepth := 20) [hs]

@[simp] theorem State.sound_streamClaim (s : State) (x : Link) (hs : s.sound = true) :
    (s.streamClaim x).sound = true := by
  unfold State.streamClaim
  try dsimp only
  repeat' split
  all_goals simp (maxDischargeDepth := 20) [hs]

@[simp] theorem State.sound_streamPlaced (s : State) (x : Link) (st : Stream) (ws : List Word) (hs : s.sound = true) :
    (s.streamPlaced x st ws).sound = true := by
  unfold State.streamPlaced
  try dsimp only
  repeat' split
  all_goals simp (maxDischargeDepth := 20) [hs]

@[simp] theorem State.sound_copyRecord (s : State) (x : Link) (st : Stream) (e : TableEnd) (hs : s.sound = true) :
    (s.copyRecord x st e).sound = true := by
  unfold State.copyRecord
  try dsimp only
  repeat' split
  all_goals simp (maxDischargeDepth := 20) [hs]

@[simp] theorem State.sound_readBandRecord (s : State) (x : Link) (q : RecordRead) (e : TableEnd) (hs : s.sound = true) :
    (s.readBandRecord x q e).sound = true := by
  unfold State.readBandRecord
  try dsimp only
  repeat' split
  all_goals simp (maxDischargeDepth := 20) [hs]

@[simp] theorem State.sound_refusePixels (s : State) (x : Link) (tag : Byte) (c : Refuse) (hs : s.sound = true) :
    (s.refusePixels x tag c).sound = true := by
  unfold State.refusePixels
  try dsimp only
  repeat' split
  all_goals simp (maxDischargeDepth := 20) [hs]

@[simp] theorem State.sound_takePixels (s : State) (x : Link) (p : Page) (q : PixelFields) (hs : s.sound = true) :
    (s.takePixels x p q).sound = true := by
  unfold State.takePixels
  try dsimp only
  repeat' split
  all_goals simp (maxDischargeDepth := 20) [hs]

@[simp] theorem State.sound_checkPixels (s : State) (x : Link) (tag : Byte) (body : List Byte) (hs : s.sound = true) :
    (s.checkPixels x tag body).sound = true := by
  unfold State.checkPixels
  try dsimp only
  repeat' split
  all_goals simp (maxDischargeDepth := 20) [hs]

@[simp] theorem State.sound_servePixels (s : State) (x : Link) (f : Frame) (hs : s.sound = true) :
    (s.servePixels x f).sound = true := by
  unfold State.servePixels
  try dsimp only
  repeat' split
  all_goals simp (maxDischargeDepth := 20) [hs]

@[simp] theorem State.sound_checkWaiting (s : State) (x : Link) (n : Nat) (hs : s.sound = true) :
    (s.checkWaiting x n).sound = true := by
  induction n generalizing s with
  | zero => exact hs
  | succ n ih =>
    unfold State.checkWaiting
    split
    · exact ih _ (by simp (maxDischargeDepth := 20) [hs])
    · exact hs

@[simp] theorem State.sound_bandComplete (s : State) (x : Link) (p : Page) (t : SlotId) (band rows : Nat) (o : Slot) (hs : s.sound = true) :
    (s.bandComplete x p t band rows o).sound = true := by
  unfold State.bandComplete
  dsimp only
  have h1 := State.sound_foldl (State.dispatchEncode p band x t) (fun t' i ht => State.sound_dispatchEncode t' p band x t i ht)
    (List.range p.c) (s.modIntake x fun k => { k with slots := k.slots.set t ⟨.waiting, some p.id, some band, rows, p.c⟩ }) hs
  split <;> simp [h1]

@[simp] theorem State.sound_slotTakes (s : State) (x : Link) (p : Page) (hb : Nat) (t : SlotId) (band next : Nat) (o : Slot) (hs : s.sound = true) :
    (s.slotTakes x p hb t band next o).sound = true := by
  unfold State.slotTakes
  try dsimp only
  repeat' split
  all_goals simp (maxDischargeDepth := 20) [hs]

@[simp] theorem State.sound_framesEffects (s : State) (x : Link) (p : Page) (f : FrameWriting) (hs : s.sound = true) :
    (s.framesEffects x p f).sound = true := by
  unfold State.framesEffects
  try dsimp only
  repeat' split
  all_goals simp (maxDischargeDepth := 20) [hs]

@[simp] theorem State.sound_pixelsWritten (s : State) (x : Link) (f : FrameWriting) (hs : s.sound = true) :
    (s.pixelsWritten x f).sound = true := by
  unfold State.pixelsWritten
  try dsimp only
  repeat' split
  all_goals simp (maxDischargeDepth := 20) [hs]

@[simp] theorem State.sound_startBurst (s : State) (b : Burst) (hs : s.sound = true) :
    (s.startBurst b).sound = true := by
  unfold State.startBurst
  try dsimp only
  repeat' split
  all_goals simp (maxDischargeDepth := 20) [hs]

@[simp] theorem State.sound_grantUrgent (s : State) (b : Burst) (hs : s.sound = true) :
    (s.grantUrgent b).sound = true := by
  unfold State.grantUrgent
  try dsimp only
  repeat' split
  all_goals simp (maxDischargeDepth := 20) [hs]

@[simp] theorem State.sound_grantRun (s : State) (b : Burst) (hs : s.sound = true) :
    (s.grantRun b).sound = true := by
  unfold State.grantRun
  try dsimp only
  repeat' split
  all_goals simp (maxDischargeDepth := 20) [hs]

@[simp] theorem State.sound_extendRun (s : State) (b : Burst) (hs : s.sound = true) :
    (s.extendRun b).sound = true := by
  unfold State.extendRun
  try dsimp only
  repeat' split
  all_goals simp (maxDischargeDepth := 20) [hs]

@[simp] theorem State.sound_grantRefresh (s : State)  (hs : s.sound = true) :
    (s.grantRefresh).sound = true := by
  unfold State.grantRefresh
  try dsimp only
  repeat' split
  all_goals simp (maxDischargeDepth := 20) [hs]

@[simp] theorem State.sound_grantDecision (s : State)  (hs : s.sound = true) :
    (s.grantDecision).sound = true := by
  unfold State.grantDecision
  try dsimp only
  repeat' split
  all_goals simp (maxDischargeDepth := 20) [hs]

@[simp] theorem State.sound_arbitrate (s : State)  (hs : s.sound = true) :
    (s.arbitrate).sound = true := by
  unfold State.arbitrate
  try dsimp only
  repeat' split
  all_goals simp (maxDischargeDepth := 20) [hs]

@[simp] theorem State.sound_tableMade (s : State) (op : TableOp) (ws : List ReadWord) (hs : s.sound = true) :
    (s.tableMade op ws).sound = true := by
  unfold State.tableMade
  try dsimp only
  repeat' split
  all_goals simp (maxDischargeDepth := 20) [hs]

@[simp] theorem State.sound_deliver (s : State) (b : Burst) (ws : List ReadWord) (hs : s.sound = true) :
    (s.deliver b ws).sound = true := by
  unfold State.deliver
  try dsimp only
  repeat' split
  all_goals simp (maxDischargeDepth := 20) [hs]

@[simp] theorem State.sound_servePrint (s : State) (x : Link) (f : Frame) (hs : s.sound = true) :
    (s.servePrint x f).sound = true := by
  unfold State.servePrint
  try dsimp only
  repeat' split
  all_goals simp (maxDischargeDepth := 20) [hs]

@[simp] theorem State.sound_serveCancelPrint (s : State) (x : Link) (f : Frame) (hs : s.sound = true) :
    (s.serveCancelPrint x f).sound = true := by
  unfold State.serveCancelPrint
  try dsimp only
  repeat' split
  all_goals simp (maxDischargeDepth := 20) [hs]

@[simp] theorem State.sound_serveSetPress (s : State) (x : Link) (f : Frame) (hs : s.sound = true) :
    (s.serveSetPress x f).sound = true := by
  unfold State.serveSetPress
  try dsimp only
  repeat' split
  all_goals simp (maxDischargeDepth := 20) [hs]

@[simp] theorem State.sound_answerPress (s : State) (l : List Answer) (hs : s.sound = true) :
    (s.answerPress l).sound = true := by
  unfold State.answerPress
  try dsimp only
  repeat' split
  all_goals simp (maxDischargeDepth := 20) [hs]

@[simp] theorem State.sound_wake (s : State) (w : WakeCause) (h : Bool) (hs : s.sound = true) :
    (s.wake w h).sound = true := by
  unfold State.wake
  try dsimp only
  repeat' split
  all_goals simp (maxDischargeDepth := 20) [hs]

@[simp] theorem State.sound_beginSheet (s : State) (e : PrintEntry) (p : Page) (hs : s.sound = true) :
    (s.beginSheet e p).sound = true := by
  unfold State.beginSheet
  try dsimp only
  repeat' split
  all_goals simp (maxDischargeDepth := 20) [hs]

@[simp] theorem State.sound_takeSheetStart (s : State)  (hs : s.sound = true) :
    (s.takeSheetStart).sound = true := by
  unfold State.takeSheetStart
  try dsimp only
  repeat' split
  all_goals simp (maxDischargeDepth := 20) [hs]

@[simp] theorem State.sound_sheetDone (s : State) (e : PrintEntry) (hs : s.sound = true) :
    (s.sheetDone e).sound = true := by
  unfold State.sheetDone
  try dsimp only
  repeat' split
  all_goals simp (maxDischargeDepth := 20) [hs]

@[simp] theorem State.sound_sendLine (s : State) (e : PrintEntry) (p : Page) (hs : s.sound = true) :
    (s.sendLine e p).sound = true := by
  unfold State.sendLine
  try dsimp only
  repeat' split
  all_goals simp (maxDischargeDepth := 20) [hs]

@[simp] theorem State.sound_takeLineRequest (s : State)  (hs : s.sound = true) :
    (s.takeLineRequest).sound = true := by
  unfold State.takeLineRequest
  try dsimp only
  repeat' split
  all_goals simp (maxDischargeDepth := 20) [hs]

@[simp] theorem State.sound_takeSheetAbort (s : State)  (hs : s.sound = true) :
    (s.takeSheetAbort).sound = true := by
  unfold State.takeSheetAbort
  try dsimp only
  repeat' split
  all_goals simp (maxDischargeDepth := 20) [hs]

@[simp] theorem State.sound_uncountSheet (s : State) (hs : s.sound = true) :
    (s.uncountSheet).sound = true := by
  unfold State.uncountSheet
  repeat' split
  all_goals simp (maxDischargeDepth := 20) [hs]

@[simp] theorem State.sound_takeSignal (s : State) (g : PressSignal) (hs : s.sound = true) :
    (s.takeSignal g).sound = true := by
  unfold State.takeSignal
  try dsimp only
  repeat' split
  all_goals simp (maxDischargeDepth := 20) [hs]

@[simp] theorem State.sound_pressSignal (s : State) (g : PressSignal) (hs : s.sound = true) :
    (s.pressSignal g).sound = true := by
  unfold State.pressSignal
  try dsimp only
  repeat' split
  all_goals simp (maxDischargeDepth := 20) [hs]

@[simp] theorem State.sound_drainSignals (s : State) (n : Nat) (hs : s.sound = true) :
    (s.drainSignals n).sound = true := by
  induction n generalizing s with
  | zero => exact hs
  | succ n ih =>
    unfold State.drainSignals
    split
    · exact ih _ (by simp (maxDischargeDepth := 20) [hs])
    · exact hs

@[simp] theorem State.sound_takeWaitingSignals (s : State)  (hs : s.sound = true) :
    (s.takeWaitingSignals).sound = true := by
  unfold State.takeWaitingSignals
  try dsimp only
  repeat' split
  all_goals simp (maxDischargeDepth := 20) [hs]

@[simp] theorem State.sound_pressResetNow (s : State)  (hs : s.sound = true) :
    (s.pressResetNow).sound = true := by
  unfold State.pressResetNow
  try dsimp only
  repeat' split
  all_goals simp (maxDischargeDepth := 20) [hs]

@[simp] theorem State.sound_takeHold (s : State) (x : Link) (f : Frame) (hs : s.sound = true) :
    (s.takeHold x f).sound = true := State.sound_modLink_fields s x _ hs (fun _ => rfl) (fun _ => rfl) (fun _ => rfl) (fun _ => rfl)

@[simp] theorem State.sound_takeResume (s : State) (x : Link) (hs : s.sound = true) :
    (s.takeResume x).sound = true := by
  unfold State.takeResume
  try dsimp only
  repeat' split
  all_goals simp (maxDischargeDepth := 20) [hs]

@[simp] theorem State.sound_frameIn (s : State) (x : Link) (f : Frame) (hs : s.sound = true) :
    (s.frameIn x f).sound = true := by
  unfold State.frameIn
  repeat' split
  · simp (maxDischargeDepth := 20) [hs]
  · simp (maxDischargeDepth := 20) [hs]
  · rename_i hr
    rw [State.sound_iff] at hs ⊢
    have key : ∀ c : LinkCtl, c.sound s.nextTicket = true → c.rx.length < Config.rxPlaces →
        LinkCtl.sound s.nextTicket { c with rx := c.rx ++ [f] } = true := by
      intro c hc h1
      simp only [LinkCtl.sound, LinkCtl.bounded, Bool.and_eq_true, decide_eq_true_eq, List.length_append,
        List.length_cons, List.length_nil] at hc ⊢
      exact ⟨⟨⟨⟨by omega, hc.1.1.1.2⟩, hc.1.1.2⟩, hc.1.2⟩, hc.2⟩
    cases x
    · exact ⟨hs.1, key _ hs.2.1 hr, hs.2.2⟩
    · exact ⟨hs.1, hs.2.1, key _ hs.2.2 hr⟩
  · refine State.sound_modLink s x _ hs fun c hc => ?_
    simp_all [LinkCtl.sound, LinkCtl.bounded, LinkCtl.noteOverrun, satAdd]

@[simp] theorem State.sound_abortStreams (s : State) (x : Link) (hs : s.sound = true) :
    (s.abortStreams x).sound = true := by
  unfold State.abortStreams
  exact State.sound_foldl _ (fun t (st : Stream) ht => (State.sound_dropStreamRef t st.page ht)) _ _ hs

@[simp] theorem State.sound_resetIntake (s : State) (x : Link) (hs : s.sound = true) :
    (s.resetIntake x).sound = true := by
  unfold State.resetIntake
  try dsimp only
  repeat' split
  all_goals simp (maxDischargeDepth := 20) [hs]

@[simp] theorem State.sound_abandonProof (s : State) (x : Link) (l : Lane) (hs : s.sound = true) :
    (State.abandonProof x s l).sound = true := by
  unfold State.abandonProof
  try dsimp only
  repeat' split
  all_goals simp (maxDischargeDepth := 20) [hs]

@[simp] theorem State.sound_resetProofs (s : State) (x : Link) (hs : s.sound = true) :
    (s.resetProofs x).sound = true := by
  unfold State.resetProofs
  exact State.sound_foldl _ (fun t l ht => State.sound_abandonProof t x l ht) _ _ (State.sound_takeOutJobs _ _ hs)

@[simp] theorem State.sound_endListing (s : State) (q : Listing) (hs : s.sound = true) :
    (s.endListing q).sound = true := by
  unfold State.endListing
  try dsimp only
  repeat' split
  all_goals simp (maxDischargeDepth := 20) [hs]

@[simp] theorem State.sound_resetListings (s : State) (x : Link) (hs : s.sound = true) :
    (s.resetListings x).sound = true := by
  unfold State.resetListings
  exact State.sound_foldl _ (fun t q ht => State.sound_endListing t q ht) _ _ hs

@[simp] theorem State.sound_resetWake (s : State) (x : Link) (hs : s.sound = true) :
    (s.resetWake x).sound = true := by
  unfold State.resetWake
  try dsimp only
  repeat' split
  all_goals simp (maxDischargeDepth := 20) [hs]

@[simp] theorem State.sound_resetLink (s : State) (x : Link) (hs : s.sound = true) :
    (s.resetLink x).sound = true := by
  unfold State.resetLink
  refine State.sound_resetListings _ _ (State.sound_resetProofs _ _ (State.sound_resetIntake _ _
    (State.sound_resetWake _ _ (State.sound_modLink _ x _ (State.sound_abortStreams s x hs) fun c hc => ?_))))
  unfold LinkCtl.reset
  split
  · exact hc
  · simp [LinkCtl.sound, LinkCtl.bounded, LinkCtl.initial]

@[simp] theorem State.sound_serveClearStatus (s : State) (x : Link) (f : Frame) (hs : s.sound = true) :
    (s.serveClearStatus x f).sound = true := by
  unfold State.serveClearStatus
  refine State.sound_reply _ _ _ _ (State.sound_modLink s x _ hs fun c hc => ?_)
  simp_all [LinkCtl.sound, LinkCtl.bounded, LinkCtl.clearStatus]

@[simp] theorem State.sound_serveRest (s : State) (x : Link) (f : Frame) (k : Nat) (hs : s.sound = true) :
    (s.serveRest x f k).sound = true := by
  unfold State.serveRest
  try dsimp only
  repeat' split
  all_goals simp (maxDischargeDepth := 20) [hs]

@[simp] theorem State.sound_serveWake (s : State) (w : Option WakeCause) (h : Bool) (hs : s.sound = true) :
    (s.serveWake w h).sound = true := by
  unfold State.serveWake
  dsimp only
  split
  · rename_i x
    split
    · rename_i f rest hr
      split
      · have h1 : State.sound (s.modLink x fun c => { c with rx := rest }) = true :=
          State.sound_dropHead s x f rest _ hs hr rfl rfl rfl rfl
        split <;> simp [h1]
      · exact hs
    · exact hs
  · simp (maxDischargeDepth := 20) [hs]
  · simp (maxDischargeDepth := 20) [hs]
  · exact hs

@[simp] theorem State.sound_serveSetStore (s : State) (x : Link) (f : Frame) (hs : s.sound = true) :
    (s.serveSetStore x f).sound = true := by
  unfold State.serveSetStore
  try dsimp only
  repeat' split
  all_goals simp (maxDischargeDepth := 20) [hs]

@[simp] theorem State.sound_serveSetProfile (s : State) (x : Link) (f : Frame) (hs : s.sound = true) :
    (s.serveSetProfile x f).sound = true := by
  unfold State.serveSetProfile
  try dsimp only
  repeat' split
  all_goals simp (maxDischargeDepth := 20) [hs]

@[simp] theorem State.sound_enterPage (s : State) (x : Link) (k : Nat) (p : Page) (hs : s.sound = true) :
    (s.enterPage x k p).sound = true := by
  unfold State.enterPage
  try dsimp only
  repeat' split
  all_goals simp (maxDischargeDepth := 20) [hs]

@[simp] theorem State.sound_admitPage (s : State) (x : Link) (k : Nat) (q : OpenFields) (cls : Nat) (t : Option Link) (m : Bool) (hs : s.sound = true) :
    (s.admitPage x k q cls t m).sound = true := by
  have hu : (if m then s else s.useAdmit).sound = true := by split <;> simp [hs]
  unfold State.admitPage
  dsimp only
  split
  · rename_i hh
    simp [State.sound_takeHeadExtent hh hu]
  · simp (maxDischargeDepth := 20) [hu]

@[simp] theorem State.sound_serveOpenPage (s : State) (x : Link) (m : Bool) (f : Frame) (k : Nat) (hs : s.sound = true) :
    (s.serveOpenPage x m f k).sound = true := by
  unfold State.serveOpenPage
  try dsimp only
  repeat' split
  all_goals simp (maxDischargeDepth := 20) [hs]

@[simp] theorem State.sound_headerDone (s : State) (h : HeaderInit) (hs : s.sound = true) :
    (s.headerDone h).sound = true := by
  unfold State.headerDone
  try dsimp only
  repeat' split
  all_goals simp (maxDischargeDepth := 20) [hs]

@[simp] theorem State.sound_retire (s : State) (x : Link) (k : Nat) (p : Page) (hs : s.sound = true) :
    (s.retire x k p).sound = true := by
  unfold State.retire
  dsimp only
  split <;> simp (maxDischargeDepth := 20) [hs, State.sound_ceaseIntake]

@[simp] theorem State.sound_serveRetirePage (s : State) (x : Link) (f : Frame) (k : Nat) (hs : s.sound = true) :
    (s.serveRetirePage x f k).sound = true := by
  unfold State.serveRetirePage
  try dsimp only
  repeat' split
  all_goals simp (maxDischargeDepth := 20) [hs]

@[simp] theorem State.sound_releaseStep (s : State) (r : Release) (p : Page) (e : TableEnd) (hs : s.sound = true) :
    (s.releaseStep r p e).sound = true := by
  unfold State.releaseStep
  try dsimp only
  repeat' split
  all_goals simp (maxDischargeDepth := 20) [hs]

@[simp] theorem State.sound_serveListPage (s : State) (x : Link) (f : Frame) (k : Nat) (hs : s.sound = true) :
    (s.serveListPage x f k).sound = true := by
  unfold State.serveListPage
  try dsimp only
  repeat' split
  all_goals simp (maxDischargeDepth := 20) [hs]

@[simp] theorem State.sound_listStep (s : State) (q : Listing) (e : TableEnd) (hs : s.sound = true) :
    (s.listStep q e).sound = true := by
  unfold State.listStep
  try dsimp only
  repeat' split
  all_goals simp (maxDischargeDepth := 20) [hs]

@[simp] theorem State.sound_bandRecorded (s : State) (l : Lane) (j : Job) (hs : s.sound = true) :
    (s.bandRecorded l j).sound = true := by
  unfold State.bandRecorded
  try dsimp only
  repeat' split
  all_goals simp (maxDischargeDepth := 20) [hs]

@[simp] theorem State.sound_serveReadBandDecoded (s : State) (x : Link) (f : Frame) (k : Nat) (hs : s.sound = true) :
    (s.serveReadBandDecoded x f k).sound = true := by
  unfold State.serveReadBandDecoded
  try dsimp only
  repeat' split
  all_goals simp (maxDischargeDepth := 20) [hs]

@[simp] theorem State.sound_proofPlace (s : State) (l : Lane) (j : Job) (r : BandRecord) (k : Decoder) (f : OutFrame) (rest : List OutFrame) (hs : s.sound = true) :
    (s.proofPlace l j r k f rest).sound = true := by
  unfold State.proofPlace
  dsimp only
  have h0 : ∀ g : OutFrame, State.sound (s.modLink j.link fun c => ({ c with waiters := c.waiters.tail } : LinkCtl).place g)
      = true := fun g => by simp (maxDischargeDepth := 20) [hs]
  split
  · rename_i hh
    have h2 := congrArg (fun q : List OutFrame × State => q.2.sound) hh
    exact State.sound_proofRun _ _ _ _ _ (h2.symm.trans (State.sound_placeRows _ _ _ _ (h0 f)))
  · rename_i hh
    have h2 := congrArg (fun q : List OutFrame × State => q.2.sound) hh
    exact (State.sound_setLane _ _ _).trans (h2.symm.trans (State.sound_placeRows _ _ _ _ (h0 f)))

@[simp] theorem State.sound_serveSetLaneTable (s : State) (x : Link) (f : Frame) (hs : s.sound = true) :
    (s.serveSetLaneTable x f).sound = true := by
  unfold State.serveSetLaneTable
  try dsimp only
  repeat' split
  all_goals simp (maxDischargeDepth := 20) [hs]

@[simp] theorem State.sound_serveSetRule (s : State) (x : Link) (f : Frame) (hs : s.sound = true) :
    (s.serveSetRule x f).sound = true := by
  unfold State.serveSetRule
  try dsimp only
  repeat' split
  all_goals simp (maxDischargeDepth := 20) [hs]

@[simp] theorem State.sound_serveSetDefaultClass (s : State) (x : Link) (f : Frame) (hs : s.sound = true) :
    (s.serveSetDefaultClass x f).sound = true := by
  unfold State.serveSetDefaultClass
  try dsimp only
  repeat' split
  all_goals simp (maxDischargeDepth := 20) [hs]

@[simp] theorem State.sound_serveSetWatermarks (s : State) (x : Link) (f : Frame) (hs : s.sound = true) :
    (s.serveSetWatermarks x f).sound = true := by
  unfold State.serveSetWatermarks
  try dsimp only
  repeat' split
  all_goals simp (maxDischargeDepth := 20) [hs]

@[simp] theorem State.sound_serveReadBandCompressed (s : State) (x : Link) (f : Frame) (k : Nat) (hs : s.sound = true) :
    (s.serveReadBandCompressed x f k).sound = true := by
  unfold State.serveReadBandCompressed
  try dsimp only
  repeat' split
  all_goals simp (maxDischargeDepth := 20) [hs]

@[simp] theorem State.sound_readBandEnded (s : State) (x : Link) (q : RecordRead) (e : TableEnd) (hs : s.sound = true) :
    (s.readBandEnded x q e).sound = true := by
  unfold State.readBandEnded
  try dsimp only
  repeat' split
  all_goals simp (maxDischargeDepth := 20) [hs]

@[simp] theorem State.sound_copyFinish (s : State) (x : Link) (st : Stream) (hs : s.sound = true) :
    (s.copyFinish x st).sound = true := by
  unfold State.copyFinish
  try dsimp only
  repeat' split
  all_goals simp (maxDischargeDepth := 20) [hs]

/-! ## Commands -/

theorem State.sound_takeHead {x : Link} {m : Frame → Bool} {s t : State} {f : Frame}
    (h : s.takeHead x m = some (f, t)) (hs : s.sound = true) : t.sound = true := by
  unfold State.takeHead at h
  split at h
  · simp at h
  · rename_i g rest hr
    split at h
    · simp only [Option.some.injEq, Prod.mk.injEq] at h
      rw [← h.2]
      exact State.sound_dropHead s x g rest _ hs hr rfl rfl rfl rfl
    · simp at h

theorem State.sound_serveShort (s : State) (x : Link) (m ok : Frame → Bool) (g : Frame → State → State)
    (hg : ∀ f t, t.sound = true → (g f t).sound = true) (hs : s.sound = true) :
    (s.serveShort x m ok g).sound = true := by
  unfold State.serveShort
  split
  · exact hs
  · rename_i h
    have h1 := State.sound_takeHead h hs
    repeat' split
    all_goals simp [hg, h1]

theorem State.sound_serveLong (s : State) (x : Link) (m ok : Frame → Bool) (g : Frame → Nat → State → State)
    (hg : ∀ f k t, t.sound = true → (g f k t).sound = true) (hs : s.sound = true) :
    (s.serveLong x m ok g).sound = true := by
  unfold State.serveLong
  split
  · exact hs
  · rename_i h
    have h1 := State.sound_takeHead h hs
    split
    · simp [h1]
    · split
      · split
        · simp [h1]
        · rename_i hl
          exact hg _ _ _ (State.sound_addLong _ _ _ h1 (by omega))
      · simp [h1]

@[simp] theorem State.sound_takeOpenPage (s : State) (x : Link) (m : Bool) (hs : s.sound = true) :
    (s.takeOpenPage x m).sound = true := by
  unfold State.takeOpenPage
  exact State.sound_serveLong s x _ _ _ (fun f k t ht => State.sound_serveOpenPage t x m f k ht) hs

end Sys2Proof.Machine
end

