-- ==== Sys2Proof/Laws/Still.lean ====
section
/-!
SUPPORT. What each shared operation leaves alone: the store, the size, the queue and the owed refresh count
(State.still). Only the end of a burst, power-on reset, the refreshes and due points, and rest change one of them.
-/

-- One proof after another: the package as one text asks for more threads at once than the check allows.
set_option Elab.async false
set_option linter.unusedTactic false
set_option linter.unusedSimpArgs false
set_option linter.unreachableTactic false
namespace Sys2Proof.Machine

theorem State.still_foldl {α : Type} (g : State → α → State) (hg : ∀ s a, (g s a).still = s.still) (l : List α)
    (s : State) : (l.foldl g s).still = s.still := by
  induction l generalizing s with
  | nil => rfl
  | cons a l ih => simp [List.foldl_cons, ih, hg]

@[simp] theorem State.still_modLink (s : State) (x : Link) (f : LinkCtl → LinkCtl) : (s.modLink x f).still = s.still :=
  rfl
@[simp] theorem State.still_modIntake (s : State) (x : Link) (f : Intake → Intake) :
    (s.modIntake x f).still = s.still := rfl
@[simp] theorem State.still_modPress (s : State) (f : PressFeed → PressFeed) : (s.modPress f).still = s.still := rfl
@[simp] theorem State.still_modArb (s : State) (f : Arbiter → Arbiter) : (s.modArb f).still = s.still := rfl
@[simp] theorem State.still_modDir (s : State) (f : Directory → Directory) : (s.modDir f).still = s.still := rfl
@[simp] theorem State.still_modDisp (s : State) (f : Dispatcher → Dispatcher) : (s.modDisp f).still = s.still := rfl
@[simp] theorem State.still_modAdm (s : State) (f : Admission → Admission) : (s.modAdm f).still = s.still := rfl
@[simp] theorem State.still_modMap (s : State) (f : ExtentMap → ExtentMap) : (s.modMap f).still = s.still := rfl
@[simp] theorem State.still_modPage (s : State) (id : Nat) (f : Page → Page) : (s.modPage id f).still = s.still := rfl
@[simp] theorem State.still_setLane (s : State) (l : Lane) (v : LaneState) : (s.setLane l v).still = s.still := rfl
theorem State.still_modCtl (s : State) (f : StoreCtl → StoreCtl) (h : (f s.ctl).owed = s.ctl.owed) :
    (s.modCtl f).still = s.still := by
  simp [State.still, h]

@[simp] theorem State.still_dropPrintRef (s : State) (id : Nat) :
    (s.dropPrintRef id).still = s.still := by rfl

@[simp] theorem State.still_dropStreamRef (s : State) (id : Nat) :
    (s.dropStreamRef id).still = s.still := by rfl

@[simp] theorem State.still_damageEvent (s : State) (id : Nat) :
    (s.damageEvent id).still = s.still := by rfl

@[simp] theorem State.still_notify (s : State) (x : Link) (n : Notice) :
    (s.notify x n).still = s.still := by rfl

@[simp] theorem State.still_notifyBoth (s : State) (n : Notice) :
    (s.notifyBoth n).still = s.still := by rfl

@[simp] theorem State.still_reply (s : State) (x : Link) (f : Frame) (r : ReplyResult) :
    (s.reply x f r).still = s.still := by rfl

@[simp] theorem State.still_answer (s : State) (x : Link) (k : Nat) (r : ReplyResult) :
    (s.answer x k r).still = s.still := by
  unfold State.answer
  try dsimp only
  repeat' split
  all_goals simp

@[simp] theorem State.still_freeReplyPlace (s : State) (x : Link) :
    (s.freeReplyPlace x).still = s.still := by rfl

@[simp] theorem State.still_flagClamped (s : State) (x : Link) :
    (s.flagClamped x).still = s.still := by rfl

@[simp] theorem State.still_flagStoreParity (s : State)  :
    (s.flagStoreParity).still = s.still := by rfl

@[simp] theorem State.still_flagUnderrun (s : State)  :
    (s.flagUnderrun).still = s.still := by rfl

@[simp] theorem State.still_addLong (s : State) (x : Link) (f : Frame) :
    (s.addLong x f).still = s.still := by rfl

@[simp] theorem State.still_closeAdmission (s : State)  :
    (s.closeAdmission).still = s.still := by rfl

@[simp] theorem State.still_leaveNormal (s : State)  :
    (s.leaveNormal).still = s.still := by
  unfold State.leaveNormal
  try dsimp only
  repeat' split
  all_goals simp

@[simp] theorem State.still_openAdmission (s : State)  :
    (s.openAdmission).still = s.still := by
  unfold State.openAdmission
  try dsimp only
  repeat' split
  all_goals simp

@[simp] theorem State.still_reportFall (s : State) (n : Nat) :
    (s.reportFall n).still = s.still := by
  unfold State.reportFall
  try dsimp only
  repeat' split
  all_goals simp

@[simp] theorem State.still_reportRise (s : State) (n : Nat) :
    (s.reportRise n).still = s.still := by
  unfold State.reportRise
  try dsimp only
  repeat' split
  all_goals simp

@[simp] theorem State.still_useAdmit (s : State)  :
    (s.useAdmit).still = s.still := by
  unfold State.useAdmit
  try dsimp only
  repeat' split
  all_goals simp

@[simp] theorem State.still_reevaluate (s : State)  :
    (s.reevaluate).still = s.still := by
  unfold State.reevaluate
  try dsimp only
  repeat' split
  all_goals simp

@[simp] theorem State.still_returnExtent (s : State) (e : Nat) :
    (s.returnExtent e).still = s.still := by
  unfold State.returnExtent
  try dsimp only
  repeat' split
  all_goals simp

@[simp] theorem State.still_returnChain (s : State) (e : Option Nat) :
    (s.returnChain e).still = s.still := by
  unfold State.returnChain
  split
  · rfl
  · exact State.still_foldl _ (fun s e => State.still_returnExtent s e) _ _

@[simp] theorem State.still_returnHeader (s : State) (owner header : Nat) :
    (s.returnHeader owner header).still = s.still := by
  unfold State.returnHeader
  rw [State.still_returnExtent]
  exact State.still_foldl _ (fun s (p : Nat × Nat) => State.still_returnChain s (some p.2)) _ _

@[simp] theorem State.still_placeOp (s : State) (op : TableOp) :
    (s.placeOp op).still = s.still := by rfl

@[simp] theorem State.still_placeDeferred (s : State) : s.placeDeferred.still = s.still := rfl

@[simp] theorem State.still_placeRead (s : State) (c : Client) (h i n : Nat) (ck : Bool) :
    (s.placeRead c h i n ck).still = s.still := by rfl

@[simp] theorem State.still_placeRecord (s : State) (c : Client) (h i : Nat) (r : BandRecord) :
    (s.placeRecord c h i r).still = s.still := by rfl

@[simp] theorem State.still_disown (s : State) (m : Burst → Bool) :
    (s.disown m).still = s.still := by rfl

@[simp] theorem State.still_flagIf (s : State) (b : Bool) :
    (s.flagIf b).still = s.still := by
  unfold State.flagIf
  try dsimp only
  repeat' split
  all_goals simp

@[simp] theorem State.still_withdraw (s : State) (c : Client) :
    (s.withdraw c).still = s.still := by
  unfold State.withdraw
  simp

@[simp] theorem State.still_payloadDamage (s : State) (page index : Nat) (r : BandRecord) (b : Bool) :
    (s.payloadDamage page index r b).still = s.still := by
  unfold State.payloadDamage
  try dsimp only
  repeat' split
  all_goals simp

@[simp] theorem State.still_testPress (s : State)  :
    (s.testPress).still = s.still := by
  unfold State.testPress
  simp only [State.still_modArb]
  split <;> simp

@[simp] theorem State.still_pressBand (s : State)  :
    (s.pressBand).still = s.still := by
  unfold State.pressBand
  try dsimp only
  repeat' split
  all_goals simp

@[simp] theorem State.still_pressStop (s : State)  :
    (s.pressStop).still = s.still := by rfl

@[simp] theorem State.still_pressEnter (s : State) (e : Option PrintEntry) :
    (s.pressEnter e).still = s.still := by
  unfold State.pressEnter
  try dsimp only
  repeat' split
  all_goals simp

@[simp] theorem State.still_pressDamage (s : State) (d : DecPos) (comp : Nat) (cause : Detail) (row : Nat) (r : Option BandRecord) (c : Nat) :
    (s.pressDamage d comp cause row r c).still = s.still := by
  unfold State.pressDamage
  try dsimp only
  repeat' split
  all_goals simp

@[simp] theorem State.still_pressRowBegin (s : State) :
    (s.pressRowBegin).still = s.still := by
  unfold State.pressRowBegin
  try dsimp only
  repeat' split
  all_goals simp

@[simp] theorem State.still_pressAdvance (s : State) (n : Nat) :
    (s.pressAdvance n).still = s.still := by
  induction n generalizing s with
  | zero => rfl
  | succ n ih =>
    unfold State.pressAdvance
    repeat' split
    all_goals simp [ih]

@[simp] theorem State.still_pressRun (s : State) :
    (s.pressRun).still = s.still := by
  unfold State.pressRun
  try dsimp only
  repeat' split
  all_goals simp

@[simp] theorem State.still_pressRow (s : State) :
    (s.pressRow).still = s.still := by
  unfold State.pressRow
  simp

@[simp] theorem State.still_pressRoomFreed (s : State)  :
    (s.pressRoomFreed).still = s.still := by
  unfold State.pressRoomFreed
  try dsimp only
  repeat' split
  all_goals simp

@[simp] theorem State.still_pressTakeRecord (s : State) (d : DecPos) (p : Page) (ws : List ReadWord) (comp : Nat) :
    (State.pressTakeRecord d p ws s comp).still = s.still := by
  unfold State.pressTakeRecord
  try dsimp only
  repeat' split
  all_goals simp

@[simp] theorem State.still_pressRecords (s : State) (e : TableEnd) :
    (s.pressRecords e).still = s.still := by
  unfold State.pressRecords
  dsimp only
  repeat' split
  · rfl
  · simp [State.still_foldl _ (State.still_pressTakeRecord · _ _ _ ·)]
  · simp [State.still_foldl _ (State.still_pressTakeRecord · _ _ _ ·)]

@[simp] theorem State.still_pressFeed (s : State) (ws : List ReadWord) :
    (s.pressFeed ws).still = s.still := by
  unfold State.pressFeed
  try dsimp only
  repeat' split
  all_goals simp

@[simp] theorem State.still_dropOwed (s : State) :
    (s.dropOwed).still = s.still := by
  unfold State.dropOwed
  try dsimp only
  repeat' split
  all_goals simp

@[simp] theorem State.still_pressMoveOn (s : State) (d : DecPos) :
    (s.pressMoveOn d).still = s.still := by
  unfold State.pressMoveOn
  try dsimp only
  repeat' split
  all_goals simp

@[simp] theorem State.still_pressFinish (s : State) (d : DecPos) (p : Page) (rows : List (List Nat)) :
    (s.pressFinish d p rows).still = s.still := by
  unfold State.pressFinish
  simp only [State.still_testPress]
  repeat' split
  all_goals simp

theorem State.still_takeEnd {m : Client → Bool} {s t : State} {e : TableEnd}
    (h : s.takeEnd m = some (e, t)) : t.still = s.still := by
  unfold State.takeEnd at h
  split at h
  · simp only [Option.some.injEq, Prod.mk.injEq] at h
    rw [← h.2]
    rfl
  · simp at h

@[simp] theorem State.still_pressTakeEnd (s : State) :
    (s.pressTakeEnd).still = s.still := by
  unfold State.pressTakeEnd
  split
  · rename_i e t he
    simp [State.still_takeEnd he]
  · rfl

@[simp] theorem State.still_finishDue (s : State) (n : Nat) :
    (s.finishDue n).still = s.still := by
  induction n generalizing s with
  | zero => rfl
  | succ n ih =>
    unfold State.finishDue
    repeat' split
    · exact (ih _).trans (State.still_pressFinish _ _ _ _)
    all_goals rfl

@[simp] theorem State.still_pressDue (s : State) :
    (s.pressDue).still = s.still := by
  unfold State.pressDue
  dsimp only
  repeat' split
  all_goals simp

@[simp] theorem State.still_pressHalt (s : State)  :
    (s.pressHalt).still = s.still := by
  unfold State.pressHalt
  try dsimp only
  repeat' split
  all_goals simp

@[simp] theorem State.still_pressRestart (s : State)  :
    (s.pressRestart).still = s.still := by
  unfold State.pressRestart
  try dsimp only
  repeat' split
  all_goals simp

@[simp] theorem State.still_pressPassRemoved (s : State)  :
    (s.pressPassRemoved).still = s.still := by
  unfold State.pressPassRemoved
  try dsimp only
  repeat' split
  all_goals simp

@[simp] theorem State.still_cancelEntry (s : State) (e : PrintEntry) :
    (s.cancelEntry e).still = s.still := by
  unfold State.cancelEntry
  simp only [State.still_testPress]
  repeat' split
  all_goals simp

@[simp] theorem State.still_dropEntries (s : State) (page : Nat) :
    (s.dropEntries page).still = s.still := by
  unfold State.dropEntries
  simp only [State.still_testPress, State.still_pressPassRemoved]
  rw [State.still_foldl _ (fun s e => State.still_notify s _ _)]
  simp

@[simp] theorem State.still_pressSealed (s : State) (page : Nat) :
    (s.pressSealed page).still = s.still := by
  unfold State.pressSealed
  simp only [State.still_testPress]
  repeat' split
  all_goals simp

@[simp] theorem State.still_emptySlot (s : State) (x : Link) (t : SlotId) :
    (s.emptySlot x t).still = s.still := by
  unfold State.emptySlot
  try dsimp only
  repeat' split
  all_goals simp

@[simp] theorem State.still_slotJobEnd (s : State) (x : Link) (t : SlotId) :
    (s.slotJobEnd x t).still = s.still := by
  unfold State.slotJobEnd
  try dsimp only
  repeat' split
  all_goals simp

@[simp] theorem State.still_emptyFilling (s : State) (x : Link) (page : Nat) (t : SlotId) :
    (State.emptyFilling x page s t).still = s.still := by
  unfold State.emptyFilling
  try dsimp only
  repeat' split
  all_goals simp

@[simp] theorem State.still_ceaseIntake (s : State) (page : Nat) (x : Link) :
    (State.ceaseIntake page s x).still = s.still := by
  unfold State.ceaseIntake
  split
  · rw [State.still_foldl _ (State.still_emptyFilling · _ _ ·)]
    rfl
  · rfl

@[simp] theorem State.still_movePending (s : State) (l : Lane) :
    (s.movePending l).still = s.still := by
  unfold State.movePending
  try dsimp only
  repeat' split
  all_goals simp

@[simp] theorem State.still_startJob (s : State) (l : Lane) (j : Job) :
    (s.startJob l j).still = s.still := by
  unfold State.startJob
  try dsimp only
  repeat' split
  all_goals simp

@[simp] theorem State.still_laneTake (s : State) (l : Lane) :
    (s.laneTake l).still = s.still := by
  unfold State.laneTake
  try dsimp only
  repeat' split
  all_goals simp

@[simp] theorem State.still_laneFree (s : State) (l : Lane) :
    (s.laneFree l).still = s.still := by
  unfold State.laneFree
  try dsimp only
  repeat' split
  all_goals simp

@[simp] theorem State.still_dispatchEncode (s : State) (p : Page) (band : Nat) (x : Link) (t : SlotId) (comp : Nat) :
    (State.dispatchEncode p band x t s comp).still = s.still := by
  unfold State.dispatchEncode
  try dsimp only
  repeat' split
  all_goals simp

@[simp] theorem State.still_removedJob (s : State) (c : Refuse) (j : Job) :
    (State.removedJob c s j).still = s.still := by
  unfold State.removedJob
  try dsimp only
  repeat' split
  all_goals simp

@[simp] theorem State.still_movePendings (s : State) (l : Lane) (n : Nat) :
    (s.movePendings l n).still = s.still := by
  induction n generalizing s with
  | zero => rfl
  | succ n ih => simp [State.movePendings, ih]

@[simp] theorem State.still_takeOutJobs (s : State) (g : Job → Bool) :
    (s.takeOutJobs g).still = s.still := by
  unfold State.takeOutJobs
  rw [State.still_foldl _ (fun t l => State.still_movePendings t l _)]
  rfl

@[simp] theorem State.still_removeJobs (s : State) (page : Nat) (c : Refuse) :
    (s.removeJobs page c).still = s.still := by
  unfold State.removeJobs
  rw [State.still_foldl _ (State.still_removedJob · _ ·), State.still_takeOutJobs]

@[simp] theorem State.still_beginRelease (s : State) (page : Nat) :
    (s.beginRelease page).still = s.still := by
  unfold State.beginRelease
  try dsimp only
  repeat' split
  all_goals simp

@[simp] theorem State.still_endWork (s : State) (page : Nat) :
    (s.endWork page).still = s.still := by
  unfold State.endWork
  try dsimp only
  repeat' split
  all_goals simp

@[simp] theorem State.still_failPage (s : State) (page : Nat) (c : FailCause) :
    (s.failPage page c).still = s.still := by
  unfold State.failPage
  dsimp only
  repeat' split
  all_goals simp [State.still_foldl _ (State.still_ceaseIntake · _ ·)]

@[simp] theorem State.still_addStream (s : State) (x : Link) (page : Nat) (mk : Nat → Stream) :
    (s.addStream x page mk).still = s.still := by rfl

@[simp] theorem State.still_sealPage (s : State) (p : Page) :
    (s.sealPage p).still = s.still := by
  unfold State.sealPage
  try dsimp only
  repeat' split
  all_goals simp

@[simp] theorem State.still_recordStored (s : State) (page : Nat) :
    (s.recordStored page).still = s.still := by
  unfold State.recordStored
  try dsimp only
  repeat' split
  all_goals simp

@[simp] theorem State.still_pageGone (s : State) (x : Link) (page : Nat) :
    (s.modLink x (LinkCtl.pageGone page)).still = s.still := by
  first | rfl | exact State.still_modLink _ _ _ (fun _ => rfl)

@[simp] theorem State.still_endRelease (s : State) (r : Release) (p : Page) :
    (s.endRelease r p).still = s.still := by
  unfold State.endRelease
  try dsimp only
  repeat' split
  all_goals simp

@[simp] theorem State.still_encodeOver (s : State) (l : Lane) (j : Job) :
    (s.encodeOver l j).still = s.still := by
  unfold State.encodeOver
  try dsimp only
  repeat' split
  all_goals simp

@[simp] theorem State.still_encodeFail (s : State) (l : Lane) (j : Job) (r : EncodeRun) (c : FailCause) :
    (s.encodeFail l j r c).still = s.still := by
  unfold State.encodeFail
  try dsimp only
  repeat' split
  all_goals simp

theorem State.still_takeHeadExtent {owner : Nat} {use : ExtentUse} {s t : State} {e : Nat}
    (h : s.takeHeadExtent owner use = some (e, t)) : t.still = s.still := by
  unfold State.takeHeadExtent at h
  split at h
  · simp at h
  · simp only [Option.some.injEq, Prod.mk.injEq] at h
    rw [← h.2]
    simp

theorem State.still_takePayload {owner index : Nat} {last : Option Nat} {s t : State} {e : Nat}
    (h : s.takePayload owner index last = some (e, t)) : t.still = s.still := by
  unfold State.takePayload at h
  split at h
  · exact State.still_takeHeadExtent h
  · split at h
    · split at h
      · simp at h
      · simp only [Option.some.injEq, Prod.mk.injEq] at h
        rw [← h.2]
        simp
    · simp at h

@[simp] theorem State.still_encodeSettle (s : State) (l : Lane) (j : Job) (r : EncodeRun) :
    (s.encodeSettle l j r).still = s.still := by
  unfold State.encodeSettle
  repeat' split
  · rename_i h
    simp [State.still_takePayload h]
  all_goals simp

@[simp] theorem State.still_encodeBurst (s : State) (l : Lane) (j : Job) (r : EncodeRun) (b : Burst) (ws : List ReadWord) :
    (s.encodeBurst l j r b ws).still = s.still := by
  unfold State.encodeBurst
  try dsimp only
  repeat' split
  all_goals simp

@[simp] theorem State.still_encodeEnded (s : State) (l : Lane) (j : Job) (r : EncodeRun) :
    (s.encodeEnded l j r).still = s.still := by
  unfold State.encodeEnded
  try dsimp only
  repeat' split
  all_goals simp

@[simp] theorem State.still_proofOver (s : State) (l : Lane) (j : Job) :
    (s.proofOver l j).still = s.still := by
  unfold State.proofOver
  try dsimp only
  repeat' split
  all_goals simp

@[simp] theorem State.still_proofReply (s : State) (j : Job) (r : ReplyResult) :
    (s.proofReply j r).still = s.still := by
  unfold State.proofReply
  try dsimp only
  repeat' split
  all_goals simp

@[simp] theorem State.still_proofFail (s : State) (l : Lane) (j : Job) (r : BandRecord) (c : Detail) (row : Nat) :
    (s.proofFail l j r c row).still = s.still := by
  unfold State.proofFail
  try dsimp only
  repeat' split
  all_goals simp

@[simp] theorem State.still_proofDone (s : State) (l : Lane) (j : Job) (r : BandRecord) (hr : Nat) :
    (s.proofDone l j r hr).still = s.still := by
  unfold State.proofDone
  try dsimp only
  repeat' split
  all_goals simp

@[simp] theorem State.still_proofAdvance (s : State) (l : Lane) (j : Job) (r : BandRecord) (n : Nat) (k : Decoder) :
    (s.proofAdvance l j r n k).still = s.still := by
  induction n generalizing s k with
  | zero => rfl
  | succ n ih =>
    unfold State.proofAdvance
    split
    · simp
    · split
      · simp
      · simp
      · split
        · rename_i h
          have h2 := congrArg (fun q : List OutFrame × State => q.2.still) h
          exact (ih _ _).trans h2.symm
        · rename_i h
          have h2 := congrArg (fun q : List OutFrame × State => q.2.still) h
          exact (State.still_setLane _ _ _).trans h2.symm

@[simp] theorem State.still_proofRun (s : State) (l : Lane) (j : Job) (r : BandRecord) (k : Decoder) :
    (s.proofRun l j r k).still = s.still := by
  unfold State.proofRun
  try dsimp only
  repeat' split
  all_goals simp

@[simp] theorem State.still_proofRecord (s : State) (l : Lane) (j : Job) (e : TableEnd) :
    (s.proofRecord l j e).still = s.still := by
  unfold State.proofRecord
  try dsimp only
  repeat' split
  all_goals simp

@[simp] theorem State.still_proofAbandon (s : State) (l : Lane) (j : Job) :
    (s.proofAbandon l j).still = s.still := by
  unfold State.proofAbandon
  try dsimp only
  repeat' split
  all_goals simp

@[simp] theorem State.still_endReadBack (s : State) (x : Link) (st : Stream) (k : Nat) (r : ReplyResult) :
    (s.endReadBack x st k r).still = s.still := by
  unfold State.endReadBack
  try dsimp only
  repeat' split
  all_goals simp

@[simp] theorem State.still_placeFilled (s : State) (x : Link) (f : OutFrame) :
    (s.placeFilled x f).still = s.still := by rfl

@[simp] theorem State.still_copyMarked (s : State) (x : Link) (st : Stream) (f : OutFrame) :
    (s.copyMarked x st f).still = s.still := by
  unfold State.copyMarked
  try dsimp only
  repeat' split
  all_goals simp

@[simp] theorem State.still_streamFail (s : State) (x : Link) (st : Stream) (c : Detail) (ws : List Word) (w : Nat) :
    (s.streamFail x st c ws w).still = s.still := by
  unfold State.streamFail
  try dsimp only
  repeat' split
  all_goals simp

@[simp] theorem State.still_streamSettle (s : State) (x : Link) (st : Stream) (ws : List Word) :
    (s.streamSettle x st ws).still = s.still := by
  unfold State.streamSettle
  try dsimp only
  repeat' split
  all_goals simp

@[simp] theorem State.still_streamBurst (s : State) (x : Link) (ws : List ReadWord) :
    (s.streamBurst x ws).still = s.still := by
  unfold State.streamBurst
  try dsimp only
  repeat' split
  all_goals simp

@[simp] theorem State.still_streamClaim (s : State) (x : Link) :
    (s.streamClaim x).still = s.still := by
  unfold State.streamClaim
  try dsimp only
  repeat' split
  all_goals simp

@[simp] theorem State.still_streamPlaced (s : State) (x : Link) (st : Stream) (ws : List Word) :
    (s.streamPlaced x st ws).still = s.still := by
  unfold State.streamPlaced
  try dsimp only
  repeat' split
  all_goals simp

@[simp] theorem State.still_copyRecord (s : State) (x : Link) (st : Stream) (e : TableEnd) :
    (s.copyRecord x st e).still = s.still := by
  unfold State.copyRecord
  try dsimp only
  repeat' split
  all_goals simp

@[simp] theorem State.still_readBandRecord (s : State) (x : Link) (q : RecordRead) (e : TableEnd) :
    (s.readBandRecord x q e).still = s.still := by
  unfold State.readBandRecord
  try dsimp only
  repeat' split
  all_goals simp

@[simp] theorem State.still_refusePixels (s : State) (x : Link) (tag : Byte) (c : Refuse) :
    (s.refusePixels x tag c).still = s.still := by rfl

@[simp] theorem State.still_takePixels (s : State) (x : Link) (p : Page) (q : PixelFields) :
    (s.takePixels x p q).still = s.still := by
  unfold State.takePixels
  try dsimp only
  repeat' split
  all_goals simp

@[simp] theorem State.still_checkPixels (s : State) (x : Link) (tag : Byte) (body : List Byte) :
    (s.checkPixels x tag body).still = s.still := by
  unfold State.checkPixels
  try dsimp only
  repeat' split
  all_goals simp

@[simp] theorem State.still_servePixels (s : State) (x : Link) (f : Frame) :
    (s.servePixels x f).still = s.still := by
  unfold State.servePixels
  try dsimp only
  repeat' split
  all_goals simp

@[simp] theorem State.still_checkWaiting (s : State) (x : Link) (n : Nat) :
    (s.checkWaiting x n).still = s.still := by
  induction n generalizing s with
  | zero => rfl
  | succ n ih =>
    unfold State.checkWaiting
    split
    · simp [ih]
    · rfl

@[simp] theorem State.still_bandComplete (s : State) (x : Link) (p : Page) (t : SlotId) (band rows : Nat) (o : Slot) :
    (s.bandComplete x p t band rows o).still = s.still := by
  unfold State.bandComplete
  dsimp only
  split <;> simp [State.still_foldl _ (State.still_dispatchEncode · _ _ _ _ ·)]

@[simp] theorem State.still_slotTakes (s : State) (x : Link) (p : Page) (hb : Nat) (t : SlotId) (band next : Nat) (o : Slot) :
    (s.slotTakes x p hb t band next o).still = s.still := by
  unfold State.slotTakes
  try dsimp only
  repeat' split
  all_goals simp

@[simp] theorem State.still_framesEffects (s : State) (x : Link) (p : Page) (f : FrameWriting) :
    (s.framesEffects x p f).still = s.still := by
  unfold State.framesEffects
  dsimp only
  repeat' split
  all_goals simp

@[simp] theorem State.still_pixelsWritten (s : State) (x : Link) (f : FrameWriting) :
    (s.pixelsWritten x f).still = s.still := by
  unfold State.pixelsWritten
  simp only [State.still_checkWaiting]
  repeat' split
  all_goals simp

@[simp] theorem State.still_startBurst (s : State) (b : Burst) :
    (s.startBurst b).still = s.still := by
  unfold State.startBurst
  split
  · rfl
  · rfl

@[simp] theorem State.still_grantUrgent (s : State) (b : Burst) :
    (s.grantUrgent b).still = s.still := by
  unfold State.grantUrgent
  try dsimp only
  repeat' split
  all_goals simp

@[simp] theorem State.still_grantRun (s : State) (b : Burst) :
    (s.grantRun b).still = s.still := by
  unfold State.grantRun
  try dsimp only
  repeat' split
  all_goals simp

@[simp] theorem State.still_extendRun (s : State) (b : Burst) :
    (s.extendRun b).still = s.still := by
  unfold State.extendRun
  try dsimp only
  repeat' split
  all_goals simp

@[simp] theorem State.still_grantRefresh (s : State)  :
    (s.grantRefresh).still = s.still := by rfl

@[simp] theorem State.still_grantDecision (s : State)  :
    (s.grantDecision).still = s.still := by
  unfold State.grantDecision
  try dsimp only
  repeat' split
  all_goals simp

@[simp] theorem State.still_arbitrate (s : State)  :
    (s.arbitrate).still = s.still := by
  unfold State.arbitrate
  try dsimp only
  repeat' split
  all_goals simp

@[simp] theorem State.still_tableMade (s : State) (op : TableOp) (ws : List ReadWord) :
    (s.tableMade op ws).still = s.still := by
  unfold State.tableMade
  try dsimp only
  repeat' split
  all_goals simp

@[simp] theorem State.still_deliver (s : State) (b : Burst) (ws : List ReadWord) :
    (s.deliver b ws).still = s.still := by
  unfold State.deliver
  try dsimp only
  repeat' split
  all_goals simp

@[simp] theorem State.still_servePrint (s : State) (x : Link) (f : Frame) :
    (s.servePrint x f).still = s.still := by
  unfold State.servePrint
  dsimp only
  repeat' split
  all_goals simp

@[simp] theorem State.still_serveCancelPrint (s : State) (x : Link) (f : Frame) :
    (s.serveCancelPrint x f).still = s.still := by
  unfold State.serveCancelPrint
  try dsimp only
  repeat' split
  all_goals simp

@[simp] theorem State.still_serveSetPress (s : State) (x : Link) (f : Frame) :
    (s.serveSetPress x f).still = s.still := by
  unfold State.serveSetPress
  try dsimp only
  repeat' split
  all_goals simp

@[simp] theorem State.still_answerPress (s : State) (l : List Answer) :
    (s.answerPress l).still = s.still := by rfl

@[simp] theorem State.still_wake (s : State) (w : WakeCause) (h : Bool) :
    (s.wake w h).still = s.still := by rfl

@[simp] theorem State.still_beginSheet (s : State) (e : PrintEntry) (p : Page) :
    (s.beginSheet e p).still = s.still := by
  unfold State.beginSheet
  try dsimp only
  repeat' split
  all_goals simp

@[simp] theorem State.still_takeSheetStart (s : State)  :
    (s.takeSheetStart).still = s.still := by
  unfold State.takeSheetStart
  try dsimp only
  repeat' split
  all_goals simp

@[simp] theorem State.still_sheetDone (s : State) (e : PrintEntry) :
    (s.sheetDone e).still = s.still := by
  unfold State.sheetDone
  dsimp only
  repeat' split
  all_goals simp

@[simp] theorem State.still_sendLine (s : State) (e : PrintEntry) (p : Page) :
    (s.sendLine e p).still = s.still := by
  unfold State.sendLine
  dsimp only
  repeat' split
  all_goals simp

@[simp] theorem State.still_takeLineRequest (s : State)  :
    (s.takeLineRequest).still = s.still := by
  unfold State.takeLineRequest
  try dsimp only
  repeat' split
  all_goals simp

@[simp] theorem State.still_takeSheetAbort (s : State)  :
    (s.takeSheetAbort).still = s.still := by
  unfold State.takeSheetAbort
  try dsimp only
  repeat' split
  all_goals simp

@[simp] theorem State.still_uncountSheet (s : State) :
    (s.uncountSheet).still = s.still := by
  unfold State.uncountSheet
  repeat' split
  all_goals simp

@[simp] theorem State.still_takeSignal (s : State) (g : PressSignal) :
    (s.takeSignal g).still = s.still := by
  unfold State.takeSignal
  try dsimp only
  repeat' split
  all_goals simp

@[simp] theorem State.still_pressSignal (s : State) (g : PressSignal) :
    (s.pressSignal g).still = s.still := by
  unfold State.pressSignal
  try dsimp only
  repeat' split
  all_goals simp

@[simp] theorem State.still_drainSignals (s : State) (n : Nat) :
    (s.drainSignals n).still = s.still := by
  induction n generalizing s with
  | zero => rfl
  | succ n ih =>
    unfold State.drainSignals
    split
    · simp [ih]
    · rfl

@[simp] theorem State.still_takeWaitingSignals (s : State)  :
    (s.takeWaitingSignals).still = s.still := by
  unfold State.takeWaitingSignals
  try dsimp only
  repeat' split
  all_goals simp

@[simp] theorem State.still_pressResetNow (s : State)  :
    (s.pressResetNow).still = s.still := by
  unfold State.pressResetNow
  try dsimp only
  repeat' split
  all_goals simp

@[simp] theorem State.still_takeHold (s : State) (x : Link) (f : Frame) :
    (s.takeHold x f).still = s.still := by rfl

@[simp] theorem State.still_takeResume (s : State) (x : Link) :
    (s.takeResume x).still = s.still := by rfl

@[simp] theorem State.still_frameIn (s : State) (x : Link) (f : Frame) :
    (s.frameIn x f).still = s.still := by
  unfold State.frameIn
  try dsimp only
  repeat' split
  all_goals simp

@[simp] theorem State.still_abortStreams (s : State) (x : Link) :
    (s.abortStreams x).still = s.still := by
  unfold State.abortStreams
  simp [State.still_foldl _ (fun t st => State.still_dropStreamRef t _)]

@[simp] theorem State.still_resetIntake (s : State) (x : Link) :
    (s.resetIntake x).still = s.still := by
  unfold State.resetIntake
  try dsimp only
  repeat' split
  all_goals simp

@[simp] theorem State.still_abandonProof (s : State) (x : Link) (l : Lane) :
    (State.abandonProof x s l).still = s.still := by
  unfold State.abandonProof
  try dsimp only
  repeat' split
  all_goals simp

@[simp] theorem State.still_resetProofs (s : State) (x : Link) :
    (s.resetProofs x).still = s.still := by
  unfold State.resetProofs
  simp [State.still_foldl _ (State.still_abandonProof · _ ·)]

@[simp] theorem State.still_endListing (s : State) (q : Listing) :
    (s.endListing q).still = s.still := by
  unfold State.endListing
  try dsimp only
  repeat' split
  all_goals simp

@[simp] theorem State.still_resetListings (s : State) (x : Link) :
    (s.resetListings x).still = s.still := by
  unfold State.resetListings
  exact State.still_foldl _ State.still_endListing _ _

@[simp] theorem State.still_resetWake (s : State) (x : Link) :
    (s.resetWake x).still = s.still := by
  unfold State.resetWake
  split <;> rfl

@[simp] theorem State.still_resetLink (s : State) (x : Link) :
    (s.resetLink x).still = s.still := by
  unfold State.resetLink
  try dsimp only
  repeat' split
  all_goals simp

@[simp] theorem State.still_serveClearStatus (s : State) (x : Link) (f : Frame) :
    (s.serveClearStatus x f).still = s.still := by
  unfold State.serveClearStatus
  try dsimp only
  repeat' split
  all_goals simp

@[simp] theorem State.still_serveRest (s : State) (x : Link) (f : Frame) (k : Nat) :
    (s.serveRest x f k).still = s.still := by rfl

@[simp] theorem State.still_serveWake (s : State) (w : Option WakeCause) (h : Bool) :
    (s.serveWake w h).still = s.still := by
  unfold State.serveWake
  dsimp only
  repeat' split
  all_goals simp

@[simp] theorem State.still_serveSetStore (s : State) (x : Link) (f : Frame) :
    (s.serveSetStore x f).still = s.still := by
  unfold State.serveSetStore
  try dsimp only
  repeat' split
  all_goals simp

@[simp] theorem State.still_serveSetProfile (s : State) (x : Link) (f : Frame) :
    (s.serveSetProfile x f).still = s.still := by
  unfold State.serveSetProfile
  try dsimp only
  repeat' split
  all_goals simp

@[simp] theorem State.still_enterPage (s : State) (x : Link) (k : Nat) (p : Page) :
    (s.enterPage x k p).still = s.still := by
  unfold State.enterPage
  try dsimp only
  repeat' split
  all_goals simp

@[simp] theorem State.still_admitPage (s : State) (x : Link) (k : Nat) (q : OpenFields) (cls : Nat) (t : Option Link) (m : Bool) :
    (s.admitPage x k q cls t m).still = s.still := by
  have hu : (if m then s else s.useAdmit).still = s.still := by split <;> simp
  unfold State.admitPage
  dsimp only
  split
  · rename_i h
    simp [State.still_takeHeadExtent h, hu]
  · simp [hu]

@[simp] theorem State.still_serveOpenPage (s : State) (x : Link) (m : Bool) (f : Frame) (k : Nat) :
    (s.serveOpenPage x m f k).still = s.still := by
  unfold State.serveOpenPage
  try dsimp only
  repeat' split
  all_goals simp

@[simp] theorem State.still_headerDone (s : State) (h : HeaderInit) :
    (s.headerDone h).still = s.still := by
  unfold State.headerDone
  dsimp only
  repeat' split
  all_goals simp

@[simp] theorem State.still_retire (s : State) (x : Link) (k : Nat) (p : Page) :
    (s.retire x k p).still = s.still := by
  unfold State.retire
  dsimp only
  split <;> simp [State.still_foldl _ (State.still_ceaseIntake · _ ·)]

@[simp] theorem State.still_serveRetirePage (s : State) (x : Link) (f : Frame) (k : Nat) :
    (s.serveRetirePage x f k).still = s.still := by
  unfold State.serveRetirePage
  try dsimp only
  repeat' split
  all_goals simp

@[simp] theorem State.still_releaseStep (s : State) (r : Release) (p : Page) (e : TableEnd) :
    (s.releaseStep r p e).still = s.still := by
  unfold State.releaseStep
  dsimp only
  repeat' split
  all_goals simp

@[simp] theorem State.still_serveListPage (s : State) (x : Link) (f : Frame) (k : Nat) :
    (s.serveListPage x f k).still = s.still := by
  unfold State.serveListPage
  try dsimp only
  repeat' split
  all_goals simp

@[simp] theorem State.still_listStep (s : State) (q : Listing) (e : TableEnd) :
    (s.listStep q e).still = s.still := by
  unfold State.listStep
  dsimp only
  repeat' split
  all_goals simp

@[simp] theorem State.still_bandRecorded (s : State) (l : Lane) (j : Job) :
    (s.bandRecorded l j).still = s.still := by
  unfold State.bandRecorded
  try dsimp only
  repeat' split
  all_goals simp

@[simp] theorem State.still_serveReadBandDecoded (s : State) (x : Link) (f : Frame) (k : Nat) :
    (s.serveReadBandDecoded x f k).still = s.still := by
  unfold State.serveReadBandDecoded
  try dsimp only
  repeat' split
  all_goals simp

@[simp] theorem State.still_proofPlace (s : State) (l : Lane) (j : Job) (r : BandRecord) (k : Decoder) (f : OutFrame) (rest : List OutFrame) :
    (s.proofPlace l j r k f rest).still = s.still := by
  unfold State.proofPlace
  dsimp only
  split
  · rename_i h
    have h2 := congrArg (fun q : List OutFrame × State => q.2.still) h
    exact (State.still_proofRun _ _ _ _ _).trans h2.symm
  · rename_i h
    have h2 := congrArg (fun q : List OutFrame × State => q.2.still) h
    exact (State.still_setLane _ _ _).trans h2.symm

@[simp] theorem State.still_serveSetLaneTable (s : State) (x : Link) (f : Frame) :
    (s.serveSetLaneTable x f).still = s.still := by
  unfold State.serveSetLaneTable
  dsimp only
  repeat' split
  all_goals simp

@[simp] theorem State.still_serveSetRule (s : State) (x : Link) (f : Frame) :
    (s.serveSetRule x f).still = s.still := by
  unfold State.serveSetRule
  try dsimp only
  repeat' split
  all_goals simp

@[simp] theorem State.still_serveSetDefaultClass (s : State) (x : Link) (f : Frame) :
    (s.serveSetDefaultClass x f).still = s.still := by
  unfold State.serveSetDefaultClass
  try dsimp only
  repeat' split
  all_goals simp

@[simp] theorem State.still_serveSetWatermarks (s : State) (x : Link) (f : Frame) :
    (s.serveSetWatermarks x f).still = s.still := by
  unfold State.serveSetWatermarks
  try dsimp only
  repeat' split
  all_goals simp

@[simp] theorem State.still_serveReadBandCompressed (s : State) (x : Link) (f : Frame) (k : Nat) :
    (s.serveReadBandCompressed x f k).still = s.still := by
  unfold State.serveReadBandCompressed
  try dsimp only
  repeat' split
  all_goals simp

@[simp] theorem State.still_readBandEnded (s : State) (x : Link) (q : RecordRead) (e : TableEnd) :
    (s.readBandEnded x q e).still = s.still := by
  unfold State.readBandEnded
  try dsimp only
  repeat' split
  all_goals simp

@[simp] theorem State.still_copyFinish (s : State) (x : Link) (st : Stream) :
    (s.copyFinish x st).still = s.still := by
  unfold State.copyFinish
  try dsimp only
  repeat' split
  all_goals simp

/-! ## Commands -/

theorem State.still_takeHead {x : Link} {m : Frame → Bool} {s t : State} {f : Frame}
    (h : s.takeHead x m = some (f, t)) : t.still = s.still := by
  unfold State.takeHead at h
  split at h
  · simp at h
  · split at h
    · simp only [Option.some.injEq, Prod.mk.injEq] at h
      rw [← h.2]
      rfl
    · simp at h

theorem State.still_serveShort (s : State) (x : Link) (m ok : Frame → Bool) (g : Frame → State → State)
    (hg : ∀ f t, (g f t).still = t.still) : (s.serveShort x m ok g).still = s.still := by
  unfold State.serveShort
  split
  · rfl
  · rename_i h
    repeat' split
    all_goals simp [hg, State.still_takeHead h]

theorem State.still_serveLong (s : State) (x : Link) (m ok : Frame → Bool) (g : Frame → Nat → State → State)
    (hg : ∀ f k t, (g f k t).still = t.still) : (s.serveLong x m ok g).still = s.still := by
  unfold State.serveLong
  split
  · rfl
  · rename_i h
    repeat' split
    all_goals simp [hg, State.still_takeHead h]

@[simp] theorem State.still_takeOpenPage (s : State) (x : Link) (m : Bool) : (s.takeOpenPage x m).still = s.still := by
  unfold State.takeOpenPage
  exact State.still_serveLong s x _ _ _ (fun f k t => by simp)

end Sys2Proof.Machine
end

