-- ==== Sys2Proof/Laws/Step.lean ====
section
/-!
SUPPORT. One step: what a command leaves alone, and the forms of the commands that change the owed refresh count
or the store.
-/

-- One proof after another: the package as one text asks for more threads at once than the check allows.
set_option Elab.async false
set_option linter.unusedTactic false
set_option linter.unusedSimpArgs false
set_option linter.unreachableTactic false
namespace Sys2Proof.Machine

/-- The commands that may change the store, the store size, or the owed refresh count. -/
def changesStill : Instr → Bool
  | .powerOnReset _ _ => true
  | .startSequenceComplete => true
  | .refreshDuePoint _ => true
  | .refreshMade => true
  | .burstEnd _ => true
  | .openPage _ met => met.isSome
  | .restTest _ => true
  | .wakeComplete => true
  | _ => false

/-- Every other command leaves them. -/
theorem exec_still {c : Instr} {s t : State} (hc : changesStill c = false) (h : exec c s = .next t) :
    t.still = s.still := by
  cases c <;> simp only [changesStill, Bool.true_eq_false, reduceCtorEq] at hc <;> simp only [exec] at h
  case settleTimerExpiry =>
    unfold execSettleTimerExpiry at h
    split at h <;> (cases h; rfl)
  case frameArrival x bytes =>
    unfold execFrameArrival at h
    dsimp only at h
    repeat' split at h
    all_goals (cases h; simp)
  case badKindRequest x =>
    cases h
    exact State.still_serveShort _ _ _ _ _ (fun _ _ => rfl)
  case openPage x met =>
    cases met with
    | none =>
      cases h
      exact State.still_takeOpenPage _ _ _
    | some us => simp at hc
  case headerInitComplete page =>
    unfold execHeaderInitComplete at h
    repeat' split at h
    all_goals (cases h; simp)
  case pixels x =>
    cases h
    simp [State.still_serveShort _ _ _ _ _ (fun f t => State.still_servePixels t x f)]
  case pixelsWriteEnd x =>
    unfold execPixelsWriteEnd at h
    repeat' split at h
    all_goals (cases h; simp)
  case encodeEnd l =>
    unfold execEncodeEnd at h
    repeat' split at h
    all_goals (cases h; simp)
  case bandRecordWriteEnd l =>
    unfold execBandRecordWriteEnd at h
    split at h
    · rename_i he
      split at h
      · cases h
        simp [State.still_takeEnd he]
      · cases h
        rfl
    · cases h
      rfl
  case readBandDecoded x =>
    cases h
    exact State.still_serveLong _ _ _ _ _ (fun f k t => by simp)
  case proofRecordReadEnd l =>
    unfold execProofRecordReadEnd at h
    split at h
    · rename_i he
      cases h
      simp [State.still_takeEnd he]
    · cases h
      rfl
  case proofRowPlace l =>
    unfold execProofRowPlace at h
    repeat' split at h
    all_goals (cases h; simp)
  case damagedMarkWriteEnd =>
    unfold execDamagedMarkWriteEnd at h
    split at h
    · rename_i he
      cases h
      exact State.still_takeEnd he
    · cases h
      rfl
  case retirePage x =>
    cases h
    exact State.still_serveLong _ _ _ _ _ (fun f k t => by simp)
  case releaseRecordRead page =>
    unfold execReleaseRecordRead at h
    split at h
    · rename_i he _ _
      cases h
      simp [State.still_takeEnd he]
    · cases h
      rfl
  case listPage x =>
    cases h
    exact State.still_serveLong _ _ _ _ _ (fun f k t => by simp)
  case listPageReadEnd x =>
    unfold execListPageReadEnd at h
    split at h
    · cases h
      rfl
    · rename_i he
      split at h
      · cases h
        simp [State.still_takeEnd he]
      · cases h
        exact State.still_takeEnd he
  case setProfile x =>
    cases h
    exact State.still_serveShort _ _ _ _ _ (fun f t => by simp)
  case setRule x =>
    cases h
    exact State.still_serveShort _ _ _ _ _ (fun f t => by simp)
  case setDefaultClass x =>
    cases h
    exact State.still_serveShort _ _ _ _ _ (fun f t => by simp)
  case setWatermarks x =>
    cases h
    exact State.still_serveShort _ _ _ _ _ (fun f t => by simp)
  case setLaneTable x =>
    cases h
    exact State.still_serveShort _ _ _ _ _ (fun f t => by simp)
  case setPress x =>
    cases h
    exact State.still_serveShort _ _ _ _ _ (fun f t => by simp)
  case setStore x =>
    cases h
    exact State.still_serveShort _ _ _ _ _ (fun f t => by simp)
  case readStatus x =>
    unfold execReadStatus at h
    split at h
    · cases h
      rfl
    · rename_i he
      split at h <;> (cases h; simp [State.still_takeHead he])
  case clearStatus x =>
    cases h
    exact State.still_serveShort _ _ _ _ _ (fun f t => by simp)
  case rest x =>
    cases h
    exact State.still_serveLong _ _ _ _ _ (fun f k t => by simp)
  case hold x =>
    cases h
    exact State.still_serveShort _ _ _ _ _ (fun f t => by simp)
  case resume x =>
    cases h
    exact State.still_serveShort _ _ _ _ _ (fun f t => by simp)
  case holdTimerExpiry x =>
    unfold execHoldTimerExpiry at h
    split at h <;> (cases h; rfl)
  case outboundFrameSent x =>
    unfold execOutboundFrameSent at h
    split at h <;> (cases h; rfl)
  case linkReset x =>
    unfold execLinkReset at h
    split at h <;> (cases h; simp)
  case readBandCompressed x =>
    cases h
    exact State.still_serveLong _ _ _ _ _ (fun f k t => by simp)
  case readBandRecordReadEnd x =>
    unfold execReadBandRecordReadEnd at h
    split at h
    · cases h
      rfl
    · rename_i he
      split at h
      · cases h
        simp [State.still_takeEnd he]
      · cases h
        exact State.still_takeEnd he
  case streamPlaceClaim x =>
    unfold execStreamPlaceClaim at h
    split at h <;> (cases h; simp)
  case copyRecordReadEnd x =>
    unfold execCopyRecordReadEnd at h
    split at h
    · cases h
      rfl
    · rename_i he
      split at h
      · cases h
        simp [State.still_takeEnd he]
      · cases h
        exact State.still_takeEnd he
  case streamFramePlaced x =>
    unfold execStreamFramePlaced at h
    split at h <;> (cases h; simp)
  case copyDone x =>
    unfold execCopyDone at h
    repeat' split at h
    all_goals (cases h; simp)
  case print x =>
    cases h
    exact State.still_serveShort _ _ _ _ _ (fun f t => by simp)
  case cancelPrint x =>
    cases h
    exact State.still_serveShort _ _ _ _ _ (fun f t => by simp)
  case pressRecordReadEnd =>
    unfold execPressRecordReadEnd at h
    split at h
    · rename_i he
      cases h
      simp [State.still_takeEnd he]
    · cases h
      rfl
  case pressLineFinish =>
    unfold execPressLineFinish at h
    repeat' split at h
    all_goals (cases h; simp)
  case sheetStart => cases h; simp
  case lineRequest => cases h; simp
  case pressAnswerEnd =>
    unfold execPressAnswerEnd at h
    split at h <;> (cases h; simp)
  case sheetAbort => cases h; simp
  case pressReset =>
    unfold execPressReset at h
    split at h <;> (cases h; simp)
  case linkResetSequenceEnd x => cases h; rfl

/-! ## The store and its size as the parts of `still` -/

theorem State.still_store {s t : State} (h : t.still = s.still) : t.store = s.store := congrArg Prod.fst h

theorem State.still_powerOns {s t : State} (h : t.still = s.still) : t.powerOns = s.powerOns :=
  congrArg (fun q => q.2.1) h

theorem State.still_size {s t : State} (h : t.still = s.still) : t.size = s.size := congrArg (fun q => q.2.2.1) h

theorem State.still_pending {s t : State} (h : t.still = s.still) : t.pending = s.pending :=
  congrArg (fun q => q.2.2.2.1) h

theorem State.still_owed {s t : State} (h : t.still = s.still) : t.ctl.owed = s.ctl.owed :=
  congrArg (fun q => q.2.2.2.2) h

end Sys2Proof.Machine
end

