-- ==== Sys2Proof/Laws/Store.lean ====
section
/-!
SUPPORT. The store (R113, R116, R119, R120): every operation on it keeps its canonical form, and a byte reads as it
was last written.
-/

-- One proof after another: the package as one text asks for more threads at once than the check allows.
set_option Elab.async false
set_option linter.unusedTactic false
set_option linter.unusedSimpArgs false
set_option linter.unreachableTactic false
namespace Sys2Proof.Machine

/-! ## Lists by rising key -/

theorem risingFrom_of_lt {α : Type} {l : List (Nat × α)} {lo lo2 : Nat} (hlt : lo2 < lo)
    (h : risingFrom (some lo) l = true) : risingFrom (some lo2) l = true := by
  cases l with
  | nil => rfl
  | cons p rest =>
    obtain ⟨b, w⟩ := p
    simp only [risingFrom, Bool.and_eq_true, decide_eq_true_eq] at h ⊢
    exact ⟨by omega, h.2⟩

theorem risingFrom_planePut {α : Type} (l : List (Nat × α)) (lo : Option Nat) (a : Nat) (v : α)
    (hl : ∀ b, lo = some b → b < a) (h : risingFrom lo l = true) : risingFrom lo (planePut l a v) = true := by
  induction l generalizing lo with
  | nil => cases lo <;> simp_all [planePut, risingFrom]
  | cons p rest ih =>
    obtain ⟨b, w⟩ := p
    have hb : risingFrom (some b) rest = true := by
      cases lo <;> simp_all [risingFrom]
    unfold planePut
    split
    · cases lo <;> simp_all [risingFrom]
    · split
      · subst a
        cases lo <;> simp_all [risingFrom]
      · have := ih (some b) (fun c hc => by cases hc; omega) hb
        cases lo <;> simp_all [risingFrom]

/-- Writing an entry keeps the canonical form. -/
theorem planeWf_planePut {α : Type} {l : List (Nat × α)} (a : Nat) (v : α) (h : planeWf l = true) :
    planeWf (planePut l a v) = true :=
  risingFrom_planePut l none a v (fun _ hc => by cases hc) h

theorem planeGet_of_lt {α : Type} {l : List (Nat × α)} {lo a : Nat} (h : risingFrom (some lo) l = true)
    (ha : a ≤ lo) : planeGet l a = none := by
  induction l generalizing lo with
  | nil => rfl
  | cons p rest ih =>
    obtain ⟨b, w⟩ := p
    simp only [risingFrom, Bool.and_eq_true, decide_eq_true_eq] at h
    simp only [planeGet]
    rw [if_neg (by omega)]
    exact ih h.2 (by omega)

/-- An entry written reads as written; every other entry reads as before. -/
theorem planeGet_planePut {α : Type} (l : List (Nat × α)) (a b : Nat) (v : α) (h : planeWf l = true) :
    planeGet (planePut l a v) b = if b = a then some v else planeGet l b := by
  have key : ∀ (l : List (Nat × α)) (lo : Option Nat), risingFrom lo l = true →
      planeGet (planePut l a v) b = if b = a then some v else planeGet l b := by
    intro l
    induction l with
    | nil =>
      intro lo _
      simp [planePut, planeGet]
    | cons p rest ih =>
      intro lo hl
      obtain ⟨c, w⟩ := p
      have hc : risingFrom (some c) rest = true := by
        cases lo <;> simp_all [risingFrom]
      unfold planePut
      split
      · simp [planeGet]
      · split
        · subst a
          simp only [planeGet]
          split <;> rfl
        · rename_i h1 h2
          simp only [planeGet]
          rw [ih _ hc]
          by_cases hbc : b = c
          · simp [hbc]
            intro h3
            omega
          · simp [hbc]
  exact key l none h

/-! ## The two planes -/

theorem Memory.wf_iff (m : Memory) : m.wf = true ↔ planeWf m.data = true ∧ planeWf m.parity = true := by
  simp [Memory.wf]

theorem Memory.putByte_wf {m : Memory} (a : Nat) (b : Byte) (h : m.wf = true) : (m.putByte a b).wf = true := by
  rw [Memory.wf_iff] at h ⊢
  exact ⟨planeWf_planePut a b h.1, planeWf_planePut a _ h.2⟩

theorem Memory.writeBurst_wf {m : Memory} (addr : Nat) (data : List Word) (mask : BitVec 32) (h : m.wf = true) :
    (m.writeBurst addr data mask).wf = true := by
  unfold Memory.writeBurst
  generalize List.range 32 = l
  induction l generalizing m with
  | nil => exact h
  | cons i l ih =>
    simp only [List.foldl_cons]
    apply ih
    split
    · exact Memory.putByte_wf _ _ h
    · exact h

theorem Memory.upset_wf {m : Memory} (powerOns addr : Nat) (us : List Upset) (h : m.wf = true) :
    (m.upset powerOns addr us).wf = true := by
  unfold Memory.upset
  generalize us.filter _ = us
  induction us generalizing m with
  | nil => exact h
  | cons u us ih =>
    simp only [List.foldl_cons]
    apply ih
    rw [Memory.wf_iff] at h ⊢
    exact ⟨planeWf_planePut _ _ h.1, planeWf_planePut _ _ h.2⟩

/-- A transfer keeps the canonical form of the store. -/
theorem State.transfer_wf (s : State) (b : Burst) (us : List Upset) (h : s.store.wf = true) :
    (s.transfer b us).1.wf = true := by
  unfold State.transfer
  cases b.access with
  | write data mask => exact Memory.writeBurst_wf _ _ _ (Memory.upset_wf _ _ _ h)
  | read taken checked => exact Memory.upset_wf _ _ _ h

/-- The store right after power-on is in its canonical form. -/
theorem State.powerOn_store_wf (n : Nat) (z : StoreSize) : (State.powerOn n z).store.wf = true := rfl

/-! ## Bytes after a write -/

theorem Memory.byte_putByte {m : Memory} (h : m.wf = true) (p a c : Nat) (b : Byte) :
    (m.putByte a b).byte p c = if c = a then b else m.byte p c := by
  rw [Memory.wf_iff] at h
  simp only [Memory.byte, Memory.putByte, planeGet_planePut _ _ _ _ h.1]
  split <;> simp

theorem Memory.parityBit_putByte {m : Memory} (h : m.wf = true) (p a c : Nat) (b : Byte) :
    (m.putByte a b).parityBit p c = if c = a then parityOf b else m.parityBit p c := by
  rw [Memory.wf_iff] at h
  simp only [Memory.parityBit, Memory.putByte, planeGet_planePut _ _ _ _ h.2]
  split <;> simp

/-- The steps of a masked write, one byte of the burst after the other. -/
theorem Memory.byte_writeList {m : Memory} (h : m.wf = true) (p base c : Nat) (mask : BitVec 32)
    (f : Nat → Byte) (l : List Nat) (hl : l.Nodup) :
    (l.foldl (fun m i => if mask.getLsbD i then m.putByte (base + i) (f i) else m) m).wf = true ∧
    (l.foldl (fun m i => if mask.getLsbD i then m.putByte (base + i) (f i) else m) m).byte p c =
      (if base ≤ c ∧ c - base ∈ l ∧ mask.getLsbD (c - base) = true then f (c - base) else m.byte p c) ∧
    (l.foldl (fun m i => if mask.getLsbD i then m.putByte (base + i) (f i) else m) m).parityBit p c =
      (if base ≤ c ∧ c - base ∈ l ∧ mask.getLsbD (c - base) = true then parityOf (f (c - base))
       else m.parityBit p c) := by
  induction l generalizing m with
  | nil => simp [h]
  | cons i l ih =>
    simp only [List.nodup_cons] at hl
    simp only [List.foldl_cons]
    by_cases hm : mask.getLsbD i = true
    · simp only [hm, if_true]
      obtain ⟨h1, h2, h3⟩ := ih (m := m.putByte (base + i) (f i)) (Memory.putByte_wf _ _ h) hl.2
      refine ⟨h1, ?_, ?_⟩
      · rw [h2, Memory.byte_putByte h]
        by_cases hc : c = base + i
        · subst hc
          simp [hl.1, hm]
        · have : ∀ (hb : base ≤ c), ¬ c - base = i := fun hb => by omega
          by_cases hb : base ≤ c <;> simp [hb, hc, this]
      · rw [h3, Memory.parityBit_putByte h]
        by_cases hc : c = base + i
        · subst hc
          simp [hl.1, hm]
        · have : ∀ (hb : base ≤ c), ¬ c - base = i := fun hb => by omega
          by_cases hb : base ≤ c <;> simp [hb, hc, this]
    · simp only [hm, if_false, Bool.false_eq_true]
      obtain ⟨h1, h2, h3⟩ := ih h hl.2
      refine ⟨h1, ?_, ?_⟩
      · rw [h2]
        by_cases hc : c - base = i
        · simp [hc, hm]
        · simp [hc]
      · rw [h3]
        by_cases hc : c - base = i
        · simp [hc, hm]
        · simp [hc]

/-- A byte after a burst's write: the burst's own byte where its mask bit is set, every other byte as before, each
with its generated parity (R116, R119). -/
theorem Memory.byte_writeBurst {m : Memory} (h : m.wf = true) (p addr c : Nat) (data : List Word) (mask : BitVec 32) :
    (m.writeBurst addr data mask).byte p c =
      if 4 * addr ≤ c ∧ c - 4 * addr < 32 ∧ mask.getLsbD (c - 4 * addr) = true then
        wordByte (data.getD ((c - 4 * addr) / 4) 0) ((c - 4 * addr) % 4)
      else m.byte p c := by
  have := (Memory.byte_writeList h p (4 * addr) c mask
    (fun i => wordByte (data.getD (i / 4) 0) (i % 4)) (List.range 32) List.nodup_range).2.1
  simpa [Memory.writeBurst] using this

theorem Memory.parityBit_writeBurst {m : Memory} (h : m.wf = true) (p addr c : Nat) (data : List Word)
    (mask : BitVec 32) :
    (m.writeBurst addr data mask).parityBit p c =
      if 4 * addr ≤ c ∧ c - 4 * addr < 32 ∧ mask.getLsbD (c - 4 * addr) = true then
        parityOf (wordByte (data.getD ((c - 4 * addr) / 4) 0) ((c - 4 * addr) % 4))
      else m.parityBit p c := by
  have := (Memory.byte_writeList h p (4 * addr) c mask
    (fun i => wordByte (data.getD (i / 4) 0) (i % 4)) (List.range 32) List.nodup_range).2.2
  simpa [Memory.writeBurst] using this

end Sys2Proof.Machine
end

