-- ==== Sys2Proof/Laws/Tuned.lean ====
section
/-!
SUPPORT. What each shared operation leaves alone: the settings that only the SET requests write, and the receive
buffers (State.tuned).
-/

-- One proof after another: the package as one text asks for more threads at once than the check allows.
set_option Elab.async false
set_option linter.unusedTactic false
set_option linter.unusedSimpArgs false
set_option linter.unreachableTactic false
namespace Sys2Proof.Machine

theorem State.tuned_foldl {α : Type} (g : State → α → State) (hg : ∀ s a, (g s a).tuned = s.tuned) (l : List α)
    (s : State) : (l.foldl g s).tuned = s.tuned := by
  induction l generalizing s with
  | nil => rfl
  | cons a l ih => simp [List.foldl_cons, ih, hg]

@[simp] theorem State.tuned_modLink (s : State) (x : Link) (f : LinkCtl → LinkCtl) (h : ∀ c, (f c).rx = c.rx) :
    (s.modLink x f).tuned = s.tuned := by
  cases x <;> simp [State.tuned, State.modLink, State.link, Pair.get, Pair.set, h]
@[simp] theorem State.tuned_modIntake (s : State) (x : Link) (f : Intake → Intake) :
    (s.modIntake x f).tuned = s.tuned := rfl
@[simp] theorem State.tuned_modPress (s : State) (f : PressFeed → PressFeed) (h : ∀ c, (f c).settings = c.settings) :
    (s.modPress f).tuned = s.tuned := by
  simp [State.tuned, State.modPress, h, State.link]
@[simp] theorem State.tuned_modCtl (s : State) (f : StoreCtl → StoreCtl) : (s.modCtl f).tuned = s.tuned := rfl
@[simp] theorem State.tuned_modArb (s : State) (f : Arbiter → Arbiter) (h : ∀ c, (f c).runLimit = c.runLimit) :
    (s.modArb f).tuned = s.tuned := by
  simp [State.tuned, State.modArb, h, State.link]
@[simp] theorem State.tuned_modDir (s : State) (f : Directory → Directory) : (s.modDir f).tuned = s.tuned := rfl
@[simp] theorem State.tuned_modDisp (s : State) (f : Dispatcher → Dispatcher)
    (h : ∀ d, (f d).tableBits = d.tableBits ∧ (f d).table = d.table) : (s.modDisp f).tuned = s.tuned := by
  simp [State.tuned, State.modDisp, h, State.link]
@[simp] theorem State.tuned_modAdm (s : State) (f : Admission → Admission)
    (h : ∀ a, (f a).rules = a.rules ∧ (f a).defaultClass = a.defaultClass ∧ (f a).lw = a.lw ∧ (f a).hw = a.hw ∧
      (f a).k = a.k) : (s.modAdm f).tuned = s.tuned := by
  simp [State.tuned, State.modAdm, h, State.link]
@[simp] theorem State.tuned_modMap (s : State) (f : ExtentMap → ExtentMap) : (s.modMap f).tuned = s.tuned := rfl
@[simp] theorem State.tuned_modPage (s : State) (id : Nat) (f : Page → Page) : (s.modPage id f).tuned = s.tuned := rfl
@[simp] theorem State.tuned_setLane (s : State) (l : Lane) (v : LaneState) : (s.setLane l v).tuned = s.tuned := by
  simp [State.setLane]

@[simp] theorem LinkCtl.placeRows_rx (l : Lane) (fs : List OutFrame) (c : LinkCtl) :
    (LinkCtl.placeRows l fs c).2.rx = c.rx := by
  induction fs generalizing c with
  | nil => rfl
  | cons f fs ih =>
    unfold LinkCtl.placeRows
    split <;> simp [ih]

@[simp] theorem PressFeed.latch_settings (f : PressFeed) (sh : SheetId) : (f.latch sh).settings = f.settings := rfl
@[simp] theorem PressFeed.cutFrom_settings (f : PressFeed) (k : Nat) : (f.cutFrom k).settings = f.settings := rfl
@[simp] theorem State.tuned_modLink_setStream (s : State) (x : Link) (st : Stream) :
    (s.modLink x (LinkCtl.setStream st)).tuned = s.tuned := State.tuned_modLink _ _ _ (fun _ => rfl)
@[simp] theorem State.tuned_modPress_latch (s : State) (sh : SheetId) :
    (s.modPress fun f => f.latch sh).tuned = s.tuned := State.tuned_modPress _ _ (fun _ => rfl)
@[simp] theorem State.tuned_modPress_cutFrom (s : State) (k : Nat) :
    (s.modPress fun f => f.cutFrom k).tuned = s.tuned := State.tuned_modPress _ _ (fun _ => rfl)
@[simp] theorem State.tuned_modLink_clearStatus (s : State) (x : Link) :
    (s.modLink x LinkCtl.clearStatus).tuned = s.tuned := State.tuned_modLink _ _ _ (fun _ => rfl)

@[simp] theorem PressFeed.cutAnswers_settings (f : PressFeed) : f.cutAnswers.settings = f.settings := by
  unfold PressFeed.cutAnswers
  split <;> rfl

theorem State.tuned_placeRows (s : State) (l : Lane) (x : Link) (fs : List OutFrame) :
    (s.placeRows l x fs).2.tuned = s.tuned := by
  simp [State.placeRows]

@[simp] theorem State.tuned_dropPrintRef (s : State) (id : Nat) :
    (s.dropPrintRef id).tuned = s.tuned := by
  unfold State.dropPrintRef
  simp

@[simp] theorem State.tuned_dropStreamRef (s : State) (id : Nat) :
    (s.dropStreamRef id).tuned = s.tuned := by
  unfold State.dropStreamRef
  simp

@[simp] theorem State.tuned_damageEvent (s : State) (id : Nat) :
    (s.damageEvent id).tuned = s.tuned := by
  unfold State.damageEvent
  simp

@[simp] theorem State.tuned_notify (s : State) (x : Link) (n : Notice) :
    (s.notify x n).tuned = s.tuned := by
  unfold State.notify
  simp

@[simp] theorem State.tuned_notifyBoth (s : State) (n : Notice) :
    (s.notifyBoth n).tuned = s.tuned := by
  unfold State.notifyBoth
  simp

@[simp] theorem State.tuned_reply (s : State) (x : Link) (f : Frame) (r : ReplyResult) :
    (s.reply x f r).tuned = s.tuned := by
  unfold State.reply
  simp

@[simp] theorem State.tuned_answer (s : State) (x : Link) (k : Nat) (r : ReplyResult) :
    (s.answer x k r).tuned = s.tuned := by
  unfold State.answer
  try dsimp only
  repeat' split
  all_goals simp

@[simp] theorem State.tuned_freeReplyPlace (s : State) (x : Link) :
    (s.freeReplyPlace x).tuned = s.tuned := by
  unfold State.freeReplyPlace
  simp

@[simp] theorem State.tuned_flagClamped (s : State) (x : Link) :
    (s.flagClamped x).tuned = s.tuned := by
  unfold State.flagClamped
  simp

@[simp] theorem State.tuned_flagStoreParity (s : State)  :
    (s.flagStoreParity).tuned = s.tuned := by
  unfold State.flagStoreParity
  simp

@[simp] theorem State.tuned_flagUnderrun (s : State)  :
    (s.flagUnderrun).tuned = s.tuned := by
  unfold State.flagUnderrun
  simp

@[simp] theorem State.tuned_addLong (s : State) (x : Link) (f : Frame) :
    (s.addLong x f).tuned = s.tuned := by
  unfold State.addLong
  exact State.tuned_modLink s x (fun c => { c with long := c.long ++ [⟨s.nextTicket, f.k, f.tag⟩] }) (fun _ => rfl)

@[simp] theorem State.tuned_closeAdmission (s : State)  :
    (s.closeAdmission).tuned = s.tuned := by
  unfold State.closeAdmission
  simp

@[simp] theorem State.tuned_leaveNormal (s : State)  :
    (s.leaveNormal).tuned = s.tuned := by
  unfold State.leaveNormal
  try dsimp only
  repeat' split
  all_goals simp

@[simp] theorem State.tuned_openAdmission (s : State)  :
    (s.openAdmission).tuned = s.tuned := by
  unfold State.openAdmission
  try dsimp only
  repeat' split
  all_goals simp

@[simp] theorem State.tuned_reportFall (s : State) (n : Nat) :
    (s.reportFall n).tuned = s.tuned := by
  unfold State.reportFall
  try dsimp only
  repeat' split
  all_goals simp

@[simp] theorem State.tuned_reportRise (s : State) (n : Nat) :
    (s.reportRise n).tuned = s.tuned := by
  unfold State.reportRise
  try dsimp only
  repeat' split
  all_goals simp

@[simp] theorem State.tuned_useAdmit (s : State)  :
    (s.useAdmit).tuned = s.tuned := by
  unfold State.useAdmit
  try dsimp only
  repeat' split
  all_goals simp

@[simp] theorem State.tuned_reevaluate (s : State)  :
    (s.reevaluate).tuned = s.tuned := by
  unfold State.reevaluate
  try dsimp only
  repeat' split
  all_goals simp

@[simp] theorem State.tuned_returnExtent (s : State) (e : Nat) :
    (s.returnExtent e).tuned = s.tuned := by
  unfold State.returnExtent
  try dsimp only
  repeat' split
  all_goals simp

@[simp] theorem State.tuned_returnChain (s : State) (e : Option Nat) :
    (s.returnChain e).tuned = s.tuned := by
  unfold State.returnChain
  split
  · rfl
  · exact State.tuned_foldl _ (fun s e => State.tuned_returnExtent s e) _ _

@[simp] theorem State.tuned_returnHeader (s : State) (owner header : Nat) :
    (s.returnHeader owner header).tuned = s.tuned := by
  unfold State.returnHeader
  rw [State.tuned_returnExtent]
  exact State.tuned_foldl _ (fun s (p : Nat × Nat) => State.tuned_returnChain s (some p.2)) _ _

@[simp] theorem State.tuned_placeOp (s : State) (op : TableOp) :
    (s.placeOp op).tuned = s.tuned := by
  unfold State.placeOp
  simp

@[simp] theorem State.tuned_placeDeferred (s : State) : s.placeDeferred.tuned = s.tuned := rfl

@[simp] theorem State.tuned_placeRead (s : State) (c : Client) (h i n : Nat) (ck : Bool) :
    (s.placeRead c h i n ck).tuned = s.tuned := by
  unfold State.placeRead
  simp

@[simp] theorem State.tuned_placeRecord (s : State) (c : Client) (h i : Nat) (r : BandRecord) :
    (s.placeRecord c h i r).tuned = s.tuned := by
  unfold State.placeRecord
  simp

@[simp] theorem State.tuned_disown (s : State) (m : Burst → Bool) :
    (s.disown m).tuned = s.tuned := by
  unfold State.disown
  simp

@[simp] theorem State.tuned_flagIf (s : State) (b : Bool) :
    (s.flagIf b).tuned = s.tuned := by
  unfold State.flagIf
  try dsimp only
  repeat' split
  all_goals simp

@[simp] theorem State.tuned_withdraw (s : State) (c : Client) :
    (s.withdraw c).tuned = s.tuned := by
  unfold State.withdraw
  simp

@[simp] theorem State.tuned_payloadDamage (s : State) (page index : Nat) (r : BandRecord) (b : Bool) :
    (s.payloadDamage page index r b).tuned = s.tuned := by
  unfold State.payloadDamage
  try dsimp only
  repeat' split
  all_goals simp

@[simp] theorem State.tuned_testPress (s : State)  :
    (s.testPress).tuned = s.tuned := by
  unfold State.testPress
  simp only [State.tuned_modArb]
  split <;> simp

@[simp] theorem State.tuned_pressBand (s : State)  :
    (s.pressBand).tuned = s.tuned := by
  unfold State.pressBand
  try dsimp only
  repeat' split
  all_goals simp

@[simp] theorem State.tuned_pressStop (s : State)  :
    (s.pressStop).tuned = s.tuned := by
  unfold State.pressStop
  simp

@[simp] theorem State.tuned_pressEnter (s : State) (e : Option PrintEntry) :
    (s.pressEnter e).tuned = s.tuned := by
  unfold State.pressEnter
  try dsimp only
  repeat' split
  all_goals simp

@[simp] theorem State.tuned_pressDamage (s : State) (d : DecPos) (comp : Nat) (cause : Detail) (row : Nat) (r : Option BandRecord) (c : Nat) :
    (s.pressDamage d comp cause row r c).tuned = s.tuned := by
  unfold State.pressDamage
  try dsimp only
  repeat' split
  all_goals simp

@[simp] theorem State.tuned_pressRowBegin (s : State) :
    (s.pressRowBegin).tuned = s.tuned := by
  unfold State.pressRowBegin
  try dsimp only
  repeat' split
  all_goals simp

@[simp] theorem State.tuned_pressAdvance (s : State) (n : Nat) :
    (s.pressAdvance n).tuned = s.tuned := by
  induction n generalizing s with
  | zero => rfl
  | succ n ih =>
    unfold State.pressAdvance
    repeat' split
    all_goals simp [ih]

@[simp] theorem State.tuned_pressRun (s : State) :
    (s.pressRun).tuned = s.tuned := by
  unfold State.pressRun
  try dsimp only
  repeat' split
  all_goals simp

@[simp] theorem State.tuned_pressRow (s : State) :
    (s.pressRow).tuned = s.tuned := by
  unfold State.pressRow
  simp

@[simp] theorem State.tuned_pressRoomFreed (s : State)  :
    (s.pressRoomFreed).tuned = s.tuned := by
  unfold State.pressRoomFreed
  try dsimp only
  repeat' split
  all_goals simp

@[simp] theorem State.tuned_pressTakeRecord (s : State) (d : DecPos) (p : Page) (ws : List ReadWord) (comp : Nat) :
    (State.pressTakeRecord d p ws s comp).tuned = s.tuned := by
  unfold State.pressTakeRecord
  try dsimp only
  repeat' split
  all_goals simp

@[simp] theorem State.tuned_pressRecords (s : State) (e : TableEnd) :
    (s.pressRecords e).tuned = s.tuned := by
  unfold State.pressRecords
  dsimp only
  repeat' split
  · rfl
  · simp [State.tuned_foldl _ (State.tuned_pressTakeRecord · _ _ _ ·)]
  · simp [State.tuned_foldl _ (State.tuned_pressTakeRecord · _ _ _ ·)]

@[simp] theorem State.tuned_pressFeed (s : State) (ws : List ReadWord) :
    (s.pressFeed ws).tuned = s.tuned := by
  unfold State.pressFeed
  try dsimp only
  repeat' split
  all_goals simp

@[simp] theorem State.tuned_dropOwed (s : State) :
    (s.dropOwed).tuned = s.tuned := by
  unfold State.dropOwed
  try dsimp only
  repeat' split
  all_goals simp

@[simp] theorem State.tuned_pressMoveOn (s : State) (d : DecPos) :
    (s.pressMoveOn d).tuned = s.tuned := by
  unfold State.pressMoveOn
  try dsimp only
  repeat' split
  all_goals simp

@[simp] theorem State.tuned_pressFinish (s : State) (d : DecPos) (p : Page) (rows : List (List Nat)) :
    (s.pressFinish d p rows).tuned = s.tuned := by
  unfold State.pressFinish
  simp only [State.tuned_testPress]
  repeat' split
  all_goals simp
  all_goals exact State.tuned_modPress _ _ (fun c => by split <;> rfl)

theorem State.tuned_takeEnd {m : Client → Bool} {s t : State} {e : TableEnd}
    (h : s.takeEnd m = some (e, t)) : t.tuned = s.tuned := by
  unfold State.takeEnd at h
  split at h
  · simp only [Option.some.injEq, Prod.mk.injEq] at h
    rw [← h.2]
    rfl
  · simp at h

@[simp] theorem State.tuned_pressTakeEnd (s : State) :
    (s.pressTakeEnd).tuned = s.tuned := by
  unfold State.pressTakeEnd
  split
  · rename_i e t he
    simp [State.tuned_takeEnd he]
  · rfl

@[simp] theorem State.tuned_finishDue (s : State) (n : Nat) :
    (s.finishDue n).tuned = s.tuned := by
  induction n generalizing s with
  | zero => rfl
  | succ n ih =>
    unfold State.finishDue
    repeat' split
    · exact (ih _).trans (State.tuned_pressFinish _ _ _ _)
    all_goals rfl

@[simp] theorem State.tuned_pressDue (s : State) :
    (s.pressDue).tuned = s.tuned := by
  unfold State.pressDue
  dsimp only
  repeat' split
  all_goals simp

@[simp] theorem State.tuned_pressHalt (s : State)  :
    (s.pressHalt).tuned = s.tuned := by
  unfold State.pressHalt
  try dsimp only
  repeat' split
  all_goals simp

@[simp] theorem State.tuned_pressRestart (s : State)  :
    (s.pressRestart).tuned = s.tuned := by
  unfold State.pressRestart
  simp only [State.tuned_testPress, State.tuned_pressEnter]
  exact (State.tuned_modPress _ _ (fun _ => rfl)).trans (State.tuned_pressHalt s)

@[simp] theorem State.tuned_pressPassRemoved (s : State)  :
    (s.pressPassRemoved).tuned = s.tuned := by
  unfold State.pressPassRemoved
  try dsimp only
  repeat' split
  all_goals simp

@[simp] theorem State.tuned_cancelEntry (s : State) (e : PrintEntry) :
    (s.cancelEntry e).tuned = s.tuned := by
  unfold State.cancelEntry
  simp only [State.tuned_testPress]
  repeat' split
  all_goals simp

@[simp] theorem State.tuned_dropEntries (s : State) (page : Nat) :
    (s.dropEntries page).tuned = s.tuned := by
  unfold State.dropEntries
  simp only [State.tuned_testPress, State.tuned_pressPassRemoved]
  rw [State.tuned_foldl _ (fun s e => State.tuned_notify s _ _)]
  simp

@[simp] theorem State.tuned_pressSealed (s : State) (page : Nat) :
    (s.pressSealed page).tuned = s.tuned := by
  unfold State.pressSealed
  simp only [State.tuned_testPress]
  repeat' split
  all_goals simp

@[simp] theorem State.tuned_emptySlot (s : State) (x : Link) (t : SlotId) :
    (s.emptySlot x t).tuned = s.tuned := by
  unfold State.emptySlot
  try dsimp only
  repeat' split
  all_goals simp

@[simp] theorem State.tuned_slotJobEnd (s : State) (x : Link) (t : SlotId) :
    (s.slotJobEnd x t).tuned = s.tuned := by
  unfold State.slotJobEnd
  try dsimp only
  repeat' split
  all_goals simp

@[simp] theorem State.tuned_emptyFilling (s : State) (x : Link) (page : Nat) (t : SlotId) :
    (State.emptyFilling x page s t).tuned = s.tuned := by
  unfold State.emptyFilling
  try dsimp only
  repeat' split
  all_goals simp

@[simp] theorem State.tuned_ceaseIntake (s : State) (page : Nat) (x : Link) :
    (State.ceaseIntake page s x).tuned = s.tuned := by
  unfold State.ceaseIntake
  split
  · rw [State.tuned_foldl _ (State.tuned_emptyFilling · _ _ ·)]
    rfl
  · rfl

@[simp] theorem State.tuned_movePending (s : State) (l : Lane) :
    (s.movePending l).tuned = s.tuned := by
  unfold State.movePending
  try dsimp only
  repeat' split
  all_goals first | rfl | exact State.tuned_modDisp _ _ (fun _ => ⟨rfl, rfl⟩)

@[simp] theorem State.tuned_startJob (s : State) (l : Lane) (j : Job) :
    (s.startJob l j).tuned = s.tuned := by
  unfold State.startJob
  try dsimp only
  repeat' split
  all_goals simp

@[simp] theorem State.tuned_laneTake (s : State) (l : Lane) :
    (s.laneTake l).tuned = s.tuned := by
  unfold State.laneTake
  try dsimp only
  repeat' split
  all_goals simp

@[simp] theorem State.tuned_laneFree (s : State) (l : Lane) :
    (s.laneFree l).tuned = s.tuned := by
  unfold State.laneFree
  try dsimp only
  repeat' split
  all_goals simp

@[simp] theorem State.tuned_dispatchEncode (s : State) (p : Page) (band : Nat) (x : Link) (t : SlotId) (comp : Nat) :
    (State.dispatchEncode p band x t s comp).tuned = s.tuned := by
  unfold State.dispatchEncode
  dsimp only
  split
  · simp
  · exact (State.tuned_modDisp _ _ (fun _ => ⟨rfl, rfl⟩)).trans (State.tuned_modDisp _ _ (fun _ => ⟨rfl, rfl⟩))

@[simp] theorem State.tuned_removedJob (s : State) (c : Refuse) (j : Job) :
    (State.removedJob c s j).tuned = s.tuned := by
  unfold State.removedJob
  try dsimp only
  repeat' split
  all_goals simp

@[simp] theorem State.tuned_movePendings (s : State) (l : Lane) (n : Nat) :
    (s.movePendings l n).tuned = s.tuned := by
  induction n generalizing s with
  | zero => rfl
  | succ n ih => simp [State.movePendings, ih]

@[simp] theorem State.tuned_takeOutJobs (s : State) (g : Job → Bool) :
    (s.takeOutJobs g).tuned = s.tuned := by
  unfold State.takeOutJobs
  rw [State.tuned_foldl _ (fun t l => State.tuned_movePendings t l _)]
  rfl

@[simp] theorem State.tuned_removeJobs (s : State) (page : Nat) (c : Refuse) :
    (s.removeJobs page c).tuned = s.tuned := by
  unfold State.removeJobs
  rw [State.tuned_foldl _ (State.tuned_removedJob · _ ·), State.tuned_takeOutJobs]

@[simp] theorem State.tuned_beginRelease (s : State) (page : Nat) :
    (s.beginRelease page).tuned = s.tuned := by
  unfold State.beginRelease
  try dsimp only
  repeat' split
  all_goals simp

@[simp] theorem State.tuned_endWork (s : State) (page : Nat) :
    (s.endWork page).tuned = s.tuned := by
  unfold State.endWork
  try dsimp only
  repeat' split
  all_goals simp

@[simp] theorem State.tuned_failPage (s : State) (page : Nat) (c : FailCause) :
    (s.failPage page c).tuned = s.tuned := by
  unfold State.failPage
  dsimp only
  repeat' split
  all_goals simp [State.tuned_foldl _ (State.tuned_ceaseIntake · _ ·)]

@[simp] theorem State.tuned_addStream (s : State) (x : Link) (page : Nat) (mk : Nat → Stream) :
    (s.addStream x page mk).tuned = s.tuned := by
  unfold State.addStream
  exact (State.tuned_modLink _ x
    (fun c => ({ c with streams := c.streams ++ [mk s.nextTicket] } : LinkCtl).noteWait) (fun c => by simp)).trans
    (State.tuned_modPage s page (fun p => { p with streamRefs := p.streamRefs + 1 }))

@[simp] theorem State.tuned_sealPage (s : State) (p : Page) :
    (s.sealPage p).tuned = s.tuned := by
  unfold State.sealPage
  try dsimp only
  repeat' split
  all_goals simp

@[simp] theorem State.tuned_recordStored (s : State) (page : Nat) :
    (s.recordStored page).tuned = s.tuned := by
  unfold State.recordStored
  try dsimp only
  repeat' split
  all_goals simp

@[simp] theorem State.tuned_pageGone (s : State) (x : Link) (page : Nat) :
    (s.modLink x (LinkCtl.pageGone page)).tuned = s.tuned := by
  first | rfl | exact State.tuned_modLink _ _ _ (fun _ => rfl)

@[simp] theorem State.tuned_endRelease (s : State) (r : Release) (p : Page) :
    (s.endRelease r p).tuned = s.tuned := by
  unfold State.endRelease
  try dsimp only
  repeat' split
  all_goals simp

@[simp] theorem State.tuned_encodeOver (s : State) (l : Lane) (j : Job) :
    (s.encodeOver l j).tuned = s.tuned := by
  unfold State.encodeOver
  try dsimp only
  repeat' split
  all_goals simp

@[simp] theorem State.tuned_encodeFail (s : State) (l : Lane) (j : Job) (r : EncodeRun) (c : FailCause) :
    (s.encodeFail l j r c).tuned = s.tuned := by
  unfold State.encodeFail
  try dsimp only
  repeat' split
  all_goals simp

theorem State.tuned_takeHeadExtent {owner : Nat} {use : ExtentUse} {s t : State} {e : Nat}
    (h : s.takeHeadExtent owner use = some (e, t)) : t.tuned = s.tuned := by
  unfold State.takeHeadExtent at h
  split at h
  · simp at h
  · simp only [Option.some.injEq, Prod.mk.injEq] at h
    rw [← h.2]
    simp

theorem State.tuned_takePayload {owner index : Nat} {last : Option Nat} {s t : State} {e : Nat}
    (h : s.takePayload owner index last = some (e, t)) : t.tuned = s.tuned := by
  unfold State.takePayload at h
  split at h
  · exact State.tuned_takeHeadExtent h
  · split at h
    · split at h
      · simp at h
      · simp only [Option.some.injEq, Prod.mk.injEq] at h
        rw [← h.2]
        simp
    · simp at h

@[simp] theorem State.tuned_encodeSettle (s : State) (l : Lane) (j : Job) (r : EncodeRun) :
    (s.encodeSettle l j r).tuned = s.tuned := by
  unfold State.encodeSettle
  repeat' split
  · rename_i h
    simp [State.tuned_takePayload h]
  all_goals simp

@[simp] theorem State.tuned_encodeBurst (s : State) (l : Lane) (j : Job) (r : EncodeRun) (b : Burst) (ws : List ReadWord) :
    (s.encodeBurst l j r b ws).tuned = s.tuned := by
  unfold State.encodeBurst
  try dsimp only
  repeat' split
  all_goals simp

@[simp] theorem State.tuned_encodeEnded (s : State) (l : Lane) (j : Job) (r : EncodeRun) :
    (s.encodeEnded l j r).tuned = s.tuned := by
  unfold State.encodeEnded
  try dsimp only
  repeat' split
  all_goals simp

@[simp] theorem State.tuned_proofOver (s : State) (l : Lane) (j : Job) :
    (s.proofOver l j).tuned = s.tuned := by
  unfold State.proofOver
  try dsimp only
  repeat' split
  all_goals simp

@[simp] theorem State.tuned_proofReply (s : State) (j : Job) (r : ReplyResult) :
    (s.proofReply j r).tuned = s.tuned := by
  unfold State.proofReply
  try dsimp only
  repeat' split
  all_goals simp

@[simp] theorem State.tuned_proofFail (s : State) (l : Lane) (j : Job) (r : BandRecord) (c : Detail) (row : Nat) :
    (s.proofFail l j r c row).tuned = s.tuned := by
  unfold State.proofFail
  try dsimp only
  repeat' split
  all_goals simp

@[simp] theorem State.tuned_proofDone (s : State) (l : Lane) (j : Job) (r : BandRecord) (hr : Nat) :
    (s.proofDone l j r hr).tuned = s.tuned := by
  unfold State.proofDone
  try dsimp only
  repeat' split
  all_goals simp

@[simp] theorem State.tuned_proofAdvance (s : State) (l : Lane) (j : Job) (r : BandRecord) (n : Nat) (k : Decoder) :
    (s.proofAdvance l j r n k).tuned = s.tuned := by
  induction n generalizing s k with
  | zero => rfl
  | succ n ih =>
    unfold State.proofAdvance
    split
    · simp
    · split
      · simp
      · simp
      · split
        · rename_i h
          have h2 := congrArg (fun q : List OutFrame × State => q.2.tuned) h
          exact (ih _ _).trans (h2.symm.trans (State.tuned_placeRows _ _ _ _))
        · rename_i h
          have h2 := congrArg (fun q : List OutFrame × State => q.2.tuned) h
          exact (State.tuned_setLane _ _ _).trans (h2.symm.trans (State.tuned_placeRows _ _ _ _))

@[simp] theorem State.tuned_proofRun (s : State) (l : Lane) (j : Job) (r : BandRecord) (k : Decoder) :
    (s.proofRun l j r k).tuned = s.tuned := by
  unfold State.proofRun
  try dsimp only
  repeat' split
  all_goals simp

@[simp] theorem State.tuned_proofRecord (s : State) (l : Lane) (j : Job) (e : TableEnd) :
    (s.proofRecord l j e).tuned = s.tuned := by
  unfold State.proofRecord
  try dsimp only
  repeat' split
  all_goals simp

@[simp] theorem State.tuned_proofAbandon (s : State) (l : Lane) (j : Job) :
    (s.proofAbandon l j).tuned = s.tuned := by
  unfold State.proofAbandon
  try dsimp only
  repeat' split
  all_goals simp

@[simp] theorem State.tuned_endReadBack (s : State) (x : Link) (st : Stream) (k : Nat) (r : ReplyResult) :
    (s.endReadBack x st k r).tuned = s.tuned := by
  unfold State.endReadBack
  try dsimp only
  repeat' split
  all_goals simp

@[simp] theorem State.tuned_placeFilled (s : State) (x : Link) (f : OutFrame) :
    (s.placeFilled x f).tuned = s.tuned := by
  unfold State.placeFilled
  simp

@[simp] theorem State.tuned_copyMarked (s : State) (x : Link) (st : Stream) (f : OutFrame) :
    (s.copyMarked x st f).tuned = s.tuned := by
  unfold State.copyMarked
  try dsimp only
  repeat' split
  all_goals simp

@[simp] theorem State.tuned_streamFail (s : State) (x : Link) (st : Stream) (c : Detail) (ws : List Word) (w : Nat) :
    (s.streamFail x st c ws w).tuned = s.tuned := by
  unfold State.streamFail
  try dsimp only
  repeat' split
  all_goals simp

@[simp] theorem State.tuned_streamSettle (s : State) (x : Link) (st : Stream) (ws : List Word) :
    (s.streamSettle x st ws).tuned = s.tuned := by
  unfold State.streamSettle
  try dsimp only
  repeat' split
  all_goals simp

@[simp] theorem State.tuned_streamBurst (s : State) (x : Link) (ws : List ReadWord) :
    (s.streamBurst x ws).tuned = s.tuned := by
  unfold State.streamBurst
  try dsimp only
  repeat' split
  all_goals simp

@[simp] theorem State.tuned_streamClaim (s : State) (x : Link) :
    (s.streamClaim x).tuned = s.tuned := by
  unfold State.streamClaim
  try dsimp only
  repeat' split
  all_goals simp

@[simp] theorem State.tuned_streamPlaced (s : State) (x : Link) (st : Stream) (ws : List Word) :
    (s.streamPlaced x st ws).tuned = s.tuned := by
  unfold State.streamPlaced
  try dsimp only
  repeat' split
  all_goals simp

@[simp] theorem State.tuned_copyRecord (s : State) (x : Link) (st : Stream) (e : TableEnd) :
    (s.copyRecord x st e).tuned = s.tuned := by
  unfold State.copyRecord
  try dsimp only
  repeat' split
  all_goals simp

@[simp] theorem State.tuned_readBandRecord (s : State) (x : Link) (q : RecordRead) (e : TableEnd) :
    (s.readBandRecord x q e).tuned = s.tuned := by
  unfold State.readBandRecord
  try dsimp only
  repeat' split
  all_goals simp

@[simp] theorem State.tuned_refusePixels (s : State) (x : Link) (tag : Byte) (c : Refuse) :
    (s.refusePixels x tag c).tuned = s.tuned := by
  unfold State.refusePixels
  simp

@[simp] theorem State.tuned_takePixels (s : State) (x : Link) (p : Page) (q : PixelFields) :
    (s.takePixels x p q).tuned = s.tuned := by
  unfold State.takePixels
  try dsimp only
  repeat' split
  all_goals simp

@[simp] theorem State.tuned_checkPixels (s : State) (x : Link) (tag : Byte) (body : List Byte) :
    (s.checkPixels x tag body).tuned = s.tuned := by
  unfold State.checkPixels
  try dsimp only
  repeat' split
  all_goals simp

@[simp] theorem State.tuned_servePixels (s : State) (x : Link) (f : Frame) :
    (s.servePixels x f).tuned = s.tuned := by
  unfold State.servePixels
  try dsimp only
  repeat' split
  all_goals simp

@[simp] theorem State.tuned_checkWaiting (s : State) (x : Link) (n : Nat) :
    (s.checkWaiting x n).tuned = s.tuned := by
  induction n generalizing s with
  | zero => rfl
  | succ n ih =>
    unfold State.checkWaiting
    split
    · simp [ih]
    · rfl

@[simp] theorem State.tuned_bandComplete (s : State) (x : Link) (p : Page) (t : SlotId) (band rows : Nat) (o : Slot) :
    (s.bandComplete x p t band rows o).tuned = s.tuned := by
  unfold State.bandComplete
  dsimp only
  split <;> simp [State.tuned_foldl _ (State.tuned_dispatchEncode · _ _ _ _ ·)]

@[simp] theorem State.tuned_slotTakes (s : State) (x : Link) (p : Page) (hb : Nat) (t : SlotId) (band next : Nat) (o : Slot) :
    (s.slotTakes x p hb t band next o).tuned = s.tuned := by
  unfold State.slotTakes
  try dsimp only
  repeat' split
  all_goals simp

@[simp] theorem State.tuned_framesEffects (s : State) (x : Link) (p : Page) (f : FrameWriting) :
    (s.framesEffects x p f).tuned = s.tuned := by
  unfold State.framesEffects
  dsimp only
  repeat' split
  all_goals simp

@[simp] theorem State.tuned_pixelsWritten (s : State) (x : Link) (f : FrameWriting) :
    (s.pixelsWritten x f).tuned = s.tuned := by
  unfold State.pixelsWritten
  simp only [State.tuned_checkWaiting]
  repeat' split
  all_goals simp

@[simp] theorem State.tuned_startBurst (s : State) (b : Burst) :
    (s.startBurst b).tuned = s.tuned := by
  unfold State.startBurst
  split
  · rfl
  · rfl

@[simp] theorem State.tuned_grantUrgent (s : State) (b : Burst) :
    (s.grantUrgent b).tuned = s.tuned := by
  unfold State.grantUrgent
  try dsimp only
  repeat' split
  all_goals simp

@[simp] theorem State.tuned_grantRun (s : State) (b : Burst) :
    (s.grantRun b).tuned = s.tuned := by
  unfold State.grantRun
  try dsimp only
  repeat' split
  all_goals simp

@[simp] theorem State.tuned_extendRun (s : State) (b : Burst) :
    (s.extendRun b).tuned = s.tuned := by
  unfold State.extendRun
  try dsimp only
  repeat' split
  all_goals simp

@[simp] theorem State.tuned_grantRefresh (s : State)  :
    (s.grantRefresh).tuned = s.tuned := by
  unfold State.grantRefresh
  simp

@[simp] theorem State.tuned_grantDecision (s : State)  :
    (s.grantDecision).tuned = s.tuned := by
  unfold State.grantDecision
  try dsimp only
  repeat' split
  all_goals simp

@[simp] theorem State.tuned_arbitrate (s : State)  :
    (s.arbitrate).tuned = s.tuned := by
  unfold State.arbitrate
  try dsimp only
  repeat' split
  all_goals simp

@[simp] theorem State.tuned_tableMade (s : State) (op : TableOp) (ws : List ReadWord) :
    (s.tableMade op ws).tuned = s.tuned := by
  unfold State.tableMade
  try dsimp only
  repeat' split
  all_goals simp

@[simp] theorem State.tuned_deliver (s : State) (b : Burst) (ws : List ReadWord) :
    (s.deliver b ws).tuned = s.tuned := by
  unfold State.deliver
  try dsimp only
  repeat' split
  all_goals simp

@[simp] theorem State.tuned_servePrint (s : State) (x : Link) (f : Frame) :
    (s.servePrint x f).tuned = s.tuned := by
  unfold State.servePrint
  dsimp only
  repeat' split
  all_goals simp

@[simp] theorem State.tuned_serveCancelPrint (s : State) (x : Link) (f : Frame) :
    (s.serveCancelPrint x f).tuned = s.tuned := by
  unfold State.serveCancelPrint
  try dsimp only
  repeat' split
  all_goals simp

@[simp] theorem State.tuned_answerPress (s : State) (l : List Answer) :
    (s.answerPress l).tuned = s.tuned := by
  unfold State.answerPress
  simp

@[simp] theorem State.tuned_wake (s : State) (w : WakeCause) (h : Bool) :
    (s.wake w h).tuned = s.tuned := by
  unfold State.wake
  simp

@[simp] theorem State.tuned_beginSheet (s : State) (e : PrintEntry) (p : Page) :
    (s.beginSheet e p).tuned = s.tuned := by
  unfold State.beginSheet
  try dsimp only
  repeat' split
  all_goals simp

@[simp] theorem State.tuned_takeSheetStart (s : State)  :
    (s.takeSheetStart).tuned = s.tuned := by
  unfold State.takeSheetStart
  try dsimp only
  repeat' split
  all_goals simp

@[simp] theorem State.tuned_sheetDone (s : State) (e : PrintEntry) :
    (s.sheetDone e).tuned = s.tuned := by
  unfold State.sheetDone
  dsimp only
  repeat' split
  all_goals simp

@[simp] theorem State.tuned_sendLine (s : State) (e : PrintEntry) (p : Page) :
    (s.sendLine e p).tuned = s.tuned := by
  unfold State.sendLine
  dsimp only
  repeat' split
  all_goals simp

@[simp] theorem State.tuned_takeLineRequest (s : State)  :
    (s.takeLineRequest).tuned = s.tuned := by
  unfold State.takeLineRequest
  try dsimp only
  repeat' split
  all_goals simp

@[simp] theorem State.tuned_takeSheetAbort (s : State)  :
    (s.takeSheetAbort).tuned = s.tuned := by
  unfold State.takeSheetAbort
  try dsimp only
  repeat' split
  all_goals simp

@[simp] theorem State.tuned_uncountSheet (s : State) :
    (s.uncountSheet).tuned = s.tuned := by
  unfold State.uncountSheet
  repeat' split
  all_goals simp

@[simp] theorem State.tuned_takeSignal (s : State) (g : PressSignal) :
    (s.takeSignal g).tuned = s.tuned := by
  unfold State.takeSignal
  try dsimp only
  repeat' split
  all_goals simp

@[simp] theorem State.tuned_pressSignal (s : State) (g : PressSignal) :
    (s.pressSignal g).tuned = s.tuned := by
  unfold State.pressSignal
  try dsimp only
  repeat' split
  all_goals simp

@[simp] theorem State.tuned_drainSignals (s : State) (n : Nat) :
    (s.drainSignals n).tuned = s.tuned := by
  induction n generalizing s with
  | zero => rfl
  | succ n ih =>
    unfold State.drainSignals
    split
    · simp [ih]
    · rfl

@[simp] theorem State.tuned_takeWaitingSignals (s : State)  :
    (s.takeWaitingSignals).tuned = s.tuned := by
  unfold State.takeWaitingSignals
  try dsimp only
  repeat' split
  all_goals simp

@[simp] theorem State.tuned_pressResetNow (s : State)  :
    (s.pressResetNow).tuned = s.tuned := by
  unfold State.pressResetNow
  try dsimp only
  repeat' split
  all_goals simp

@[simp] theorem State.tuned_takeHold (s : State) (x : Link) (f : Frame) :
    (s.takeHold x f).tuned = s.tuned := State.tuned_modLink _ _ _ (fun _ => rfl)

@[simp] theorem State.tuned_takeResume (s : State) (x : Link) :
    (s.takeResume x).tuned = s.tuned := by
  unfold State.takeResume
  simp

@[simp] theorem State.tuned_abortStreams (s : State) (x : Link) :
    (s.abortStreams x).tuned = s.tuned := by
  unfold State.abortStreams
  simp [State.tuned_foldl _ (fun t st => State.tuned_dropStreamRef t _)]

@[simp] theorem State.tuned_resetIntake (s : State) (x : Link) :
    (s.resetIntake x).tuned = s.tuned := by
  unfold State.resetIntake
  try dsimp only
  repeat' split
  all_goals simp

@[simp] theorem State.tuned_abandonProof (s : State) (x : Link) (l : Lane) :
    (State.abandonProof x s l).tuned = s.tuned := by
  unfold State.abandonProof
  try dsimp only
  repeat' split
  all_goals simp

@[simp] theorem State.tuned_resetProofs (s : State) (x : Link) :
    (s.resetProofs x).tuned = s.tuned := by
  unfold State.resetProofs
  simp [State.tuned_foldl _ (State.tuned_abandonProof · _ ·)]

@[simp] theorem State.tuned_endListing (s : State) (q : Listing) :
    (s.endListing q).tuned = s.tuned := by
  unfold State.endListing
  try dsimp only
  repeat' split
  all_goals simp

@[simp] theorem State.tuned_resetListings (s : State) (x : Link) :
    (s.resetListings x).tuned = s.tuned := by
  unfold State.resetListings
  exact State.tuned_foldl _ State.tuned_endListing _ _

@[simp] theorem State.tuned_resetWake (s : State) (x : Link) :
    (s.resetWake x).tuned = s.tuned := by
  unfold State.resetWake
  split <;> rfl

@[simp] theorem State.tuned_serveClearStatus (s : State) (x : Link) (f : Frame) :
    (s.serveClearStatus x f).tuned = s.tuned := by
  unfold State.serveClearStatus
  try dsimp only
  repeat' split
  all_goals simp

@[simp] theorem State.tuned_serveRest (s : State) (x : Link) (f : Frame) (k : Nat) :
    (s.serveRest x f k).tuned = s.tuned := by
  unfold State.serveRest
  simp

@[simp] theorem State.tuned_serveSetProfile (s : State) (x : Link) (f : Frame) :
    (s.serveSetProfile x f).tuned = s.tuned := by
  unfold State.serveSetProfile
  try dsimp only
  repeat' split
  all_goals simp

@[simp] theorem State.tuned_enterPage (s : State) (x : Link) (k : Nat) (p : Page) :
    (s.enterPage x k p).tuned = s.tuned := by
  unfold State.enterPage
  try dsimp only
  repeat' split
  all_goals simp

@[simp] theorem State.tuned_admitPage (s : State) (x : Link) (k : Nat) (q : OpenFields) (cls : Nat) (t : Option Link) (m : Bool) :
    (s.admitPage x k q cls t m).tuned = s.tuned := by
  have hu : (if m then s else s.useAdmit).tuned = s.tuned := by split <;> simp
  unfold State.admitPage
  dsimp only
  split
  · rename_i h
    simp [State.tuned_takeHeadExtent h, hu]
  · simp [hu]

@[simp] theorem State.tuned_serveOpenPage (s : State) (x : Link) (m : Bool) (f : Frame) (k : Nat) :
    (s.serveOpenPage x m f k).tuned = s.tuned := by
  unfold State.serveOpenPage
  try dsimp only
  repeat' split
  all_goals simp

@[simp] theorem State.tuned_headerDone (s : State) (h : HeaderInit) :
    (s.headerDone h).tuned = s.tuned := by
  unfold State.headerDone
  dsimp only
  repeat' split
  all_goals simp

@[simp] theorem State.tuned_retire (s : State) (x : Link) (k : Nat) (p : Page) :
    (s.retire x k p).tuned = s.tuned := by
  unfold State.retire
  dsimp only
  split <;> simp [State.tuned_foldl _ (State.tuned_ceaseIntake · _ ·)]

@[simp] theorem State.tuned_serveRetirePage (s : State) (x : Link) (f : Frame) (k : Nat) :
    (s.serveRetirePage x f k).tuned = s.tuned := by
  unfold State.serveRetirePage
  try dsimp only
  repeat' split
  all_goals simp

@[simp] theorem State.tuned_releaseStep (s : State) (r : Release) (p : Page) (e : TableEnd) :
    (s.releaseStep r p e).tuned = s.tuned := by
  unfold State.releaseStep
  dsimp only
  repeat' split
  all_goals simp

@[simp] theorem State.tuned_serveListPage (s : State) (x : Link) (f : Frame) (k : Nat) :
    (s.serveListPage x f k).tuned = s.tuned := by
  unfold State.serveListPage
  try dsimp only
  repeat' split
  all_goals simp

@[simp] theorem State.tuned_listStep (s : State) (q : Listing) (e : TableEnd) :
    (s.listStep q e).tuned = s.tuned := by
  unfold State.listStep
  dsimp only
  repeat' split
  all_goals simp

@[simp] theorem State.tuned_bandRecorded (s : State) (l : Lane) (j : Job) :
    (s.bandRecorded l j).tuned = s.tuned := by
  unfold State.bandRecorded
  try dsimp only
  repeat' split
  all_goals simp

@[simp] theorem State.tuned_serveReadBandDecoded (s : State) (x : Link) (f : Frame) (k : Nat) :
    (s.serveReadBandDecoded x f k).tuned = s.tuned := by
  unfold State.serveReadBandDecoded
  try dsimp only
  repeat' split
  all_goals simp

@[simp] theorem State.tuned_proofPlace (s : State) (l : Lane) (j : Job) (r : BandRecord) (k : Decoder) (f : OutFrame) (rest : List OutFrame) :
    (s.proofPlace l j r k f rest).tuned = s.tuned := by
  unfold State.proofPlace
  dsimp only
  split
  · rename_i h
    have h2 := congrArg (fun q : List OutFrame × State => q.2.tuned) h
    exact (State.tuned_proofRun _ _ _ _ _).trans (h2.symm.trans ((State.tuned_placeRows _ _ _ _).trans (by simp)))
  · rename_i h
    have h2 := congrArg (fun q : List OutFrame × State => q.2.tuned) h
    exact (State.tuned_setLane _ _ _).trans (h2.symm.trans ((State.tuned_placeRows _ _ _ _).trans (by simp)))

@[simp] theorem State.tuned_serveReadBandCompressed (s : State) (x : Link) (f : Frame) (k : Nat) :
    (s.serveReadBandCompressed x f k).tuned = s.tuned := by
  unfold State.serveReadBandCompressed
  try dsimp only
  repeat' split
  all_goals simp

@[simp] theorem State.tuned_readBandEnded (s : State) (x : Link) (q : RecordRead) (e : TableEnd) :
    (s.readBandEnded x q e).tuned = s.tuned := by
  unfold State.readBandEnded
  try dsimp only
  repeat' split
  all_goals simp

@[simp] theorem State.tuned_copyFinish (s : State) (x : Link) (st : Stream) :
    (s.copyFinish x st).tuned = s.tuned := by
  unfold State.copyFinish
  try dsimp only
  repeat' split
  all_goals simp

end Sys2Proof.Machine
end

