-- ==== Sys2Proof/Tests/Slice0.lean ====
section
/-!
SUPPORT. The model's own tests: the well-formedness check refuses each ill-formed operand; each statement with
hypotheses has a state and operands that meet them, clause by clause at boundary values (`witness_…`); and small
single steps (`test_…`).
-/

-- One proof after another: the package as one text asks for more threads at once than the check allows.
set_option Elab.async false
namespace Sys2Proof.Tests
open Sys2Proof.Machine

/-! ## Well-formedness -/

theorem test_wf_refuses_byte_outside_burst : (Instr.burstEnd [⟨32, 1, false⟩]).wf = false := by decide
theorem test_wf_refuses_byte_named_twice : (Instr.burstEnd [⟨3, 1, false⟩, ⟨3, 2, true⟩]).wf = false := by decide
theorem test_wf_refuses_a_byte_of_a_meeting : (Instr.openPage .a (some [⟨32, 1, false⟩])).wf = false := by decide
theorem test_wf_refuses_eight_steps : (Instr.refreshDuePoint 8).wf = false := by decide
theorem test_wf_refuses_page_zero : (Instr.headerInitComplete 0).wf = false := by decide
theorem test_wf_refuses_page_above : (Instr.releaseRecordRead 65536).wf = false := by decide
theorem test_wf_accepts_boundaries :
    (Instr.burstEnd [⟨31, 1, false⟩, ⟨0, 2, true⟩]).wf = true ∧ (Instr.refreshDuePoint 7).wf = true ∧
      (Instr.headerInitComplete 65535).wf = true ∧ (Instr.releaseRecordRead 1).wf = true := by decide
theorem test_no_word_spells_a_command : decodeTableWord 16 0 = none := by decide

/-! ## Small states -/

/-- A READY part with a pool of three extents. -/
def ready : State := { State.reset with
  ctl := { StoreCtl.initial with state := .ready, banks := banksIdle, refreshTimer := some 78, settleTimer := none }
  map := ⟨[], [256, 257, 258]⟩
  adm := { Admission.initial .mib128 with freeCount := 3, lw := 0, hw := 1 } }

/-- The part in another controller state. -/
def inState (c : CtlState) (s : State) : State := { s with ctl := { s.ctl with state := c } }

/-- A frame of kind `k` with tag 7. -/
def fr (k : Nat) (body : List Nat) : Frame := ⟨BitVec.ofNat 8 k, 7, body.map (BitVec.ofNat 8)⟩

/-- The frame waits on link A. -/
def rx (f : Frame) (s : State) : State := { s with links := { s.links with a := { s.links.a with rx := [f] } } }

/-- Link A changed. -/
def onA (g : LinkCtl → LinkCtl) (s : State) : State := { s with links := { s.links with a := g s.links.a } }

/-- A page 1 of 2 by 2 pixels, one component, one band, in a state. -/
def pg (st : PageState) : Page where
  id := 1
  state := st
  cause := none
  origin := .a
  profile := 0
  w := 2
  ht := 2
  c := 1
  order := .highFirst
  cls := 3
  copyTarget := none
  jobTag := 0
  b := 1
  nextPixel := some 0
  stored := 0
  damaged := false
  damageEvents := 0
  clamped := 0
  printRefs := 0
  streamRefs := 0
  work := 0
  header := 300

/-- The directory holds the page alone. -/
def withPage (p : Page) (s : State) : State := { s with dir := { s.dir with pages := [p] } }

/-- The state a command leaves. -/
def after (c : Instr) (s : State) : State :=
  match exec c s with
  | .next t => t
  | .fault _ => s
  | .refused _ => s

/-- The end of a TABLE operation of a client, with eight words. -/
def ended (c : Client) (ws : List ReadWord) : TableEnd := ⟨⟨c, 0, .read 0 true⟩, ws⟩

/-- A TABLE operation has ended. -/
def withEnd (c : Client) (ws : List ReadWord) (s : State) : State :=
  { s with arb := { s.arb with tableEnds := [ended c ws] } }

/-- The words of a record at index 0. -/
def recWords (r : BandRecord) (bad : Bool) : List ReadWord :=
  (recordData 0 r).map fun w => ⟨w, bad⟩

def storedRec : BandRecord := ⟨.stored, .coded, 0, 300, 1⟩
def pendingRec : BandRecord := ⟨.pending, .coded, 0, 0, 0⟩

/-! ## The band codec -/

def ctx1 : Context := Context.fresh ⟨.edge, 1, 16, 8, 0⟩ 1 2 .coding
def ctx2 : Context := Context.fresh Profile.initial 2 1 .coding

theorem witness_Residuals_Reconstruction_Mapping_Rice :
    quantise 1 0 = 0 ∧ quantise 1 (-1) = 0 ∧ quantise 1 (-2) = -1 ∧ (255 : Nat) ≤ maxVal 8 ∧
      (0 + (-1) * (2 * 1 + 1) < (0 : Int)) ∧ ((maxVal 8 : Int) < 255 + 1 * (2 * 1 + 1)) ∧
      (ctx1.encode 128).isSome = true ∧ ctx1.cur.length + 1 = ctx1.w ∧
      (ctx2.encode 128).isSome = true ∧ ctx2.cur.length + 1 ≠ ctx2.w ∧
      (255 : Int).natAbs ≤ maxVal 8 ∧ (-255 : Int).natAbs ≤ maxVal 8 ∧ mapValue (-255) = 509 ∧
      riceParam 0 1 8 = 0 ∧ riceParam 1 1 8 = 0 ∧ riceParam 2 1 8 = 1 := by decide +kernel

theorem witness_Rice_decode : ∃ c2 rest, ({ ctx2 with form := .coded } : Context).decode
    ((List.replicate 1 true ++ List.replicate 32 false).map some) = .got c2 rest ∧
      ({ ctx2 with form := .coded } : Context).form ≠ .raw := ⟨_, _, rfl, by decide⟩

theorem witness_Codes : 23 / 2 ^ 0 < 24 ∧ 24 ≤ 24 / 2 ^ 0 ∧ 368 < 2 ^ (8 + 1) ∧ 368 / 2 ^ 4 = 23 ∧
    (codeOf 8 4 368).length = 8 + 20 ∧ (codeOf 8 0 24).length = 8 + 26 ∧ 511 < 2 ^ (8 + 1) ∧
      (List.replicate 32 true).length ≤ 32 * 1 := by decide +kernel

/-- A decoder at the first row of a raw payload of two samples. -/
def rawDec : Decoder := ⟨{ ctx2 with form := .raw }, 1, 0, none, [5, 255].flatMap fun x => (natBits 8 x).map some⟩

/-- The context of the fallback case R1.11, an encoder run on it, and its slot words. -/
def ctx11 : Context := Context.fresh ⟨.left, 0, 8, 8, 0⟩ 3 1 .coding
def run11 : EncodeRun := ⟨.coding, ctx11, 3, [], 0, none, none, 0⟩
def words11 : List ReadWord := [⟨130 * 65536 + 131, false⟩, ⟨0, false⟩]

theorem witness_CodesAndWords :
    rawDec.ctx.form = .raw ∧ rawDec.ctx.cur = [] ∧ 0 < rawDec.ctx.w ∧ [5, 255].length = rawDec.ctx.w ∧
      (∀ x ∈ [5, 255], x < 2 ^ rawDec.ctx.d) ∧ run11.phase = .coding ∧ (ctx11.encodeAll [130, 131]).isSome = true ∧
      ((ctx11.encodeAll [130, 131]).bind fun q => q.1.encode 0) = none ∧ ctx11.form ≠ .abandoned ∧
      ({ run11 with phase := .rewriting } : EncodeRun).phase = .rewriting ∧
      ctx11.abandon.form = .abandoned := by decide +kernel

/-- A coded decoder that has read these bits of a payload of `n` words. -/
def codedDec (n : Nat) (ext : Option Nat) (buf : List (Option Bool)) : Decoder :=
  ⟨{ ctx2 with form := .coded }, n, 1, ext, buf⟩

theorem witness_Malformed_Payloads :
    22 < (codeOf 8 4 368).length - 5 ∧ 33 < (codeOf 8 0 24).length ∧ 0 < (codeOf 8 0 0).length ∧
      ({ ctx2 with form := .coded } : Context).form ≠ .raw ∧ [true, false].length < rawDec.ctx.d ∧
      ({ ctx2 with form := .coded } : Context).decode [some false] = .short ∧
      (codedDec 2 (some 300) [some false]).fetched < 2 ∧ (1 : Nat) ≤ (codedDec 1 (some 300) []).fetched ∧
      (codedDec 2 none []).ext = none := by decide +kernel

/-- R19, R20: a 25th zero bit and the end of the payload or of its chain are STREAM, a bad word is PARITY, and bits still
to be read are waited for. -/
theorem test_malformed_payloads_stop_a_decoding :
    (codedDec 2 (some 300) (List.replicate 25 (some false))).runRow.2 = .failed .stream ∧
      (codedDec 2 (some 300) (List.replicate 24 (some false))).runRow.2 = .needWords ∧
      (codedDec 1 (some 300) (List.replicate 24 (some false))).runRow.2 = .failed .stream ∧
      (codedDec 2 none (List.replicate 24 (some false))).runRow.2 = .failed .stream ∧
      (codedDec 2 (some 300) (readBits ⟨0, true⟩)).runRow.2 = .failed .parity := by decide +kernel

theorem witness_EncodedRows : ctx2.healthy ∧ 1 ≤ ctx2.d ∧ ctx2.cur = [] ∧ 0 < ctx2.w ∧
    [128, 129].length = ctx2.w ∧ (∀ x ∈ [128, 129], x ≤ maxVal ctx2.d) ∧
      ∃ c2 bits, ctx2.encodeAll [128, 129] = some (c2, bits) ∧
        ∃ k : Decoder, k.ctx = { ctx2 with form := .coded, bits := k.ctx.bits } ∧ k.buf = bits.map some ++ [] := by
  refine ⟨⟨?_, ?_⟩, by decide, rfl, by decide, rfl, by decide, ?_⟩
  · intro up h
    exact absurd h (by simp [ctx2, Context.fresh])
  · intro y h
    exact absurd h (by simp [ctx2, Context.fresh])
  · have h : (ctx2.encodeAll [128, 129]).isSome = true := by decide +kernel
    obtain ⟨q, hq⟩ := Option.isSome_iff_exists.1 h
    exact ⟨q.1, q.2, hq, ⟨{ ctx2 with form := .coded }, 0, 0, none, q.2.map some ++ []⟩, rfl, rfl⟩

theorem witness_Neighbours :
    ctx2.prev = none ∧ ctx2.cur = [] ∧ ({ ctx2 with cur := [7] } : Context).cur = [] ++ [7] ∧
      ({ ctx2 with prev := some [1, 2] } : Context).prev = some [1, 2] ∧ [1, 2][0]? = some 1 ∧
      [1, 2][([] : List Nat).length + 1]? = some 2 ∧ ({ ctx2 with prev := some [1, 2], cur := [7] } : Context).neighbours =
        (7, 2, 1) ∧ ctx2.predictor = .edge ∧ ctx11.predictor = .left ∧ ({ ctx2 with predictor := .above } : Context).predictor =
        .above ∧ predict .edge 7 2 9 = 2 ∧ predict .edge 7 2 1 = 7 ∧ predict .edge 7 2 4 = 5 ∧
      (({ ctx2 with n := 63 } : Context).encode 128).isSome = true ∧ (ctx2.encode 128).isSome = true := by decide +kernel

/-! ## The layout links -/

theorem witness_StepRuns : ({ ready with pending := [.sheetStart] } : State).pending = .sheetStart :: [] ∧
    ready.pending = [] := by decide

def holdBytes : List Byte := frameBytes 18 7 [0, 5]

theorem witness_FrameArrival_FramesWake :
    (onA (fun c => { c with resetting := true }) ready).links.a.resetting = true ∧
      (ready.link .a).resetting = false ∧ ready.ctl.state ≠ .resting ∧ ready.part = .ready ∧
      parseFrame [] = none ∧ parseFrame holdBytes = some (fr 18 [0, 5]) ∧ (fr 18 [0, 5]).k = 18 ∧
      (fr 18 [0, 5]).body.length = 2 ∧ parseFrame (frameBytes 19 7 []) = some (fr 19 []) ∧
      (ready.link .a).hold = false ∧ ((onA (fun c => { c with hold := true }) ready).link .a).hold = true ∧
      parseFrame (frameBytes 18 7 []) = some (fr 18 []) ∧ ¬ (fr 18 []).body.length = 2 ∧
      (ready.link .a).rx.length < 4 ∧
      4 ≤ ((onA (fun c => { c with rx := List.replicate 4 (fr 8 []) }) ready).link .a).rx.length ∧
      (inState .resting ready).ctl.state = .resting := by decide +kernel

theorem witness_FramesPass :
    (List.replicate 8000 0).length ≤ 8000 ∧ (List.replicate 4000 (0 : Word)).length ≤ 4000 ∧
      (List.replicate 1024 (RecordListing.mk true 0 0)).length ≤ 1024 ∧
      (parseFrame (OutFrame.notice .hold).bytes).isSome = true ∧ (⟨.damaged, .raw, 3, 8191, 262143⟩ : BandRecord).lane < 4 ∧
      (BandRecord.ofWords (BandRecord.toWords ⟨.damaged, .raw, 3, 8191, 262143⟩).1
        (BandRecord.toWords ⟨.damaged, .raw, 3, 8191, 262143⟩).2) = ⟨.damaged, .raw, 3, 8191, 262143⟩ := by
  refine ⟨List.length_replicate.le, List.length_replicate.le, List.length_replicate.le, ?_⟩
  decide +kernel

theorem witness_RequestsStarting :
    requestOf (.hold .a) = some (.a, Frame.isKind 18) ∧ Frame.isKind 18 (fr 18 []) = true ∧
      ((rx (fr 18 []) (inState .start ready)).link .a).rx.head? = some (fr 18 []) ∧
      ((rx (fr 18 []) (inState .start ready)).link .a).replyUse < 8 ∧
      (rx (fr 18 []) (inState .start ready)).part = .starting ∧
      (rx (fr 18 []) (inState .waking ready)).part = .waking ∧
      (inState .waking ready).ctl.wakeFrameHeld = false := by
  refine ⟨rfl, ?_⟩
  decide +kernel

/-- Four long requests outstanding. -/
def fourLong : List LongReq := [⟨0, 7, 1⟩, ⟨1, 7, 2⟩, ⟨2, 7, 3⟩, ⟨3, 7, 4⟩]

theorem witness_Malformed :
    (rx (fr 0 []) ready).offers .a 0 (fr 0 []) = true ∧ Frame.badKind (fr 0 []) = true ∧
      (rx (fr 20 []) ready).offers .a 20 (fr 20 []) = true ∧ (fr 0 []).k < 1 ∧ 19 < (fr 20 []).k ∧
      Frame.badKind (fr 20 []) = true ∧ (fr 20 []).lengthOk = false ∧ (fr 0 []).lengthOk = false ∧
      (rx (fr 2 [0]) ready).offers .a 2 (fr 2 [0]) = true ∧ (fr 2 [0]).lengthOk = false ∧
      (rx (fr 7 [0, 1, 0, 0, 0, 0]) (onA (fun c => { c with long := fourLong }) ready)).offers .a 7
        (fr 7 [0, 1, 0, 0, 0, 0]) = true ∧ (fr 7 [0, 1, 0, 0, 0, 0]).lengthOk = true ∧
      (fr 7 [0, 1, 0, 0, 0, 0]).isLong = true ∧ 4 ≤ fourLong.length := by decide +kernel

theorem witness_Status_Hold :
    ((rx (fr 8 []) ready).link .a).rx.head? = some (fr 8 []) ∧ (rx (fr 8 []) ready).canTake .a = true ∧
      (rx (fr 8 []) (inState .settle ready)).canTake .a = true ∧
      (rx (fr 9 []) ready).offers .a 9 (fr 9 []) = true ∧
      (rx (fr 18 [0, 0]) ready).offers .a 18 (fr 18 [0, 0]) = true ∧
      (rx (fr 19 []) ready).offers .a 19 (fr 19 []) = true ∧
      (rx (fr 19 []) (onA (fun c => { c with hold := true, holdTimer := some 1 }) ready)).offers .a 19
        (fr 19 []) = true ∧
      ((onA (fun c => { c with hold := true, holdTimer := some 1 }) ready).link .a).holdTimer.isSome = true := by
  decide +kernel

def aReply : OutFrame := .reply 8 7 (.refused .busy)

theorem witness_FramesAreSent :
    ((onA (fun c => { c with sending := some aReply, replyUse := 1 }) ready).link .a).sending = some aReply ∧
      aReply.isReply = true ∧ OutFrame.passesHold aReply = false ∧ OutFrame.passesHold (.notice .hold) = true ∧
      [aReply, .notice .hold] = [aReply] ++ OutFrame.notice .hold :: [] ∧
      24 ≤ ({ LinkCtl.initial with out := List.replicate 24 (.notice .hold) } : LinkCtl).generalUse ∧
      ({ LinkCtl.initial with out := List.replicate 23 (.notice .hold) } : LinkCtl).generalUse < 24 := by
  decide +kernel

theorem witness_LinkReset : (ready.link .a).resetting = false ∧ (ready.intake .a).page = none ∧
    ready.disp.waiting = [] ∧ ready.dir.listings = [] ∧ ready.lane .l0 = .idle ∧ ready.lane .l1 = .idle ∧
      ready.lane .l2 = .idle ∧ ready.lane .l3 = .idle ∧ (ready.link .a).streams = [] := by decide +kernel

/-! ## The album directory -/

def listF (count : Nat) : Frame := fr 7 [0, 1, 0, 0, count / 256, count % 256]
def bandF (form band : Nat) : Frame := fr 6 [0, 1, 0, band, 0, form, 0]
def offering (f : Frame) (p : Page) : State := rx f (withPage p ready)

/-- A PROOF job of link B for band 0, component 0 of page 1. -/
def proofJob (l : Lane) : Job := ⟨1, 0, 0, 3, .request .b 9 4, l, 0⟩

theorem witness_RequestsNamingAPage :
    (offering (fr 3 [0, 1]) (pg .sealed)).offersLong .a 3 (fr 3 [0, 1]) = true ∧
      (offering (fr 3 [0, 2]) (pg .sealed)).page 2 = none ∧ (pg .retiring).state = .retiring ∧
      (offering (fr 3 [0, 1]) { pg .sealed with printRefs := 1 }).page 1 = some { pg .sealed with printRefs := 1 } ∧
      (offering (listF 1025) (pg .sealed)).offersLong .a 7 (listF 1025) = true ∧
      1024 < field 4 2 (listF 1025).body ∧ field 4 2 (listF 1024).body ≤ 1024 ∧ 0 < field 4 2 (listF 1).body ∧
      field 4 2 (listF 0).body = 0 ∧ (pg .sealed).b * (pg .sealed).c ≤ field 2 2 (fr 7 [0, 1, 0, 1, 0, 1]).body ∧
      (offering (bandF 0 0) (pg .sealed)).offersLong .a 6 (bandF 0 0) = true ∧ field 5 1 (bandF 0 0).body = 0 ∧
      field 5 1 (bandF 1 0).body = 1 ∧ (pg .sealed).b ≤ field 2 2 (bandF 0 1).body ∧
      field 2 2 (bandF 0 0).body < (pg .sealed).b ∧ proofJob .l0 ∈ ({ Dispatcher.initial with
        queues := ⟨[proofJob .l0], [], [], []⟩ } : Dispatcher).waiting ∧ (proofJob .l0).page = (pg .sealed).id ∧
      (proofJob .l0).comp = field 4 1 (bandF 0 0).body ∧ (5 * 1 + 3 * 0 + 0) % 32 % 2 ^ 2 = 1 ∧
      ready.disp.table[1] = .l1 ∧ 8 ≤ (({ Dispatcher.initial with
        queues := ⟨[], List.replicate 8 (proofJob .l1), [], []⟩ } : Dispatcher).queues.get .l1).length := by
  decide +kernel

/-- An OPEN PAGE of page 1, 2 by 2 pixels, `c` components, profile `pr`. -/
def openF (id c pr : Nat) : Frame := fr 1 [0, id, 0, 2, 0, 2, c, pr, 1, 0, 0]

theorem witness_OpenPage :
    (rx (openF 0 1 0) ready).offersLong .a 1 (openF 0 1 0) = true ∧ ready.countedPool = true ∧
      field 0 2 (openF 0 1 0).body = 0 ∧ 4 < field 6 1 (openF 1 5 0).body ∧ 7 < field 7 1 (openF 1 4 8).body ∧
      ((offering (openF 1 4 7) (pg .sealed)).page 1).isSome = true ∧
      ({ ready with adm := { ready.adm with defaultClass := 0 } } : State).adm.classify .a
        (OpenFields.of (openF 1 4 7).body) = .refuse ∧
      (rx (openF 1 4 7) ready).offersLong .a 1 (openF 1 4 7) = true ∧ 0 < field 0 2 (openF 1 4 7).body ∧
      field 6 1 (openF 1 4 7).body ≤ 4 ∧ field 8 1 (openF 1 4 7).body ≤ 1 ∧ field 7 1 (openF 1 4 7).body < 8 ∧
      ready.page 1 = none ∧ ready.dir.pages.length < 256 ∧ (ready.intake .a).page = none ∧
      ready.adm.classify .a (OpenFields.of (openF 1 4 7).body) = .accept 3 none ∧ ready.adm.mode ≠ .closed ∧
      ready.map.pool = 256 :: [257, 258] ∧
      256 ≤ (List.replicate 256 (pg .sealed)).length ∧
      (({ ready with intakes := { ready.intakes with a := { Intake.initial with page := some 2 } } } : State).intake
        .a).page.isSome = true := by decide +kernel

/-- The end of a burst in which lane 0's encoder comes to the end of its first extent, 300, with a bit more to write. -/
def fillingBurst : Burst := ⟨.lane .l0, 300 * 16384 + 16376, .write [] 0, none, true⟩

/-- NORMAL with the free count at LW: an OPEN PAGE of page 2 waits on link A, and lane 0, which encodes for page 1, has
that burst in progress, whose end takes an extent. -/
def atLW (k : Nat) (pool : List Nat) : State :=
  { rx (openF 2 1 0) (withPage { pg .coding with work := 1 } ready) with
    map := ⟨[(300, ⟨.last, 1, .payload 0 true⟩)], pool⟩
    adm := { ready.adm with lw := pool.length, hw := 4, k := k, freeCount := pool.length }
    disp := { ready.disp with lanes := ⟨.encoding ⟨1, 0, 0, 3, .slot .a .s0, .l0, 0⟩
      ⟨.coding, ctx2, 0, List.replicate 257 true, 16376, some 300, some 300, 1⟩, .idle, .idle, .idle⟩ }
    ctl := { ready.ctl with burst := some fillingBurst } }

/-- The meetings of OPEN PAGE with a report, each at the state it finds. -/
theorem witness_OpenPage_meets :
    ((atLW 2 [256, 257, 258]).fallThatMeets []).any (fun t =>
      t.offersLong .a 1 (openF 2 1 0) && t.countedPool && t.adm.mode == .low && t.map.pool == [257, 258] &&
        (t.page 2).isNone && (t.intake .a).page.isNone &&
        t.adm.classify .a (OpenFields.of (openF 2 1 0).body) == .accept 3 none) = true ∧
      ((atLW 0 [256]).fallThatMeets []).any (fun t =>
        t.offersLong .a 1 (openF 2 1 0) && t.countedPool && t.adm.mode == .closed && t.map.pool == []) = true ∧
      (atLW 2 [256, 257, 258]).adm.mode = .normal ∧ (atLW 2 [256, 257, 258]).ctl.burst = some fillingBurst ∧
      fillingBurst.addr + 8 ≤ ready.size.extents * 16384 ∧ (rx (openF 2 1 0) ready).fallThatMeets [] = none ∧
      ((onA (fun c => { c with rx := [] }) (atLW 2 [256, 257, 258])).fallThatMeets []).any (fun t =>
        (t.link .a).rx.head?.any (fun f => f.kind == 1)) = false ∧
      ((onA (fun c => { c with rx := [fr 1 []], long := List.replicate 4 ⟨0, 7, 1⟩ })
        (atLW 2 [256, 257, 258])).fallThatMeets []).any (fun t => t.offers .a 1 (fr 1 []) &&
          decide (4 ≤ (t.link .a).long.length)) = true := by decide +kernel

/-- R77: an OPEN PAGE that meets a lane's take at LW. Taken first, it is admitted in NORMAL without using an admit, and
its header take finds the mode LOW with its K admits, or CLOSED, with one STORE LOW placed; an empty pool refuses it.
After the take it uses an admit in LOW, or is refused in CLOSED. -/
theorem test_openPage_and_a_take_meet_at_LW :
    let low := after (.openPage .a (some [])) (atLW 2 [256, 257, 258])
    let closed := after (.openPage .a (some [])) (atLW 0 [256, 257, 258])
    (low.page 2).map (·.header) = some 257 ∧ low.adm.mode = .low ∧ low.adm.admits = 2 ∧ low.adm.freeCount = 1 ∧
      (closed.page 2).isSome = true ∧ closed.adm.mode = .closed ∧
      (closed.link .b).sending = some (.notice (.storeLow 2)) ∧ (closed.link .b).out = [] ∧
      ((after (.openPage .a (some [])) (atLW 0 [256])).link .a).out = [.reply 1 7 (.refused .storeLow)] ∧
      (after (.openPage .a) (after (.burstEnd []) (atLW 2 [256, 257, 258]))).adm.admits = 1 ∧
      (after (.openPage .a) (after (.burstEnd []) (atLW 0 [256, 257, 258]))).page 2 = none := by decide +kernel

/-- R77, R70: an OPEN PAGE taken before the lane's take, in an event of its own, moves the mode by its own report; where
no report can meet it, the meeting changes nothing. -/
theorem test_openPage_before_a_take_at_LW :
    let low := after (.openPage .a) (atLW 2 [256, 257, 258])
    (low.page 2).map (·.header) = some 256 ∧ low.adm.mode = .low ∧ low.adm.admits = 2 ∧
      (after (.burstEnd []) low).adm.admits = 2 ∧
      after (.openPage .a (some [])) (rx (openF 2 1 0) ready) = rx (openF 2 1 0) ready := by decide +kernel

def profF (n e hb d : Nat) : Frame := fr 10 [n, 2, e, hb, d]

theorem witness_SetProfile :
    (rx (profF 8 7 32 12) ready).offers .a 10 (profF 8 7 32 12) = true ∧ 7 < field 0 1 (profF 8 7 32 12).body ∧
      7 < field 2 1 (profF 7 8 32 12).body ∧ field 3 1 (profF 7 7 9 12).body ≠ 8 ∧
      (rx (profF 7 7 32 12) ready).offers .a 10 (profF 7 7 32 12) = true ∧ field 0 1 (profF 7 7 32 12).body < 8 ∧
      field 3 1 (profF 7 7 32 12).body = 32 ∧ field 4 1 (profF 7 7 32 12).body = 12 ∧
      ready.dir.profiles[7].uses = 0 ∧
      0 < ((Vector.replicate 8 { Profile.initial with uses := 1 })[7] : Profile).uses := by decide +kernel

def hinit : HeaderInit := ⟨1, .a, 0, 4, 1, 300⟩

theorem witness_HeaderInitialisation :
    ({ ready with dir := { ready.dir with inits := [hinit] } } : State).dir.inits.find? (fun i => i.page == 1) =
        some hinit ∧ hinit.total ≤ hinit.written ∧
      (withPage (pg .opening) ready).page 1 = some (pg .opening) ∧ (pg .failed).state = .failed ∧
      (pg .retiring).state = .retiring ∧ (pg .retiring).work ≤ 1 := by decide +kernel

theorem witness_RetirePage :
    (offering (fr 3 [0, 1]) (pg .failed)).offersLong .a 3 (fr 3 [0, 1]) = true ∧
      (offering (fr 3 [0, 1]) (pg .failed)).page (field 0 2 (fr 3 [0, 1]).body) = some (pg .failed) ∧
      (pg .failed).printRefs = 0 ∧ (pg .failed).streamRefs = 0 ∧ (pg .failed).work = 0 ∧
      0 < ({ pg .filling with work := 1 } : Page).work := by decide +kernel

def rel (n : Nat) : Release := ⟨1, .a, 0, true, n⟩
def releasing (p : Page) (r : BandRecord) : State :=
  withEnd (.release 1) (recWords r false) { withPage p ready with dir := { ready.dir with pages := [p], releases := [rel 0] } }

theorem witness_Release :
    (releasing (pg .retiring) storedRec).arb.tableEnds.find? (fun e => e.op.client == .release 1) =
        some (ended (.release 1) (recWords storedRec false)) ∧
      (releasing (pg .retiring) storedRec).dir.releases.find? (fun r => r.page == 1) = some (rel 0) ∧
      (releasing (pg .retiring) storedRec).page 1 = some (pg .retiring) ∧
      (pg .retiring).b * (pg .retiring).c ≤ (rel 0).next + 1 ∧
      (rel 0).next + 1 < ({ pg .retiring with b := 2 } : Page).b * 1 ∧
      (readRecord 0 (recWords storedRec false)).1 = storedRec ∧
      (readRecord 0 (recWords pendingRec true)).1.state = .pending := by decide +kernel

/-- Page 1 owns its header and two chains. -/
def ownedMap : ExtentMap := ⟨[(256, ⟨.last, 1, .header⟩), (257, ⟨.last, 1, .payload 0 true⟩),
  (258, ⟨.next 260, 1, .payload 1 true⟩), (260, ⟨.last, 1, .payload 1 false⟩)], [259]⟩

theorem witness_Release_chains :
    ownedMap.ownedChains 1 = [(0, 257), (1, 258)] ∧ (ownedMap.ownedChains 1)[0 + 1]?.isSome = true ∧
      ((ownedMap.ownedChains 1).flatMap fun q => ownedMap.chainOf (some q.2)) = [257, 258, 260] ∧
      [257, 258, 260].Nodup ∧ planeWf ownedMap.table = true ∧
      ownedMap.table.all (fun q => q.1 == 256 || [257, 258, 260].contains q.1) = true ∧
      (ownedMap.chainOf (ownedMap.chooseChain 1 1 258)) = [258, 260] ∧ (pg .retiring).profile < 8 := by
  decide +kernel

theorem witness_Chains :
    ownedMap.entry 257 = some ⟨.last, 1, .payload 0 true⟩ ∧ ownedMap.entry 258 = some ⟨.next 260, 1, .payload 1 true⟩ ∧
      ownedMap.entry 260 = some ⟨.last, 1, .payload 1 false⟩ ∧ ownedMap.entry 999 = none ∧
      ownedMap.table.all (fun q => q.1 == 258 || !(q.2.use == .payload 1 true)) = true ∧
      ownedMap.chooseChain 1 1 260 = some 258 ∧ ownedMap.chooseChain 1 2 258 = none ∧
      ownedMap.openChain 1 0 258 = none ∧ (ownedMap.chainOf (some 258))[0 + 1]? = some 260 ∧
      0 + 1 < ownedMap.table.length := by decide +kernel

def lst (stop : Nat) : Listing := ⟨.a, 0, 1, 0, stop, []⟩

theorem witness_ListPage :
    (offering (listF 1024) (pg .failed)).offersLong .a 7 (listF 1024) = true ∧
      field 2 2 (listF 1024).body < (pg .failed).b * (pg .failed).c ∧ (pg .failed).state ≠ .opening ∧
      (withEnd (.listing .a 0) [] ready).arb.tableEnds.find? (fun e => e.op.client.isListing .a) =
        some (ended (.listing .a 0) []) ∧ (ended (.listing .a 0) []).op.client = .listing .a 0 ∧
      [lst 1].find? (fun q => q.link == .a && q.ticket == 0) = some (lst 1) ∧ (lst 1).stop ≤ (lst 1).next + 1 ∧
      (lst 2).next + 1 < (lst 2).stop ∧ (withPage (pg .sealed) ready).page (lst 1).page = some (pg .sealed) ∧
      (withEnd (.mark 1 0 true) [] ready).arb.tableEnds.find? (fun e => e.op.client.isMark) =
        some (ended (.mark 1 0 true) []) := by decide +kernel

/-- A PROOF job of link A runs on lane 0, its record read in progress. -/
def proofA : Job := ⟨1, 0, 0, 3, .request .a 9 4, .l0, 0⟩
def laneRead (live : Bool) : Burst := ⟨.table, 0, .read (recordMask 0 1) true, some (.lane .l0), live⟩
def proofing : State := { withPage { pg .sealed with work := 1 } ready with
  disp := { ready.disp with lanes := ⟨.decoding proofA .recordRead, .idle, .idle, .idle⟩ }
  ctl := { ready.ctl with burst := some (laneRead true) } }

/-- Page 1 fills on link A. -/
def intaking : State := { withPage (pg .filling) ready with
  intakes := ⟨{ Intake.initial with page := some 1, slots := ⟨⟨.filling, some 1, some 0, 1, 0⟩, Slot.initial⟩ },
    Intake.initial⟩ }

theorem witness_LinkReset_work :
    (proofing.link .a).resetting = false ∧ (proofing.intake .a).page = none ∧ (proofing.link .a).streams = [] ∧
      proofing.disp.waiting = [] ∧ proofing.lane .l0 = .decoding proofA .recordRead ∧ proofA.link = .a ∧
      proofing.lane .l1 = .idle ∧ proofing.lane .l2 = .idle ∧ proofing.lane .l3 = .idle ∧
      proofing.disp.queues.get .l0 = [] ∧ proofing.dir.listings = [] ∧ (proofing.page proofA.page).isSome = true ∧
      proofing.ctl.burst = some (laneRead true) ∧ (laneRead true).client = some (.lane .l0) ∧
      (intaking.intake .a).page = some 1 ∧ intaking.page 1 = some (pg .filling) ∧ (pg .filling).origin = .a ∧
      ((intaking.intake .a).slots.get .s0).state = .filling ∧ ((intaking.intake .a).slots.get .s0).page = some 1 ∧
      ({ withPage (pg .sealed) ready with dir := { (withPage (pg .sealed) ready).dir with listings := [lst 1] } } :
        State).dir.listings = [lst 1] ∧ (lst 1).link = .a ∧
      (withPage (pg .sealed) ready).page (lst 1).page = some (pg .sealed) := by decide +kernel

/-- Link A, to which a copy stream of page 1 goes, has a burst of it in progress, and its ended record read was signalled. -/
def streamingA : State := { onA (fun c => { c with streams := [⟨5, .copy, 1, 1, 0, 1, none, 0, none, 0, 0⟩] })
    (withPage { pg .sealed with streamRefs := 1 } (withEnd (.copy .a 5) (recWords storedRec true) ready)) with
  ctl := { ready.ctl with burst := some ⟨.stream .a, 0, .read 0 false, none, true⟩ } }

/-- R182: link reset aborts the link's streams. Their bursts serve no one, the refs of their pages fall, a failure
signalled on a read that no end step will take counts no damage event (log 61), and the other link stands. -/
theorem test_linkReset_aborts_its_streams :
    let t := after (.linkReset .a) streamingA
    (streamingA.link .a).streams ≠ [] ∧ t.page 1 = some (pg .sealed) ∧ t.ctl.burst.map (·.live) = some false ∧
      t.arb.tableEnds = [] ∧ t.link .b = streamingA.link .b := by decide +kernel

/-- The link just after a link reset that failed its page, the reset sequence over. -/
def justReset : State := after (.linkResetSequenceEnd .a) (after (.linkReset .a) intaking)

theorem witness_LinkReset_again :
    (justReset.link .a).resetting = false ∧ (justReset.intake .a).page = none ∧
      (justReset.link .a).sending = some (.notice (.pageFailed 1 .linkReset)) ∧ (justReset.link .a).out = [] ∧
      justReset.link .a = { LinkCtl.initial with sending := some (.notice (.pageFailed 1 .linkReset)) } ∧
      (ready.link .a).sending = none := by decide +kernel

/-- R182: a second reset right after the first keeps the PAGE FAILED that the first placed. -/
theorem test_linkReset_again_keeps_page_failed :
    ((after (.linkReset .a) justReset).link .a).sending = some (.notice (.pageFailed 1 .linkReset)) := by decide +kernel

/-! ## Admission and the settings -/

def ruleF (n action target : Nat) : Frame := fr 11 [n, 1, 6, 3, 255, 255, 255, 255, 1, action, target]

theorem witness_SetRule :
    (rx (ruleF 8 4 2) ready).offers .a 11 (ruleF 8 4 2) = true ∧ (ruleF 8 4 2).body.length = 11 ∧
      7 < field 0 1 (ruleF 8 4 2).body ∧ 4 < field 9 1 (ruleF 7 5 2).body ∧ 2 < field 10 1 (ruleF 7 4 3).body ∧
      (rx (ruleF 7 4 2) ready).offers .a 11 (ruleF 7 4 2) = true ∧ field 0 1 (ruleF 7 4 2).body < 8 ∧
      field 1 1 (ruleF 7 4 2).body ≤ 1 ∧ field 2 1 (ruleF 7 4 2).body ≤ 6 ∧ field 3 1 (ruleF 7 4 2).body ≤ 3 ∧
      field 8 1 (ruleF 7 4 2).body ≤ 1 ∧ field 9 1 (ruleF 7 4 2).body ≤ 4 ∧
      field 10 1 (ruleF 7 4 2).body ≤ 2 := by decide +kernel

/-- Rule 0 leads a group with rule 1; rule 2 leads the next. -/
def groupRules (second : Bool) : Vector Rule 8 :=
  (((Vector.replicate 8 Rule.initial).set 0 ⟨true, .width, .eq, 2, 65535, true, .refuse, none⟩).set 1
    ⟨second, .height, .gt, 2, 65535, false, .cls 1, none⟩).set 2
      ⟨true, .components, .lt, 5, 65535, false, .cls 2, some .b⟩

theorem witness_FirstMatchingGroup :
    ({ ready.adm with rules := groupRules false } : Admission).classify .a (OpenFields.of (openF 1 4 7).body) =
        .refuse ∧
      ({ ready.adm with rules := groupRules true } : Admission).classify .a (OpenFields.of (openF 1 4 7).body) =
        .accept 2 (some .b) ∧
      ({ ready.adm with defaultClass := 0 } : Admission).classify .a (OpenFields.of (openF 1 4 7).body) = .refuse ∧
      ready.adm.classify .b (OpenFields.of (openF 1 4 7).body) = .accept 3 none := by decide +kernel

theorem witness_DefaultClass_RunLimit :
    (rx (fr 12 [4]) ready).offers .a 12 (fr 12 [4]) = true ∧ field 0 1 (fr 12 [4]).body ≤ 4 ∧
      4 < field 0 1 (fr 12 [5]).body ∧ (fr 12 [5]).body.length = 1 ∧
      (rx (fr 16 [0]) ready).offers .a 16 (fr 16 [0]) = true ∧ field 0 1 (fr 16 [0]).body = 0 ∧
      32 < field 0 1 (fr 16 [33]).body ∧ ¬ 32 < field 0 1 (fr 16 [32]).body := by decide +kernel

def markF (lw hw k : Nat) : Frame := fr 14 [0, lw, 0, hw, k]

theorem witness_SetWatermarks :
    (rx (markF 4 5 16) ready).offers .a 14 (markF 4 5 16) = true ∧ 15 < field 4 1 (markF 4 5 16).body ∧
      field 4 1 (markF 4 5 15).body ≤ 15 ∧ ready.adm.freeCount = 3 ∧ ready.adm.mode = .normal ∧
      max (min (field 2 2 (markF 0 3 0).body) (ready.size.extents - 256)) 0 ≤ 3 ∧
      3 < max (min (field 2 2 (markF 4 5 1).body) (ready.size.extents - 256)) 4 ∧
      3 < min (field 0 2 (markF 4 5 1).body) (ready.size.extents - 256) ∧ 0 < field 4 1 (markF 4 5 1).body ∧
      field 4 1 (markF 4 5 0).body = 0 ∧ min (field 0 2 (markF 3 5 0).body) (ready.size.extents - 256) ≤ 3 := by
  decide +kernel

theorem witness_Reports :
    ready.adm.mode = .normal ∧ (0 : Nat) < ({ ready.adm with lw := 1 } : Admission).lw ∧
      0 < ({ ready.adm with k := 1 } : Admission).k ∧ ready.adm.k = 0 ∧ ready.adm.lw ≤ 0 ∧ ready.adm.hw ≤ 1 ∧
      (0 : Nat) < ready.adm.hw ∧ ({ ready.adm with mode := .low, admits := 2 } : Admission).mode = .low ∧
      (1 : Nat) < ({ ready.adm with mode := .low, admits := 2 } : Admission).admits ∧
      ({ ready.adm with mode := .low, admits := 1 } : Admission).admits = 1 ∧
      ({ ready.adm with mode := .closed } : Admission).mode = .closed := by decide +kernel

def laneF (bits entry : Nat) : Frame := fr 13 (bits :: List.replicate 32 entry)

theorem witness_SetLaneTable :
    (rx (laneF 6 3) ready).offers .a 13 (laneF 6 3) = true ∧ (laneF 6 3).body.length = 33 ∧
      5 < field 0 1 (laneF 6 3).body ∧ field 0 1 (laneF 0 3).body = 0 ∧
      3 < field (1 + 31) 1 (laneF 5 4).body ∧ field 0 1 (laneF 5 3).body ≤ 5 ∧
      (List.range 32).all (fun i => decide (field (1 + i) 1 (laneF 5 3).body ≤ 3)) = true := by decide +kernel

theorem witness_SetPress :
    (rx (fr 15 [1, 64, 16]) ready).offers .a 15 (fr 15 [1, 64, 16]) = true ∧
      1 < field 0 1 (fr 15 [2, 64, 16]).body ∧ 64 < field 1 1 (fr 15 [1, 65, 16]).body ∧
      16 < field 2 1 (fr 15 [1, 64, 17]).body ∧ field 1 1 (fr 15 [1, 0, 16]).body = 0 ∧
      field 0 1 (fr 15 [1, 64, 16]).body ≤ 1 ∧ field 1 1 (fr 15 [1, 64, 16]).body ≤ 64 ∧
      field 2 1 (fr 15 [1, 64, 16]).body ≤ 16 ∧ field 1 1 (fr 15 [0, 1, 2]).body < field 2 1 (fr 15 [0, 1, 2]).body := by
  decide +kernel

/-! ## The coding lanes -/

/-- A lane in a state. -/
def withLane0 (v : LaneState) (s : State) : State :=
  { s with disp := { s.disp with lanes := ⟨v, .idle, .idle, .idle⟩ } }

def encJob : Job := ⟨1, 0, 0, 3, .slot .a .s0, .l0, 0⟩
def encRun : EncodeRun := ⟨.coding, ctx2, 0, [], 0, none, none, 0⟩

theorem witness_ReadBandDecoded :
    (offering (bandF 0 0) (pg .sealed)).offersLong .a 6 (bandF 0 0) = true ∧ field 5 1 (bandF 0 0).body = 0 ∧
      (offering (bandF 0 0) (pg .sealed)).page (field 0 2 (bandF 0 0).body) = some (pg .sealed) ∧
      field 2 2 (bandF 0 0).body < (pg .sealed).b ∧ field 4 1 (bandF 0 0).body < (pg .sealed).c ∧
      ready.disp.waiting = [] ∧ 1 = (5 * 1 + 3 * 0 + 0) % 32 % 2 ^ ready.disp.tableBits ∧
      ready.lane ready.disp.table[1] = .idle ∧ ready.disp.queues.get ready.disp.table[1] = [] ∧
      ready.disp.allPending = [] ∧
      (withLane0 (.decoding (proofJob .l0) .recordRead) ready).lane .l0 ≠ .idle ∧
      (List.replicate 7 (proofJob .l0)).length < 8 ∧
      (({ ready with ctl := { ready.ctl with burst := some (laneRead false) } } : State).stillMade (.lane .l0)) = true ∧
      ready.stillMade (.lane .l0) = false := by decide +kernel

theorem witness_LanesTake :
    ready.lane .l0 = .idle ∧
      ({ Dispatcher.initial with queues := ⟨[encJob], [], [], []⟩ } : Dispatcher).queues.get .l0 ≠ [] ∧
      (withLane0 (.encoding encJob encRun) ready).lane .l0 ≠ .idle ∧ ready.disp.allPending = [] ∧
      8 ≤ (List.replicate 8 encJob).length ∧ (List.replicate 7 encJob).length < 8 ∧
      encJob ∈ ({ Dispatcher.initial with pendings := ⟨⟨[encJob], []⟩, ⟨[], []⟩⟩ } : Dispatcher).allPending ∧
      encJob.lane = .l0 ∧ (withPage (pg .coding) ready).page encJob.page = some (pg .coding) ∧
      encJob.source = .slot .a .s0 ∧ (proofJob .l0).source = .request .b 9 4 ∧
      (5 * (pg .coding).id + 3 * 0 + 0) % 32 % 2 ^ ready.disp.tableBits = 1 := by decide +kernel

/-- An idle lane with two jobs of its queue, the second of the lower class. -/
theorem test_lane_takes_the_lower_class :
    let s : State := { withPage (pg .coding) ready with
      disp := { ready.disp with queues := ⟨[encJob, { encJob with comp := 1, cls := 1, arrival := 1 }], [], [], []⟩ } }
    ((s.laneTake .l0).lane .l0).job.map (·.comp) = some 1 ∧ (s.laneTake .l0).disp.queues.get .l0 = [encJob] ∧
      (s.laneTake .l0).dir.pages.map (·.work) = [1] := by decide +kernel

theorem witness_EncodedBand_StoredRecord :
    (withLane0 (.encoding encJob encRun) (withPage (pg .coding) ready)).lane .l0 = .encoding encJob encRun ∧
      encRun.phase ≠ .recording ∧ encRun.left = 0 ∧ encRun.out = [] ∧
      (withPage (pg .coding) ready).page encJob.page = some (pg .coding) ∧ (pg .filling).state = .filling ∧
      (pg .failed).state ≠ .filling ∧ (pg .failed).state ≠ .coding ∧ ready.disp.queues.get .l0 = [] ∧
      encJob.source = .slot .a .s0 ∧ ({ encRun with phase := .recording } : EncodeRun).phase = .recording ∧
      (withEnd (.lane .l0) [] ready).arb.tableEnds.find? (fun e => e.op.client == .lane .l0) =
        some (ended (.lane .l0) []) ∧ (pg .coding).stored + 1 = (pg .coding).b * (pg .coding).c ∧
      ¬ (({ pg .coding with b := 2 } : Page).stored + 1 = 2 * 1) := by decide +kernel

/-- The last ENCODE job of a slot of link A, with hold in force there. -/
def holding : State := { withLane0 (.encoding encJob { encRun with phase := .recording })
    (withPage (pg .coding) (withEnd (.lane .l0) [] ready)) with
  intakes := ⟨{ Intake.initial with slots := ⟨⟨.waiting, some 1, some 0, 2, 1⟩, Slot.initial⟩, hold := true },
    Intake.initial⟩ }

/-- R56, R58: the job end that empties a slot while hold is in force places RESUME. -/
theorem test_job_end_places_resume :
    let t := after (.bandRecordWriteEnd .l0) holding
    ((holding.intake .a).slots.get .s0).jobs ≤ 1 ∧ (holding.intake .a).hold = true ∧ (t.intake .a).hold = false ∧
      ((t.intake .a).slots.get .s0).state = .empty ∧ (t.link .a).holds (.notice .resume) = true := by decide +kernel

/-- An output chain that ends at extent 256. -/
def outMap (pool : List Nat) : ExtentMap := ⟨[(256, ⟨.last, 1, .payload 0 true⟩)], pool⟩

theorem witness_EncodedBand_runs :
    256 ≤ ({ encRun with out := List.replicate 256 true } : EncodeRun).out.length ∧ encRun.left = 0 ∧
      ({ encRun with out := [true] } : EncodeRun).out ≠ [] ∧ encRun.taken ≤ encRun.words / 16384 ∧
      ({ encRun with taken := 1 } : EncodeRun).words / 16384 < 1 ∧ ready.map.pool = 256 :: [257, 258] ∧
      encRun.last = none ∧ ({ encRun with last := some 256 } : EncodeRun).last = some 256 ∧
      (outMap [257]).entry 256 = some ⟨.last, 1, .payload 0 true⟩ ∧ (outMap []).pool = [] ∧
      (laneRead true).access = .read (recordMask 0 1) true ∧ encJob.source = .slot .a .s0 ∧
      [(⟨0, true⟩ : ReadWord)].any ReadWord.bad = true ∧ (pg .filling).canFail = true ∧ (pg .failed).canFail = false ∧
      FailCause.storeParity ≠ .linkReset ∧ ready.disp.queues.get .l0 = [] := by decide +kernel

theorem witness_ProofRecord :
    (withLane0 (.decoding (proofJob .l0) .recordRead) (withPage (pg .sealed) ready)).lane .l0 =
        .decoding (proofJob .l0) .recordRead ∧ (proofJob .l0).source = .request .b 9 4 ∧
      (withPage (pg .sealed) ready).page (proofJob .l0).page = some (pg .sealed) ∧
      (withEnd (.lane .l0) (recWords storedRec true) ready).arb.tableEnds.find?
        (fun e => e.op.client == .lane .l0) = some (ended (.lane .l0) (recWords storedRec true)) ∧
      (recordWords 0 (recWords storedRec true)).1.bad = true ∧
      (BandRecord.ofWords (recordWords 0 (recWords pendingRec false)).1.word
        (recordWords 0 (recWords pendingRec false)).2.word).state = .pending ∧
      BandRecord.ofWords (recordWords 0 (recWords storedRec false)).1.word
        (recordWords 0 (recWords storedRec false)).2.word = storedRec ∧ 0 < (pg .sealed).w ∧
      0 < (withPage (pg .sealed) ready).rowsOf (pg .sealed) 0 ∧ 0 < (ready.profileOf (pg .sealed)).d ∧
      0 < storedRec.words ∧
      (ExtentMap.mk [(300, ⟨.last, 1, .payload 0 true⟩)] []).openChain 1 0 300 = some 300 ∧
      (ExtentMap.mk [(300, ⟨.last, 2, .payload 0 true⟩)] []).openChain 1 0 300 = none ∧
      ({ storedRec with words := 0 } : BandRecord).words = 0 ∧ ready.disp.queues.get .l0 = [] := by decide +kernel

def decoderAt (row : Nat) : Decoder := ⟨{ ctx2 with form := .coded, row := row }, 1, 0, some 300, []⟩
def rowF : OutFrame := .proofRow 4 1 0 0 0 0 .highFirst [1, 2]

theorem witness_ProofRows :
    (withLane0 (.decoding (proofJob .l0) (.rows storedRec (decoderAt 1) [rowF])) ready).lane .l0 =
        .decoding (proofJob .l0) (.rows storedRec (decoderAt 1) (rowF :: [])) ∧
      (ready.link .b).hasPlace = true ∧ [Waiter.lane .l0].head? = some (.lane .l0) ∧
      [rowF] = rowF :: [] ∧ (decoderAt 0).ctx.row < (decoderAt 0).ctx.hr ∧
      (decoderAt 0).runRow.2 = .needWords ∧ (decoderAt 1).ctx.hr ≤ (decoderAt 1).ctx.row ∧
      (LinkCtl.place rowF { LinkCtl.initial with sending := some rowF, out := List.replicate 23 rowF }).hasPlace =
        false ∧ (proofJob .l0).source = .request .b 9 4 ∧
      ({ decoderAt 0 with ext := none } : Decoder).runRow.2 = .failed .stream ∧
      ({ decoderAt 0 with buf := [none] } : Decoder).runRow.2 = .failed .parity ∧
      rawDec.runRow.2 = .rowDone ∧ rawDec.runRow.1.lastRow = some [5, 255] ∧ [5, 255] ≠ ([] : List Nat) ∧
      rawDec.ctx.row < rawDec.ctx.hr ∧ (withPage (pg .sealed) ready).page (proofJob .l0).page = some (pg .sealed) ∧
      rawDec.runRow.1.ctx.row = rawDec.ctx.row + 1 ∧ (ready.link .b).waiters = [] ∧
      LinkCtl.placeRows .l0 [] (ready.link .b) = ([], ready.link .b) ∧
      (LinkCtl.placeRows .l0 [rowF] { LinkCtl.initial with waiters := [.lane .l1] }).1 = [rowF] := by decide +kernel

/-! ## The intake -/

/-- A PIXELS frame of page 1: `count` pixels from `offset`, `n` container bytes. -/
def pixF (offset count n : Nat) : Frame := fr 2 ([0, 1, 0, 0, 0, offset, 0, count] ++ List.replicate n 3)

/-- Link A fills page 1. -/
def filling (k : Intake) (p : Page) (f : Frame) : State :=
  { offering f p with intakes := ⟨{ k with page := some 1 }, Intake.initial⟩ }

def writing : FrameWriting := ⟨1, 0, 4, 0, false, []⟩
def row1 : FrameWriting := ⟨1, 0, 2, 1, false, []⟩
def intakeBurst : Burst := ⟨.intake .a, 0, .write [1] 15, none, true⟩

theorem witness_PixelsRefused :
    (filling Intake.initial (pg .filling) (pixF 0 4 8)).offers .a 2 (pixF 0 4 8) = true ∧
      8 ≤ (pixF 0 0 0).body.length ∧ ({ Intake.initial with frame := some writing } : Intake).frame ≠ none ∧
      Intake.initial.frame = none ∧ Intake.initial.waiting = [] ∧
      (filling Intake.initial (pg .filling) (pixF 0 4 8)).page 2 = none ∧ (pg .coding).state ≠ .filling ∧
      (pg .filling).nextPixel ≠ some (field 2 4 (pixF 1 1 2).body) ∧
      (pg .filling).w * (pg .filling).ht < field 2 4 (pixF 0 5 10).body + field 6 2 (pixF 0 5 10).body ∧
      ((pixF 0 4 7).body.drop 8).length ≠ 2 * 1 * 4 ∧
      ({ Slot.initial with state := .waiting } : Slot).state ≠ .empty := by decide +kernel

/-- What the check of a PIXELS frame at the head of link A's buffer finds. -/
def checking (f : Frame) : State :=
  let s := filling Intake.initial (pg .filling) f
  { s with links := s.links.set .a (s.link .a).took }

theorem witness_PixelsChecked :
    (checking (pixF 0 4 8)).page (field 0 2 (pixF 0 4 8).body) = some (pg .filling) ∧
      ((checking (pixF 0 4 8)).intake .a).page = some (pg .filling).id ∧ (pg .filling).state = .filling ∧
      checking (pixF 0 4 8) = (let s := filling Intake.initial (pg .filling) (pixF 0 4 8)
        { s with links := s.links.set .a (s.link .a).took }) ∧
      (pg .filling).nextPixel ≠ some (field 2 4 (pixF 1 1 2).body) := ⟨by decide, by decide, rfl, rfl, by decide⟩

theorem witness_PixelsTaken :
    (filling Intake.initial (pg .filling) (pixF 0 4 8)).page (field 0 2 (pixF 0 4 8).body) = some (pg .filling) ∧
      (filling Intake.initial (pg .filling) (pixF 0 4 8)).intakes.a.page = some (pg .filling).id ∧
      field 6 2 (pixF 0 0 0).body = 0 ∧ 0 < field 6 2 (pixF 0 4 8).body ∧
      (pg .filling).nextPixel = some (field 2 4 (pixF 0 4 8).body) ∧
      field 2 4 (pixF 0 4 8).body + field 6 2 (pixF 0 4 8).body ≤ (pg .filling).w * (pg .filling).ht ∧
      ((pixF 0 4 8).body.drop 8).length = 2 * (pg .filling).c * field 6 2 (pixF 0 4 8).body ∧
      (Intake.initial.slots.get Intake.initial.fill).state = .empty ∧
      (Intake.initial.slots.get Intake.initial.fill.other).state = .empty := by decide +kernel

theorem witness_FrameWrites : (4 : Nat) ≤ 5 ∧ (∀ v ∈ [0, 65535], v < 65536) ∧
    (frameWrites .a .s0 1 3 2 [7, 8, 9] 3).length = 2 := by decide +kernel

theorem witness_WrittenFrames :
    ({ Intake.initial with frame := some writing } : Intake).frame = some writing ∧ writing.writes = [] ∧
      writing.void = false ∧ ({ writing with void := true } : FrameWriting).void = true ∧
      (filling Intake.initial (pg .filling) (pixF 0 4 8)).page writing.page = some (pg .filling) ∧
      (filling Intake.initial (pg .filling) (pixF 0 4 8)).rowsOf (pg .filling) 0 = 2 ∧
      row1.offset + row1.count < (0 * 16 + 2) * (pg .filling).w ∧
      writing.offset + writing.count = (0 * 16 + 2) * (pg .filling).w ∧
      (filling Intake.initial (pg .filling) (pixF 0 4 8)).lanesTaken = true ∧
      (filling Intake.initial { pg .filling with ht := 20 } (pixF 0 4 8)).rowsOf { pg .filling with ht := 20 } 0 = 16 ∧
      (0 * 16 + 16) * 2 < 0 + 33 ∧ 0 + 33 < ((0 + 1) * 16 + min 16 (20 - (0 + 1) * 16)) * 2 ∧
      0 + 40 = ((0 + 1) * 16 + min 16 (20 - (0 + 1) * 16)) * 2 ∧ Intake.initial.waiting = [] ∧
      Intake.initial.frame = none ∧ ({ Intake.initial with waiting := [⟨7, []⟩] } : Intake).waiting = ⟨7, []⟩ :: [] ∧
      (frameWrites .a .s0 1 0 4 [1, 2, 3, 4] 4).length = 1 ∧ intakeBurst.req = .intake .a ∧
      intakeBurst.live = true := by decide +kernel

theorem witness_PageFailure :
    (withPage (pg .sealed) ready).page 1 = some (pg .sealed) ∧ (pg .sealed).state ≠ .opening ∧
      (pg .sealed).state ≠ .filling ∧ (pg .sealed).state ≠ .coding ∧ (pg .opening).state = .opening ∧
      (pg .filling).state = .filling ∧ (pg .coding).state = .coding := by decide +kernel

/-! ## The press feed -/

def ent (active : Bool) (copies : Nat) : PrintEntry := ⟨0, 1, copies, .b, active⟩
/-- Page 1 is CODING with an ENCODE job of link A's first slot and a PROOF job of link B waiting, and link A on hold. -/
def removing : State := { onA (fun c => { c with rx := [fr 3 [0, 1]] }) (withPage (pg .coding) ready) with
  disp := { Dispatcher.initial with queues := ⟨[⟨1, 0, 0, 3, .slot .a .s0, .l0, 0⟩, proofJob .l0], [], [], []⟩ }
  nextTicket := 10
  intakes := ⟨{ Intake.initial with hold := true, slots := ⟨⟨.waiting, some 1, some 0, 2, 1⟩, Slot.initial⟩ },
    Intake.initial⟩
  press := { PressFeed.initial with schedule := [ent false 1, { ent false 1 with link := .a }] } }

/-- The same with the PROOF request outstanding on link B and the entries out of the schedule. -/
def removingB (schedule : List PrintEntry) : State :=
  let s := { removing with press := { removing.press with schedule := schedule } }
  { s with links := { s.links with b := { s.links.b with long := [⟨9, 6, 4⟩] } } }

theorem witness_RemovedWork :
    let s := removingB []
    s.offersLong .a 3 (fr 3 [0, 1]) = true ∧ s.page 1 = some (pg .coding) ∧ (s.intake .a).hold = true ∧
      ((after (.retirePage .a) s).intake .a).hold = false ∧
      proofJob .l0 ∈ s.disp.waiting.filter (fun j => j.page == 1) ∧
      (s.link .b).long.find? (fun q => q.ticket == 9) = some ⟨9, 6, 4⟩ ∧
      ((after (.retirePage .a) s).link .a).placed (.notice .resume) = 1 ∧
      (pg .coding).state = .coding ∧
      let u := removingB removing.press.schedule
      ((u.failPage 1 .storeParity).intake .a).hold = false ∧ (∃ e ∈ u.press.schedule, e.page = 1) ∧
      ((u.failPage 1 .storeParity).link .b).noticesDiscarded = (u.link .b).noticesDiscarded ∧
      (u.link .b).noticesDiscarded < 65535 ∧
      ((u.failPage 1 .storeParity).link .b).placed (.notice (.printDropped 1)) = 1 := by
  refine ⟨by decide +kernel, by decide +kernel, by decide +kernel, by decide +kernel, by decide +kernel,
    by decide +kernel, by decide +kernel, by decide +kernel, by decide +kernel,
    ⟨ent false 1, by decide +kernel, rfl⟩, by decide +kernel, by decide +kernel, by decide +kernel⟩

def sheet1 : SheetId := ⟨0, 1⟩
def pos1 : DecPos := ⟨sheet1, 1, .b, 0, 0⟩
def fifoLine : FifoLine := ⟨sheet1, 0, [1]⟩

/-- The press feed with entry 0 of page 1 at the head. -/
def feed (st : PressState) : PressFeed :=
  { PressFeed.initial with schedule := [ent true 1], nextSerial := 1, state := st, decState := .decoding, pos := some pos1
                           latches := [⟨sheet1, ⟨.interleaved, 2, 2⟩⟩], fifo := [fifoLine] }

def withPress (f : PressFeed) (s : State) : State := { s with press := f }
def printing (st : PressState) : State := withPress (feed st) (withPage { pg .sealed with printRefs := 1 } ready)

theorem witness_PressTests :
    (printing .sheet).press.state = .sheet ∧ ready.press.state ≠ .sheet ∧ ready.press.schedule = [] ∧
      (printing .ready).press.schedule.head? = some (ent true 1) ∧
      (printing .ready).page (ent true 1).page = some { pg .sealed with printRefs := 1 } ∧
      (pg .filling).state ≠ .sealed ∧ ready.press.latches.find? (fun l => l.sheet == sheet1) = none ∧
      (printing .ready).press.latches.find? (fun l => l.sheet == sheet1) =
        some ⟨sheet1, ⟨.interleaved, 2, 2⟩⟩ := by decide +kernel

def comp0 : PressComp := .decoding storedRec (decoderAt 0)

theorem witness_PressDecoder :
    (printing .preroll).press.pos = some pos1 ∧
      (printing .preroll).page pos1.page = some { pg .sealed with printRefs := 1 } ∧
      65536 - 65535 < (4 * 1 + 1) / 2 ∧ (2 * 1 + 1) / 2 ≤ 65536 - ((printing .preroll).press.fifo.map
        fun l => l.words.length).sum ∧ 0 < (pg .sealed).c ∧ [comp0][0]? = some (.decoding storedRec (decoderAt 0)) ∧
      (decoderAt 0).runRow.2 = .needWords ∧ pos1.sheet.copy = 1 ∧
      [PressComp.held [0, 0]] = [[0, 0]].map PressComp.held ∧ [[0, 0]].length = (pg .sealed).c ∧
      ({ feed .preroll with owedRef := some 1 } : PressFeed).owedRef = some 1 := by decide +kernel

def printF (copies : Nat) : Frame := fr 4 [0, 1, copies]

theorem witness_Print :
    (offering (printF 0) (pg .opening)).offers .a 4 (printF 0) = true ∧ (printF 0).body.length = 3 ∧
      field 2 1 (printF 0).body = 0 ∧ field 2 1 (printF 255).body = 255 ∧ ready.page 1 = none ∧
      (offering (printF 0) (pg .opening)).page (field 0 2 (printF 0).body) = some (pg .opening) ∧
      (pg .failed).state = .failed ∧ (pg .retiring).state = .retiring ∧ (pg .opening).state ≠ .failed ∧
      16 ≤ (List.replicate 16 (ent false 1)).length ∧ (List.replicate 15 (ent false 1)).length < 16 := by
  decide +kernel

def cancelF : Frame := fr 5 [0, 1]

theorem witness_CancelPrint :
    (rx cancelF (printing .sheet)).offers .a 5 cancelF = true ∧ cancelF.body.length = 2 ∧
      ready.press.schedule = [] ∧ ent true 1 ∈ (printing .sheet).press.schedule ∧
      (printing .sheet).press.schedule.tail = [] ∧
      (printing .ready).press.schedule.find? (fun q => q.page == field 0 2 cancelF.body) = some (ent true 1) ∧
      (ent true 1).active = true ∧ (ent false 1).active = false ∧ (printing .ready).press.decState ≠ .waitSeal ∧
      ({ feed .idle with decState := .waitSeal } : PressFeed).decState = .waitSeal ∧
      pos1.sheet.serial = (ent false 1).serial ∧
      (∃ q ∈ [ent false 1], q.serial = pos1.sheet.serial) := by decide +kernel

theorem witness_PressRecords :
    (withEnd .press (recWords storedRec false) (printing .preroll)).arb.tableEnds.find?
        (fun e => e.op.client == .press) = some (ended .press (recWords storedRec false)) ∧
      (recordWords 0 (recWords storedRec false)).1.bad = false ∧
      (BandRecord.ofWords (recordWords 0 (recWords storedRec false)).1.word
        (recordWords 0 (recWords storedRec false)).2.word).state ≠ .pending ∧
      (recordWords 0 (recWords pendingRec true)).1.bad = true := by decide +kernel

theorem witness_PressRows :
    ({ feed .preroll with row := some [] } : PressFeed).row = some [] ∧ [comp0][0]? = some (.decoding storedRec (decoderAt 0)) ∧
      [PressComp.held [0, 0]][0]? = some (.held [0, 0]) ∧ (decoderAt 0).runRow.2 = .needWords ∧
      rawDec.runRow.2 = .rowDone ∧ rawDec.runRow.1.ctx.hr ≤ rawDec.runRow.1.ctx.row ∧
      ({ decoderAt 0 with ext := none } : Decoder).runRow.2 = .failed .stream ∧
      (printing .preroll).press.pos = some pos1 ∧
      (printing .preroll).page pos1.page = some { pg .sealed with printRefs := 1 } ∧ storedRec.state = .stored ∧
      ({ storedRec with state := .damaged } : BandRecord).state ≠ .stored := by decide +kernel

theorem witness_PressLines :
    ({ feed .preroll with row := some [[1, 2]] } : PressFeed).row = some [[1, 2]] ∧
      (feed .preroll).pos = some pos1 ∧ [[1, 2]].length = (pg .sealed).c ∧
      pos1.row + 1 < (printing .preroll).rowsOf (pg .sealed) pos1.band ∧
      ¬ 1 + 1 < (printing .preroll).rowsOf (pg .sealed) pos1.band ∧ ¬ pos1.band + 1 < (pg .sealed).b ∧
      (feed .preroll).row = none ∧ (printing .preroll).arb.pressUrgent = false ∧
      (printing .preroll).arb.tableEnds = [] ∧ ready.press.pos = none ∧
      ((feed .preroll).fifo.map fun l => l.words.length).sum + fifoLine.words.length ≤ 65536 ∧
      65535 + fifoLine.words.length ≤ 65536 ∧ 0 < ({ feed .preroll with skip := 1 } : PressFeed).skip := by
  decide +kernel

/-- A raw page of one band whose row takes one burst, in SHEET with the urgent level 2: the PRESS burst of row 0 ends. -/
def pressing (fifo : List FifoLine) (urgent : Bool) : State :=
  { withPress { feed .sheet with
      fifo := fifo, row := some []
      comps := [.decoding storedRec ⟨Context.fresh Profile.initial 32 2 .raw, 16, 0, some 300, []⟩] }
      (withPage { pg .sealed with w := 32, printRefs := 1 } ready) with
    store := ⟨(List.range 32).map fun i => (4 * 300 * 16384 + i, 0),
      (List.range 32).map fun i => (4 * 300 * 16384 + i, false)⟩
    ctl := { ready.ctl with burst := some ⟨.press, 300 * 16384, .read 0xFFFFFFFF true, none, true⟩ }
    arb := { ready.arb with grant := if urgent then .urgent .press else .run .press, pressUrgent := urgent } }

/-- 8.8: the burst that completes a line of an urgent press ends with PRESS waiting for its next row: URGENT goes on
while the FIFO holds fewer than U lines, and a RUN begins when it holds U. -/
theorem test_urgent_press_finishes_its_line_before_the_decision :
    let one := after (.burstEnd []) (pressing [] true)
    let two := after (.burstEnd []) (pressing [fifoLine] true)
    one.arb.grant = .urgent .press ∧ one.ctl.burst.map (·.addr) = some (300 * 16384 + 8) ∧
      one.press.fifo.map (·.row) = [0] ∧ two.arb.grant = .run .press ∧ two.press.fifo.length = 2 ∧
      two.ctl.burst.map (·.addr) = some (300 * 16384 + 8) := by decide +kernel

/-- R63: READ STATUS reports the next pixel of the link's intake page, and none where the link has none. -/
theorem test_readStatus_reports_the_next_pixel :
    let s := rx (fr 8 []) { intaking with dir := { intaking.dir with pages := [{ pg .filling with nextPixel := some 3 }] } }
    let t := after (.readStatus .a) s
    t.link .a = ((s.link .a).took.place (.reply 8 (fr 8 []).tag (.done (.status (s.status .a))))) ∧
      (s.status .a).nextPixel = some 3 ∧ (s.status .b).nextPixel = none := by decide +kernel

/-- R134: a RUN of PRESS below M goes on over the end of a line, for the next row has room. -/
theorem test_a_press_run_goes_on_over_the_end_of_a_line :
    let s : State := { pressing [fifoLine, fifoLine] false with arb := { (pressing [] false).arb with count := 1 } }
    let t := after (.burstEnd []) s
    t.press.fifo.length = 3 ∧ t.press.row = some [] ∧ t.arb.grant = .run .press ∧ t.arb.count = 2 ∧
      t.ctl.burst.map (·.addr) = some (300 * 16384 + 8) := by decide +kernel

/-- R148: a row that is complete outside a burst's end is finished by PRESS_LINE_FINISH, which begins the next row. -/
theorem test_pressLineFinish_begins_the_next_row :
    let s : State := { pressing [fifoLine, fifoLine] false with
      press := { (pressing [fifoLine, fifoLine] false).press with row := some [List.replicate 32 0] }
      ctl := ready.ctl, arb := ready.arb }
    let t := after .pressLineFinish s
    s.lineDue.isSome = true ∧ t.press.fifo.length = 3 ∧ t.press.row = some [] ∧ t.arb.grant = .run .press := by
  decide +kernel

/-- R132: a record read of an urgent press is taken before the decision that ends its burst. -/
theorem test_urgent_press_takes_its_records_before_the_decision :
    let s : State := { pressing [] true with
      press := { (pressing [] true).press with row := none, comps := [] }
      store := (Memory.mk [] []).writeBurst (300 * 16384) (recordData 0 { storedRec with mode := .raw }) 0xFFFFFFFF
      map := ⟨[(300, ⟨.last, 1, .payload 0 true⟩)], []⟩
      ctl := { ready.ctl with burst := some ⟨.table, 300 * 16384, .read 0xFF true, some .press, true⟩ }
      arb := { ready.arb with grant := .urgent .table, pressUrgent := true } }
    (after (.burstEnd []) s).arb.grant = .urgent .press ∧ (after (.burstEnd []) s).arb.tableEnds = [] ∧
      (after (.burstEnd []) s).press.row = some [] := by decide +kernel

/-- SHEET, one of the two lines of the head sheet delivered: the next LINE REQUEST takes its last. -/
def beforeLast (copies skip : Nat) : State := withPress { feed .sheet with
  schedule := [ent true copies], fifo := [⟨⟨0, copies⟩, 1, [1]⟩], delivered := 1, skip := skip }
    (withPage { pg .sealed with printRefs := 1 } ready)

/-- The last line of the head sheet is being sent. -/
def lastLine (copies skip : Nat) : State := after .lineRequest (beforeLast copies skip)

theorem witness_Sheets :
    ready.press.answers = [] ∧ (printing .ready).press.answers = [] ∧ (inState .resting ready).ctl.state = .resting ∧
      (inState .start ready).part = .starting ∧ (inState .waking ready).part = .waking ∧ ready.part = .ready ∧
      (inState .refreshing ready).part = .ready ∧ ready.press.state ≠ .ready ∧ ready.press.state ≠ .sheet ∧
      (printing .ready).press.state = .ready ∧ (printing .sheet).press.state = .sheet ∧
      (printing .sheet).press.schedule.head? = some (ent true 1) ∧
      (printing .sheet).page (ent true 1).page = some { pg .sealed with printRefs := 1 } ∧
      (printing .sheet).press.fifo = fifoLine :: [] ∧ fifoLine.sheet = ⟨(ent true 1).serial, (ent true 1).copies⟩ ∧
      ({ feed .sheet with fifo := [] } : PressFeed).fifo.head? = none ∧
      (printing .sheet).press.delivered + 1 < (pg .sealed).ht ∧ (printing .sheet).press.decState ≠ .waitRoom ∧
      (pg .sealed).ht ≤ (beforeLast 2 0).press.delivered + 1 ∧ (beforeLast 2 0).press.answers = [] ∧
      (beforeLast 2 0).part = .ready ∧ (beforeLast 2 0).press.state = .sheet ∧
      (beforeLast 2 0).press.schedule.head? = some (ent true 2) ∧ (beforeLast 1 1).press.skip = 1 ∧
      (beforeLast 1 0).press.fifo = [⟨⟨(ent true 1).serial, (ent true 1).copies⟩, 1, [1]⟩] ∧
      (beforeLast 1 0).press.skip = 0 ∧ 1 < (ent true 2).copies ∧ (ent true 1).copies ≤ 1 ∧ (printing .sheet).press.skip = 0 ∧
      0 < ({ feed .sheet with skip := 1 } : PressFeed).skip := by decide +kernel

theorem witness_PressSignals :
    ({ feed .sheet with answers := [.line [1]] } : PressFeed).answers ≠ [] ∧
      ({ feed .sheet with answers := [.line [1], .sheetDone 1 1] } : PressFeed).answers =
        .line [1] :: .sheetDone 1 1 :: [] ∧
      ({ feed .sheet with answers := [.notReady], signals := [.lineRequest] } : PressFeed).signals = [.lineRequest] ∧
      (∀ ws, Answer.notReady ≠ .line ws) ∧ (printing .sheet).press.delivered < (pg .sealed).ht ∧
      (feed .sheet).signals = [] ∧ (feed .sheet).state = .sheet ∧ (feed .ready).state ≠ .sheet ∧
      ready.ctl.state ≠ .resting ∧ (feed .sheet).counted = none ∧
      (lastLine 2 0).press.answers.head? = some (.line [1]) ∧ (lastLine 2 0).press.signals = [] ∧
      (lastLine 2 0).press.counted = some (ent true 2) ∧ 1 < (ent true 2).copies ∧
      (lastLine 1 0).press.counted = some (ent true 1) ∧ (ent true 1).copies ≤ 1 ∧
      (lastLine 1 0).press.schedule.length < 16 ∧ 16 ≤ (List.replicate 16 (ent false 1)).length ∧
      (lastLine 2 0).ctl.state ≠ .resting := by
  refine ⟨by decide, by decide, by decide, fun ws => by simp, ?_⟩
  decide +kernel

/-! ## Streams -/

def copySt (index : Nat) (r : Option BandRecord) : Stream := ⟨0, .copy, 1, 1, index, 1, r, 0, some 300, 0, 0⟩
def backSt : Stream := ⟨0, .readBack 0 7 true, 1, 1, 0, 1, some storedRec, 0, some 300, 0, 0⟩
def rread : RecordRead := ⟨0, 7, 1, 0, 0, true, false⟩

theorem witness_CompressedReadBand :
    (offering (bandF 1 0) (pg .sealed)).offersLong .a 6 (bandF 1 0) = true ∧ field 5 1 (bandF 1 0).body = 1 ∧
      (offering (bandF 1 0) (pg .sealed)).page (field 0 2 (bandF 1 0).body) = some (pg .sealed) ∧
      field 2 2 (bandF 1 0).body < (pg .sealed).b ∧ (pg .sealed).b ≤ field 2 2 (bandF 1 1).body ∧
      (withEnd (.readBand .a 0) (recWords storedRec false) ready).arb.tableEnds.find? (fun e => match e.op.client with
        | .readBand y _ => y == .a
        | _ => false) = some (ended (.readBand .a 0) (recWords storedRec false)) ∧
      [rread].find? (fun q => q.ticket == 0) = some rread ∧ ready.links.a.long = [] ∧
      (∃ l ∈ [LongReq.mk 0 6 7], l.ticket = 0) ∧ (withPage (pg .sealed) ready).page rread.page = some (pg .sealed) ∧
      rread.gone = false ∧ rread.check = true ∧ ({ rread with gone := true, check := false } : RecordRead).gone = true ∧
      ready.map.openChain 1 0 storedRec.first = none ∧
      (ExtentMap.mk [(300, ⟨.last, 1, .payload 0 true⟩)] []).openChain 1 0 storedRec.first = some 300 := by
  decide +kernel

theorem witness_Streams :
    (ready.link .a).filling = none ∧ (ready.link .a).hasPlace = true ∧ (ready.link .a).waiters = [] ∧
      [copySt 0 none] = [] ++ copySt 0 none :: [] ∧ (copySt 0 none).hasFrame = true ∧ (ready.link .a).turn = none ∧
      (copySt 0 none).record = none ∧ (withPage (pg .sealed) ready).page (copySt 0 none).page = some (pg .sealed) ∧
      backSt.record = some storedRec ∧ backSt.ext ≠ none ∧ [backSt].find? (fun q => q.serial == backSt.serial) =
        some backSt ∧ [(0 : Word)].length = min 4000 (storedRec.words - backSt.next) ∧
      storedRec.words ≤ backSt.next + [(0 : Word)].length ∧
      ({ storedRec with words := 4001 } : BandRecord).words - 0 ≥ 4000 ∧ 0 + 4000 < 4001 ∧
      backSt.kind = .readBack 0 7 true ∧ ({ backSt with ext := none } : Stream).next < storedRec.words ∧
      ([⟨1, false⟩, ⟨2, true⟩].take (min 8 (4000 - 0)) : List ReadWord) = [⟨1, false⟩] ++ ⟨2, true⟩ :: [] ∧
      ({ backSt with kind := .readBack 0 7 false } : Stream).kind = .readBack 0 7 false ∧
      (copySt 0 (some storedRec)).kind = .copy ∧ (copySt 0 (some storedRec)).record = some storedRec ∧
      (0 + 0 + 0) % 16384 = 0 ∧ ([] : List Word).length < min 4000 (storedRec.words - 0) := by decide +kernel

theorem witness_CopyStreams :
    (withEnd (.copy .a 0) (recWords pendingRec false) ready).arb.tableEnds.find? (fun e => match e.op.client with
        | .copy y _ => y == .a
        | _ => false) = some (ended (.copy .a 0) (recWords pendingRec false)) ∧
      [copySt 0 none].find? (fun q => q.serial == 0) = some (copySt 0 none) ∧ (copySt 0 none).kind = .copy ∧
      (copySt 0 none).next = 0 ∧ (BandRecord.ofWords (recordWords 0 (recWords pendingRec false)).1.word
        (recordWords 0 (recWords pendingRec false)).2.word).state = .pending ∧
      (ExtentMap.mk [(300, ⟨.last, 1, .payload 0 true⟩)] []).openChain 1 0 storedRec.first = some 300 ∧
      ready.map.openChain 1 0 storedRec.first = none ∧
      ({ LinkCtl.initial with filling := some ⟨0, []⟩ } : LinkCtl).filling.map Filling.serial = some 0 ∧
      (copySt 1 none).total ≤ (copySt 1 none).index ∧ [copySt 1 none] = [] ++ copySt 1 none :: [] := by decide +kernel

/-! ## The store controller and the arbiter -/

def op1 : TableOp := ⟨.press, 8, .read (recordMask 0 1) true⟩
def op2 : TableOp := ⟨.listing .a 0, 8, .read (recordMask 0 1) true⟩
def queued (urgent : Bool) (q : List TableOp) : State :=
  { ready with arb := { ready.arb with pressUrgent := urgent, tableQueue := q } }

/-- Link A fills a frame of a stream. -/
def streaming (st : Stream) (ws : List Word) : State :=
  onA (fun c => { c with streams := [st], filling := some ⟨0, ws⟩ }) ready

theorem witness_Presented :
    ready.lane .l0 = .idle ∧ (withLane0 (.encoding encJob encRun) ready).lane .l0 = .encoding encJob encRun ∧
      encRun.left = 0 ∧ encRun.out = [] ∧ run11.phase ≠ .recording ∧ run11.out = [] ∧ 0 < run11.left ∧
      run11.left % 2 = 1 ∧ encJob.source = .slot .a .s0 ∧
      ((outMap []).chainOf ({ encRun with first := some 256, out := [true] } : EncodeRun).first)[encRun.words / 16384]? =
        some 256 ∧
      (withLane0 (.decoding proofA .recordRead) ready).lane .l0 = .decoding proofA .recordRead ∧
      (decoderAt 0).ext = some 300 ∧ (decoderAt 0).fetched < (decoderAt 0).words ∧
      ({ decoderAt 0 with ext := none } : Decoder).ext = none ∧
      ({ decoderAt 0 with fetched := 1 } : Decoder).words ≤ ({ decoderAt 0 with fetched := 1 } : Decoder).fetched ∧
      ready.press.row = none ∧ [comp0][([] : List (List Nat)).length]? = some (.decoding storedRec (decoderAt 0)) ∧
      [comp0][[[0, 0]].length]? = none ∧ (ready.link .a).filling = none ∧
      ((streaming backSt []).link .a).filling = some ⟨0, []⟩ ∧
      ((streaming backSt []).link .a).streams.find? (fun st => st.serial == 0) = some backSt ∧
      backSt.record = some storedRec ∧ backSt.ext = some 300 ∧ 0 < min 4000 (storedRec.words - backSt.next) ∧
      min 4000 (storedRec.words - backSt.next) ≤ [(0 : Word)].length ∧ (copySt 0 none).record = none := by
  decide +kernel

/-- R87: of an odd number of samples the last word is read by its upper half; R88: a last payload burst that is not full
ends in zero words. -/
theorem test_presented_lane_bursts :
    (withLane0 (.encoding { encJob with source := .slot .b .s1 } run11) ready).presented (.lane .l0) =
        some ⟨.lane .l0, 192 * 16384, .read 0xCF true, none, true⟩ ∧
      (({ withLane0 (.encoding encJob { encRun with first := some 256, out := [true] }) ready with
        map := outMap [] } : State).presented (.lane .l0)) =
        some ⟨.lane .l0, 256 * 16384, .write (0x80000000 :: List.replicate 7 0) 0xFFFFFFFF, none, true⟩ := by
  decide +kernel

theorem witness_Grants :
    ready.ctl.state = .ready ∧ ready.ctl.burst = none ∧ (inState .start ready).ctl.state ≠ .ready ∧
      8 ≤ ({ ready.ctl with owed := 8 } : StoreCtl).owed ∧ ({ ready.ctl with owed := 7 } : StoreCtl).owed < 8 ∧
      (queued true [op1]).arb.tableQueue = op1 :: [] ∧ op1.byPress = true ∧ op2.byPress = false ∧
      ((printing .preroll).presented .press) = none ∧
      (withPress { feed .preroll with row := some [], comps := [comp0] } ready).presented .press ≠ none ∧
      (queued false [op2]).presented .table ≠ none ∧
      ringOrder.all (fun q => q == .table || (queued false [op2]).presented q == none) = true ∧
      ringOrder.all (fun q => ready.presented q == none) = true ∧ ready.arb.grant = .free ∧
      ({ ready.arb with grant := .run .table, count := 7 } : Arbiter).count < ready.arb.runLimit ∧
      ringOrder = ringOrder.take 9 ++ Requester.stream .b :: [] ∧ ready.arb.ring = .stream .b := by decide +kernel

def wburst : Burst := ⟨.table, 2048 * 16384 - 8, .write [1] 1, some (.mark 1 0 false), true⟩
def onBurst (b : Burst) : State := { ready with ctl := { ready.ctl with burst := some b } }

def copyBurst : Burst := ⟨.table, 0, .read (recordMask 0 1) true, some (.copy .a 0), true⟩

/-- Word 0 holds byte 0 with the wrong parity; word 1 is whole. -/
def brokenStore : Memory := ⟨[0, 1, 2, 3, 4, 5, 6, 7].map fun a => (a, 0),
  [0, 1, 2, 3, 4, 5, 6, 7].map fun a => (a, a == 0)⟩

theorem witness_BurstEnd :
    (onBurst wburst).ctl.burst = some wburst ∧ wburst.addr + 8 ≤ (onBurst wburst).size.extents * 16384 ∧
      (onBurst wburst).size.extents * 16384 < ({ wburst with addr := 2048 * 16384 - 7 } : Burst).addr + 8 ∧
      Upset.wf [⟨0, 1, false⟩, ⟨31, 0, true⟩] = true ∧ (onBurst wburst).store.wf = true ∧ wburst.live = true ∧
      ({ wburst with live := false } : Burst).live = false ∧ wburst.client = some (.mark 1 0 false) ∧
      (withLane0 (.encoding encJob encRun) ready).lane .l0 = .encoding encJob encRun ∧
      ({ ready.dir with inits := [hinit] } : Directory).inits = [hinit] ∧ hinit.page = 1 ∧
      brokenStore.wordMismatch 0 2 = true ∧ brokenStore.wordMismatch 0 4 = false ∧
      ({ ready.arb with deferred := [op1] } : Arbiter).deferred = [op1] ∧ copyBurst.client = some (.copy .a 0) ∧
      (∃ st ∈ [copySt 0 none], st.serial = 0) ∧ ((onBurst copyBurst).link .a).streams = [] := by decide +kernel

theorem witness_StartRefreshWake :
    (inState .settle ready).ctl.state = .settle ∧ ready.ctl.refreshTimer.isSome = true ∧
      ({ ready.ctl with startStep := some 1 } : StoreCtl).startStep = some 1 ∧ 1 + 3 ≤ 4 ∧ 4 + 0 ≤ 4 ∧ 1 + 7 ≤ 8 ∧
      (inState .refreshing ready).ctl.state = .refreshing ∧ ready.ctl.state ≠ .waking ∧
      ({ ready.ctl with wakeCause := some .sheetStart } : StoreCtl).wakeCause = some .sheetStart ∧
      ready.press.state ≠ .ready ∧ ((rx (fr 18 [0, 0]) ready).link .a).rx = fr 18 [0, 0] :: [] ∧
      ((rx (fr 18 [0, 0]) ready).link .a).replyUse < 8 ∧ (fr 18 [0, 0]).k = 18 ∧ (fr 19 []).k = 19 ∧
      (fr 8 []).k ≠ 18 ∧ (fr 8 []).k ≠ 19 ∧ (ready.link .a).hold = false := by decide +kernel

theorem witness_Rest :
    (rx (fr 17 []) ready).offersLong .a 17 (fr 17 []) = true ∧ ready.mayRest = true ∧
      (withPage { pg .sealed with work := 1 } ready).mayRest = false ∧
      (withPress { PressFeed.initial with decState := .decoding } ready).mayRest = false ∧
      ({ ready.ctl with restWaiting := [⟨.a, 0⟩] } : StoreCtl).restWaiting = ⟨.a, 0⟩ :: [] ∧
      (ready.link .a).rx = [] ∧ (ready.link .b).rx = [] ∧ ((rx (fr 8 []) ready).link .a).rx ≠ [] := by decide +kernel

theorem witness_EveryStep : (∃ t, step ready = .next t) ∧ ready.store.wf = true ∧ ready.ctl.owed ≤ 8 ∧
    ready.settingsLegal = true ∧ ready.sound = true ∧ ready.withinPlaces = true := ⟨⟨ready, rfl⟩, by decide +kernel⟩

/-! ## Single commands -/

/-- R1.9: the two-row case of the spec packs to the words it prints. -/
theorem test_codec_two_row_case :
    (((Context.fresh ⟨.edge, 1, 8, 8, 0⟩ 4 2 .coding).encodeAll [100, 104, 103, 180, 99, 106, 110, 178]).map
      fun r => packBits 2 r.2) = some [0x0B50001A#32, 0x72A00000#32] := by decide +kernel

/-- R1.10, R1.11: the two fallback cases abandon coding. -/
theorem test_codec_fallback :
    (Context.fresh ⟨.left, 0, 8, 8, 0⟩ 2 1 .coding).encodeAll [0, 255] = none ∧
      (Context.fresh ⟨.left, 0, 8, 8, 0⟩ 3 1 .coding).encodeAll [130, 131, 0] = none ∧
      packBits 1 ([130, 131, 0].flatMap (natBits 8)) = [0x82830000#32] := by decide +kernel

/-- R15: the encoder that abandons coding keeps the updates of the samples before the failing one. -/
theorem test_feed_abandons_after_two_samples :
    let r := run11.feed words11
    (r.phase, r.ctx.form, r.ctx.a, r.ctx.n, r.ctx.bits, r.left) = (.rewriting, .abandoned, 7, 3, 7, 3) := by
  decide +kernel

/-- R120: a word that mismatches is left as it is by a later upset. -/
theorem test_upset_leaves_a_broken_word :
    brokenStore.upset 0 0 [⟨0, 0, true⟩] = brokenStore ∧
      (brokenStore.upset 0 0 [⟨4, 1, false⟩]).wordMismatch 0 4 = true := by decide +kernel

/-- R161: a parity failure of a checked read is flagged at the end of its burst, a band record read's too, and whether
or not its work has ended (log 22). -/
theorem test_burstEnd_flags_a_checked_read :
    let s (live : Bool) : State := { onBurst { laneRead live with access := .read 0xF true } with store := brokenStore }
    ((after (.burstEnd []) (s false)).link .a).flags.storeParity = true ∧
      ((after (.burstEnd []) (s false)).link .b).flags.storeParity = true ∧
      ((after (.burstEnd []) (s true)).link .b).flags.storeParity = true ∧
      (after (.burstEnd []) (s true)).arb.tableEnds.length = 1 := by decide +kernel

/-- R128: what a client has ready behind an operation of ended work is placed when that operation has been made. -/
theorem test_burstEnd_places_what_waited :
    let s : State := { ready with
      ctl := { ready.ctl with burst := some { laneRead false with access := .read 0 true }, state := .refreshing }
      arb := { ready.arb with deferred := [op2] } }
    (after (.burstEnd []) s).arb.tableQueue = [op2] ∧ (after (.burstEnd []) s).arb.deferred = [] := by decide +kernel

/-- R155: the LINE REQUEST that takes the last line ends the sheet, and SHEET DONE follows the line. -/
theorem test_sheet_ends_with_its_last_line :
    (lastLine 2 0).press.answers = [.line [1], .sheetDone 1 2] ∧ (lastLine 2 0).press.state = .preroll ∧
      (lastLine 2 0).press.schedule.map (·.copies) = [1] ∧ (lastLine 1 0).press.schedule = [] ∧
      (lastLine 1 0).press.state = .idle ∧ (lastLine 1 0).page 1 = some (pg .sealed) ∧
      ((lastLine 1 0).link .b).sending = some (.notice (.printDone 1)) := by decide +kernel

/-- R157, R158: PRESS RESET during the last line leaves its sheet uncounted; after the line the count stands. -/
theorem test_pressReset_cuts_the_last_line :
    (after .pressReset (lastLine 2 0)).press.schedule.map (·.copies) = [2] ∧
      (after .pressReset (lastLine 1 0)).press.schedule.map (·.copies) = [1] ∧
      (after .pressReset (lastLine 1 0)).page 1 = some { pg .sealed with printRefs := 1 } ∧
      (after .pressReset (lastLine 1 0)).press.answers = [] ∧
      (after .pressReset (after .pressAnswerEnd (lastLine 2 0))).press.schedule.map (·.copies) = [1] := by
  decide +kernel

/-- R170: PRESS RESET changes no item of a link, whatever record read of the press it withdraws (log 61); in RESTING a
line on the port goes on, and is cut when the part has woken (log 62). -/
theorem test_pressReset_leaves_the_links_and_waits_for_ready :
    let s := withEnd .press (recWords storedRec true) (printing .sheet)
    let resting := inState .resting (lastLine 2 0)
    (after .pressReset s).links = s.links ∧ (after .pressReset s).arb.tableEnds = [] ∧
      (after .pressReset resting).ctl.wakeCause = some .pressReset ∧
      (after .pressReset resting).press.answers = resting.press.answers ∧
      (after .wakeComplete (after .pressReset resting)).press.answers = [] := by decide +kernel

/-- R103, R105: the last record of a release returns the chains still owned in rising record index, then the header. -/
theorem test_release_returns_every_extent :
    let s : State := { releasing { pg .retiring with header := 256 } pendingRec with map := ownedMap }
    (after (.releaseRecordRead 1) s).map = ⟨[], [259, 257, 258, 260, 256]⟩ ∧
      (after (.releaseRecordRead 1) s).dir.pages = [] ∧ (after (.releaseRecordRead 1) s).adm.freeCount = 5 := by
  decide +kernel

/-- R166: a compressed READ BAND whose chain does not open is refused, with the mark. -/
theorem test_readBand_chain_does_not_open :
    let s := withEnd (.readBand .a 0) (recWords storedRec false)
      (onA (fun c => { c with long := [⟨0, 6, 7⟩], recordReads := [rread] }) (withPage (pg .sealed) ready))
    ((after (.readBandRecordReadEnd .a) s).link .a).sending = some (.reply 6 7 (.damaged .stream 0)) ∧
      (after (.readBandRecordReadEnd .a) s).page 1 = some (pg .sealed).damagedOnce ∧
      (after (.readBandRecordReadEnd .a) s).ctl.burst.bind Burst.client = some (.mark 1 0 false) := by decide +kernel

theorem test_powerOnReset : (after (.powerOnReset true false) ready).size = .mib512 ∧
    (after (.powerOnReset true true) ready).size = .mib128 ∧
      (after (.powerOnReset false true) ready).ctl = StoreCtl.initial := by decide +kernel

theorem test_startUp : (after .settleTimerExpiry State.reset).ctl.startStep = some 1 ∧
    (after .startSequenceComplete (after .settleTimerExpiry State.reset)).part = .ready := by decide +kernel

theorem test_refreshDuePoint_grants_an_idle_refresh :
    (after (.refreshDuePoint 0) ready).ctl.state = .refreshing ∧
      (after .refreshMade (after (.refreshDuePoint 0) ready)).ctl.owed = 0 := by decide +kernel

theorem test_frameArrival_takes_a_hold_at_once :
    ((after (.frameArrival .a (frameBytes 18 7 [0, 5])) ready).link .a).holdTimer = some 5 := by decide +kernel

theorem test_frameArrival_discards_a_bad_check :
    ((after (.frameArrival .a [18, 7, 0, 0, 0, 0]) ready).link .a).flags.frameCheck = true := by decide +kernel

theorem test_setStore_takes_0_as_1 : (after (.setStore .a) (rx (fr 16 [0]) ready)).arb.runLimit = 1 ∧
    (after (.setStore .a) (rx (fr 16 [200]) ready)).arb.runLimit = 32 := by decide +kernel

theorem test_setPress_clamps_urgency : (after (.setPress .a) (rx (fr 15 [1, 3, 9]) ready)).press.settings =
    ⟨.interleaved, 3, 3⟩ := by decide +kernel

theorem test_setLaneTable_refuses_an_entry_above_3 :
    (after (.setLaneTable .a) (rx (fr 13 (List.replicate 33 4)) ready)).disp = ready.disp := by decide +kernel

theorem test_sheetStart_idle_is_not_ready : (after .sheetStart ready).press.answers = [.notReady] := by
  decide +kernel

theorem test_lineRequest_does_not_wake_the_part :
    (after .lineRequest (inState .resting ready)).ctl.state = .resting := by decide +kernel

theorem test_print_of_a_sealed_page_starts_preroll :
    (after (.print .a) (rx (fr 4 [0, 1, 0]) (withPage (pg .sealed) ready))).press.state = .preroll ∧
      (after (.print .a) (rx (fr 4 [0, 1, 0]) (withPage (pg .sealed) ready))).ctl.burst.isSome = true := by
  decide +kernel

theorem test_retirePage_reads_the_first_record :
    ((after (.retirePage .a) (rx (fr 3 [0, 1]) (withPage (pg .sealed) ready))).ctl.burst.map (·.addr)) =
      some (300 * 16384) := by decide +kernel

theorem test_linkReset_empties_the_buffer :
    ((after (.linkReset .a) (rx (fr 3 [0, 1]) ready)).link .a).rx = [] := by decide +kernel

end Sys2Proof.Tests
end

section
/-!
PROOFS. The arithmetic of the band codec (R6 to R9): quantisation, reconstruction, mapping and the Rice parameter,
then what one sample does to a context in the encoder and in the decoder.
-/

-- One proof after another: the package as one text asks for more threads at once than the check allows.
set_option Elab.async false
namespace Sys2Proof.Machine

/-! ## Quantisation (R6) -/

theorem quantise_of_nonneg {e : Nat} {r : Int} (h : 0 ≤ r) : quantise e r = (r + e) / (2 * e + 1) := by
  simp [quantise, stepOf, h]

theorem quantise_of_neg {e : Nat} {r : Int} (h : r < 0) : quantise e r = -((-r + e) / (2 * e + 1)) := by
  simp [quantise, stepOf, not_le.mpr h]

/-- A quotient whose dividend was raised by `e` leaves a remainder within `e` of zero: the nearest multiple. -/
theorem nearest_multiple (e : Nat) (r : Int) :
    -(e : Int) ≤ r - (r + e) / (2 * e + 1) * (2 * e + 1) ∧ r - (r + e) / (2 * e + 1) * (2 * e + 1) ≤ e := by
  have hpos : (0 : Int) < 2 * e + 1 := by omega
  have hdiv := Int.emod_add_ediv_mul (r + e) (2 * e + 1)
  have hlow := Int.emod_nonneg (r + e) hpos.ne'
  have hhigh := Int.emod_lt_of_pos (r + e) hpos
  constructor <;> linarith

/-- The remainder of quantisation lies within the error bound. -/
theorem quantise_remainder (e : Nat) (r : Int) :
    -(e : Int) ≤ r - quantise e r * (2 * e + 1) ∧ r - quantise e r * (2 * e + 1) ≤ e := by
  rcases le_or_gt 0 r with h | h
  · rw [quantise_of_nonneg h]
    exact nearest_multiple e r
  · rw [quantise_of_neg h]
    obtain ⟨hlow, hhigh⟩ := nearest_multiple e (-r)
    constructor <;> linarith

@[simp] theorem quantise_zero_right (e : Nat) : quantise e 0 = 0 := by
  rw [quantise_of_nonneg le_rfl]
  exact Int.ediv_eq_zero_of_lt (by omega) (by omega)

theorem quantise_neg (e : Nat) (r : Int) : quantise e (-r) = -quantise e r := by
  rcases lt_trichotomy r 0 with h | rfl | h
  · rw [quantise_of_neg h, quantise_of_nonneg (by omega), neg_neg]
  · simp
  · rw [quantise_of_nonneg h.le, quantise_of_neg (by omega), neg_neg]

@[simp] theorem quantise_zero_left (r : Int) : quantise 0 r = r := by
  rcases le_or_gt 0 r with h | h
  · simp [quantise_of_nonneg h]
  · simp [quantise_of_neg h]

theorem natAbs_quantise (e : Nat) (r : Int) : (quantise e r).natAbs = (r.natAbs + e) / (2 * e + 1) := by
  have main : ∀ n : Nat, (quantise e n).natAbs = (n + e) / (2 * e + 1) := by
    intro n
    rw [quantise_of_nonneg (Int.natCast_nonneg n)]
    exact_mod_cast Int.natAbs_natCast ((n + e) / (2 * e + 1))
  rcases Int.natAbs_eq r with h | h
  · rw [h, main, Int.natAbs_natCast]
  · rw [h, quantise_neg, Int.natAbs_neg, main, Int.natAbs_neg, Int.natAbs_natCast]

theorem quotient_le_self (e m : Nat) : (m + e) / (2 * e + 1) ≤ m := by
  refine Nat.lt_succ_iff.1 (Nat.div_lt_of_lt_mul ?_)
  calc m + e < 2 * (e * m) + 2 * e + m + 1 := by omega
    _ = (2 * e + 1) * m.succ := by rw [Nat.succ_eq_add_one]; ring

/-- A quantised residual is no larger than the largest residual. -/
theorem natAbs_quantise_le {d : Nat} (e : Nat) {r : Int} (h : r.natAbs ≤ maxVal d) :
    (quantise e r).natAbs ≤ (maxVal d + e) / (2 * e + 1) := by
  rw [natAbs_quantise]
  exact Nat.div_le_div_right (Nat.add_le_add_right h e)

theorem natAbs_quantise_le_maxVal {d : Nat} (e : Nat) {r : Int} (h : r.natAbs ≤ maxVal d) :
    (quantise e r).natAbs ≤ maxVal d :=
  (natAbs_quantise_le e h).trans (quotient_le_self e _)

theorem natAbs_sub_le_maxVal {d x p : Nat} (hx : x ≤ maxVal d) (hp : p ≤ maxVal d) :
    ((x : Int) - p).natAbs ≤ maxVal d := by
  omega

theorem maxVal_lt (d : Nat) : maxVal d < 2 ^ d :=
  Nat.sub_lt (Nat.two_pow_pos d) Nat.one_pos

theorem le_maxVal_iff {d x : Nat} : x ≤ maxVal d ↔ x < 2 ^ d := by
  have := Nat.two_pow_pos d
  unfold maxVal
  omega

/-! ## Reconstruction (R7) -/

theorem reconstruct_of_neg {d e p : Nat} {q : Int} (h : p + q * (2 * e + 1) < 0) : reconstruct d e p q = 0 := by
  simp [reconstruct, stepOf, h]

theorem reconstruct_of_above {d e p : Nat} {q : Int} (h : (maxVal d : Int) < p + q * (2 * e + 1)) :
    reconstruct d e p q = maxVal d := by
  have h0 : ¬ (p + q * (2 * e + 1) : Int) < 0 := by omega
  simp only [reconstruct, stepOf, Nat.cast_add, Nat.cast_mul, Nat.cast_ofNat, Nat.cast_one, if_neg h0]
  omega

theorem reconstruct_of_mem {d e p : Nat} {q : Int} (h0 : 0 ≤ p + q * (2 * e + 1))
    (h1 : p + q * (2 * e + 1) ≤ maxVal d) : (reconstruct d e p q : Int) = p + q * (2 * e + 1) := by
  simp only [reconstruct, stepOf, Nat.cast_add, Nat.cast_mul, Nat.cast_ofNat, Nat.cast_one, if_neg (not_lt.mpr h0)]
  omega

theorem reconstruct_le (d e p : Nat) (q : Int) : reconstruct d e p q ≤ maxVal d := by
  rcases lt_or_ge (p + q * (2 * e + 1)) 0 with h | h
  · simp [reconstruct_of_neg h]
  · rcases lt_or_ge (maxVal d : Int) (p + q * (2 * e + 1)) with h1 | h1
    · exact (reconstruct_of_above h1).le
    · have := reconstruct_of_mem h h1
      omega

/-- Clamping moves the reconstruction toward every value of 0..MAXVAL. -/
theorem reconstruct_closer (d e p : Nat) (q : Int) {x : Nat} (hx : x ≤ maxVal d) :
    ((reconstruct d e p q : Int) - x).natAbs ≤ (p + q * (2 * e + 1) - x).natAbs := by
  rcases lt_or_ge (p + q * (2 * e + 1)) 0 with h | h
  · rw [reconstruct_of_neg h]
    omega
  · rcases lt_or_ge (maxVal d : Int) (p + q * (2 * e + 1)) with h1 | h1
    · rw [reconstruct_of_above h1]
      omega
    · rw [reconstruct_of_mem h h1]

theorem unclamped_within (e p x : Nat) :
    (p + quantise e ((x : Int) - p) * (2 * e + 1) - x).natAbs ≤ e := by
  have := quantise_remainder e ((x : Int) - p)
  omega

/-- The reconstruction of a sample differs from it by at most the error bound. -/
theorem reconstruct_within (d e p : Nat) {x : Nat} (hx : x ≤ maxVal d) :
    ((reconstruct d e p (quantise e ((x : Int) - p)) : Int) - x).natAbs ≤ e :=
  (reconstruct_closer d e p _ hx).trans (unclamped_within e p x)

/-! ## Mapping (R8) -/

theorem mapValue_of_nonneg {q : Int} (h : 0 ≤ q) : (mapValue q : Int) = 2 * q := by
  simp only [mapValue, if_pos h]
  omega

theorem mapValue_of_neg {q : Int} (h : q < 0) : (mapValue q : Int) = -(2 * q) - 1 := by
  simp only [mapValue, if_neg (not_le.mpr h)]
  omega

theorem unmapValue_of_even {m : Nat} (h : m % 2 = 0) : unmapValue m = (m : Int) / 2 := by
  simp [unmapValue, h]

theorem unmapValue_of_odd {m : Nat} (h : m % 2 = 1) : unmapValue m = -(((m : Int) + 1) / 2) := by
  simp [unmapValue, h]

@[simp] theorem unmapValue_mapValue (q : Int) : unmapValue (mapValue q) = q := by
  rcases le_or_gt 0 q with h | h
  · have hm := mapValue_of_nonneg h
    rw [unmapValue_of_even (by omega)]
    omega
  · have hm := mapValue_of_neg h
    rw [unmapValue_of_odd (by omega)]
    omega

theorem mapValue_le {d : Nat} {q : Int} (h : q.natAbs ≤ maxVal d) : mapValue q ≤ 2 * maxVal d := by
  rcases le_or_gt 0 q with h0 | h0
  · have hm := mapValue_of_nonneg h0
    omega
  · have hm := mapValue_of_neg h0
    omega

theorem two_mul_maxVal_lt (d : Nat) : 2 * maxVal d < 2 ^ (d + 1) := by
  have := maxVal_lt d
  rw [Nat.pow_succ]
  omega

theorem mapValue_lt {d : Nat} {q : Int} (h : q.natAbs ≤ maxVal d) : mapValue q < 2 ^ (d + 1) :=
  (mapValue_le h).trans_lt (two_mul_maxVal_lt d)

/-! ## The Rice parameter (R9) -/

/-- Either some k of 0..d reaches A, and the parameter is the first such k, or none does and the parameter is d. -/
theorem riceParam_cases (a n d : Nat) :
    (riceParam a n d ≤ d ∧ a ≤ n * 2 ^ riceParam a n d ∧ ∀ j < riceParam a n d, n * 2 ^ j < a) ∨
    (riceParam a n d = d ∧ ∀ j ≤ d, n * 2 ^ j < a) := by
  unfold riceParam
  cases hf : (List.range (d + 1)).find? (fun k => decide (a ≤ n * 2 ^ k)) with
  | none =>
    rw [List.find?_range_eq_none] at hf
    right
    refine ⟨rfl, fun j hj => ?_⟩
    simpa using hf j (Nat.lt_succ_of_le hj)
  | some k =>
    rw [List.find?_range_eq_some] at hf
    obtain ⟨hreach, hk, hfirst⟩ := hf
    left
    refine ⟨Nat.le_of_lt_succ (List.mem_range.1 hk), by simpa using hreach, fun j hj => ?_⟩
    simpa using hfirst j hj

theorem riceParam_le (a n d : Nat) : riceParam a n d ≤ d := by
  rcases riceParam_cases a n d with ⟨h, -, -⟩ | ⟨h, -⟩
  · exact h
  · exact h.le

theorem not_reached_below_riceParam {a n d j : Nat} (hj : j < riceParam a n d) : n * 2 ^ j < a := by
  rcases riceParam_cases a n d with ⟨-, -, h⟩ | ⟨hd, h⟩
  · exact h j hj
  · exact h j (hd ▸ hj.le)

theorem reached_of_riceParam_lt {a n d : Nat} (hd : riceParam a n d < d) : a ≤ n * 2 ^ riceParam a n d := by
  rcases riceParam_cases a n d with ⟨-, h, -⟩ | ⟨h, -⟩
  · exact h
  · exact absurd h hd.ne

theorem riceParam_eq_zero {a n : Nat} (d : Nat) (h : a ≤ n) : riceParam a n d = 0 := by
  by_contra hk
  have := not_reached_below_riceParam (Nat.pos_of_ne_zero hk)
  omega

end Sys2Proof.Machine
end

section
/-!
PROOFS. One sample of a coding context: what the encoder and the decoder enter (R3, R7, R10, R15, R21), and the
obligations about quantisation, reconstruction, mapping and the Rice parameter.
-/

set_option Elab.async false
namespace Sys2Proof.Machine

/-! ## Entering a reconstruction (R3, R10) -/

theorem Context.push_of_lt {c : Context} {y : Nat} (h : c.cur.length + 1 ≠ c.w) :
    c.push y = { c with cur := c.cur ++ [y] } := by
  simp [Context.push, h]

theorem Context.push_of_last {c : Context} {y : Nat} (h : c.cur.length + 1 = c.w) :
    c.push y = { c with row := c.row + 1, prev := some (c.cur ++ [y]), cur := [] } := by
  simp [Context.push, h]

/-- The row state alone takes part in entering a reconstruction: everything else is carried over. -/
theorem Context.push_frame (c : Context) (y : Nat) :
    { c.push y with row := c.row, prev := c.prev, cur := c.cur } = c := by
  unfold Context.push
  split <;> rfl

@[simp] theorem Context.push_e (c : Context) (y : Nat) : (c.push y).e = c.e :=
  congrArg (·.e) (c.push_frame y)
@[simp] theorem Context.push_d (c : Context) (y : Nat) : (c.push y).d = c.d :=
  congrArg (·.d) (c.push_frame y)
@[simp] theorem Context.push_w (c : Context) (y : Nat) : (c.push y).w = c.w :=
  congrArg (·.w) (c.push_frame y)

/-- The form and the bit count play no part in entering a sample. -/
theorem Context.pushCoded_with (c : Context) (q : Int) (y : Nat) (f : Form) (b : Nat) :
    ({ c with form := f, bits := b } : Context).pushCoded q y = { c.pushCoded q y with form := f, bits := b } := by
  unfold Context.pushCoded Context.push
  split <;> rfl

theorem riceUpdate_of_ne {a n : Nat} {q : Int} (h : n + 1 ≠ 64) : riceUpdate a n q = (a + q.natAbs, n + 1) := by
  simp only [riceUpdate, if_neg h]

theorem riceUpdate_of_eq {a n : Nat} {q : Int} (h : n + 1 = 64) : riceUpdate a n q = ((a + q.natAbs) / 2, 32) := by
  simp only [riceUpdate, if_pos h]

/-! ## Encoding a sample (R6 to R15) -/

/-- The quantised residual of the next sample. -/
def Context.quantised (c : Context) (x : Nat) : Int := quantise c.e ((x : Int) - c.prediction)

/-- The code of the next sample. -/
def Context.sampleCode (c : Context) (x : Nat) : List Bool :=
  codeOf c.d (riceParam c.a c.n c.d) (mapValue (c.quantised x))

/-- The reconstruction of the next sample. -/
def Context.reconstructed (c : Context) (x : Nat) : Nat := reconstruct c.d c.e c.prediction (c.quantised x)

/-- The context after a sample whose code has been appended. -/
def Context.entered (c : Context) (x : Nat) : Context :=
  { c.pushCoded (c.quantised x) (c.reconstructed x) with bits := c.bits + (c.sampleCode x).length }

theorem Context.encode_eq (c : Context) (x : Nat) :
    c.encode x = if c.hr * c.w * c.d < c.bits + (c.sampleCode x).length then none
      else some (c.entered x, c.sampleCode x) := rfl

theorem Context.encode_eq_none_iff (c : Context) (x : Nat) :
    c.encode x = none ↔ c.hr * c.w * c.d < c.bits + (c.sampleCode x).length := by
  rw [Context.encode_eq]
  split <;> simp_all

/-- What an encoded sample gives: its code, and the context that has entered it. -/
theorem Context.encode_eq_some {c c2 : Context} {x : Nat} {bits : List Bool} (h : c.encode x = some (c2, bits)) :
    c2 = c.entered x ∧ bits = c.sampleCode x := by
  rw [Context.encode_eq] at h
  split at h
  · cases h
  · cases h
    exact ⟨rfl, rfl⟩

@[simp] theorem Context.entered_e (c : Context) (x : Nat) : (c.entered x).e = c.e := c.push_e _
@[simp] theorem Context.entered_d (c : Context) (x : Nat) : (c.entered x).d = c.d := c.push_d _
@[simp] theorem Context.entered_w (c : Context) (x : Nat) : (c.entered x).w = c.w := c.push_w _
@[simp] theorem Context.entered_prev (c : Context) (x : Nat) :
    (c.entered x).prev = (c.push (c.reconstructed x)).prev := rfl
@[simp] theorem Context.entered_cur (c : Context) (x : Nat) :
    (c.entered x).cur = (c.push (c.reconstructed x)).cur := rfl

/-! ## Decoding a sample (R17 to R22) -/

/-- A coded sample goes as the fetching of its code goes (R18 to R21). -/
theorem Context.decode_coded {c : Context} (h : c.form ≠ .raw) (buf : List (Option Bool)) :
    c.decode buf = match fetchCode c.d (riceParam c.a c.n c.d) buf with
      | .got m rest => .got { c.pushCoded (unmapValue m) (reconstruct c.d c.e c.prediction (unmapValue m)) with
          bits := c.bits + (buf.length - rest.length) } rest
      | .short => .short
      | .stop cause => .stop cause := by
  unfold Context.decode
  cases hf : c.form with
  | raw => exact absurd hf h
  | coding => rfl
  | abandoned => rfl
  | coded => rfl

/-- A raw sample is the number its d bits spell (R22). -/
theorem Context.decode_raw {c : Context} (h : c.form = .raw) (buf : List (Option Bool)) :
    c.decode buf = match fetchBits c.d buf 0 with
      | .got y rest => .got { c.push y with bits := c.bits + (buf.length - rest.length) } rest
      | .short => .short
      | .stop cause => .stop cause := by
  cases hb : fetchBits c.d buf 0 <;> simp [Context.decode, h, hb]

/-- What a decoded coded sample was made from. -/
theorem Context.decode_coded_got {c c2 : Context} {buf rest : List (Option Bool)} (hf : c.form ≠ .raw)
    (h : c.decode buf = .got c2 rest) :
    ∃ m, fetchCode c.d (riceParam c.a c.n c.d) buf = .got m rest ∧
      c2 = { c.pushCoded (unmapValue m) (reconstruct c.d c.e c.prediction (unmapValue m)) with
        bits := c.bits + (buf.length - rest.length) } := by
  rw [Context.decode_coded hf] at h
  cases hc : fetchCode c.d (riceParam c.a c.n c.d) buf with
  | got m after =>
    rw [hc] at h
    cases h
    exact ⟨m, rfl, rfl⟩
  | short =>
    rw [hc] at h
    cases h
  | stop cause =>
    rw [hc] at h
    cases h

/-! ## The obligations -/

/-- Settles O1: each part is a lemma of the arithmetic of R6. -/
theorem residualsQuantiseToTheNearestStep : Obligations.ResidualsQuantiseToTheNearestStep := by
  refine ⟨fun e r => ⟨quantise_of_nonneg, quantise_of_neg, ?_, quantise_neg e r, quantise_zero_left r⟩,
    fun d x p => natAbs_sub_le_maxVal, fun d e r h => ⟨natAbs_quantise_le e h, quotient_le_self e _⟩,
    by decide, by decide, by decide, fun c c2 x bits h => (Context.encode_eq_some h).2⟩
  have := quantise_remainder e r
  omega

/-- Settles O2: the clamp by its three cases, the bound by the remainder of quantisation, and the row by the push. -/
theorem reconstructionStaysWithinTheErrorBound : Obligations.ReconstructionStaysWithinTheErrorBound := by
  refine ⟨fun d e p q => ⟨reconstruct_of_neg, reconstruct_of_above, reconstruct_of_mem⟩, quantise_remainder,
    fun d e p x hx => ⟨unclamped_within e p x, reconstruct_closer d e p _ hx, ?_⟩, ?_⟩
  · rintro rfl
    have := reconstruct_within d 0 p hx
    omega
  · intro c c2 x bits h
    obtain ⟨rfl, -⟩ := Context.encode_eq_some h
    constructor
    · intro hlt
      rw [Context.entered_cur, Context.entered_prev, Context.push_of_lt hlt]
      exact ⟨rfl, rfl⟩
    · intro hlast
      rw [Context.entered_cur, Context.entered_prev, Context.push_of_last hlast]
      exact ⟨rfl, rfl⟩

/-- Settles O3: the mapping by the sign of q, its inverse by the parity of m. -/
theorem mappingNumbersTheQuantisedValues : Obligations.MappingNumbersTheQuantisedValues :=
  ⟨fun _ => ⟨mapValue_of_nonneg, mapValue_of_neg⟩, by decide,
    fun d _ h => ⟨mapValue_le h, two_mul_maxVal_lt d⟩,
    fun _ => ⟨unmapValue_of_even, unmapValue_of_odd⟩, unmapValue_mapValue⟩

/-- Settles O4: the parameter by its two cases, and the codec's use of it by what a sample of either side gives. -/
theorem riceParameterIsTheSmallestThatReaches : Obligations.RiceParameterIsTheSmallestThatReaches := by
  refine ⟨fun a n d => ⟨riceParam_le a n d, fun j => not_reached_below_riceParam, reached_of_riceParam_lt, ?_,
      riceParam_eq_zero d⟩, fun d => rfl, by decide, by decide, by decide, fun pr w hr form => ⟨rfl, rfl⟩,
    by decide, by decide, by decide, fun c c2 x bits h => ⟨_, (Context.encode_eq_some h).2⟩, ?_⟩
  · rintro rfl
    exact riceParam_eq_zero d (Nat.zero_le n)
  · intro c c2 buf rest hf h
    obtain ⟨m, hm, -⟩ := Context.decode_coded_got hf h
    exact ⟨m, hm⟩

end Sys2Proof.Machine
end

section
/-!
PROOFS. Codes and packing (R11 to R13, R18 to R20): the bits of a number, the code of a mapped value with its length,
its reading back whole and cut short, and packed words.
-/

set_option Elab.async false
namespace Sys2Proof.Machine

/-! ## The bits of a number -/

@[simp] theorem natBits_length (k v : Nat) : (natBits k v).length = k := by
  simp [natBits]

/-- The first bit written is the highest. -/
theorem natBits_succ (k v : Nat) : natBits (k + 1) v = v.testBit k :: natBits k v := by
  simp [natBits, List.range_succ]

/-- The last bit written is the lowest. -/
theorem natBits_two_mul_add (k v : Nat) (b : Bool) : natBits (k + 1) (2 * v + b.toNat) = natBits k v ++ [b] := by
  have hbit : ∀ i, (2 * v + b.toNat).testBit (i + 1) = v.testBit i := by
    intro i
    have := b.toNat_le
    rw [Nat.testBit_succ, show (2 * v + b.toNat) / 2 = v by omega]
  have hlow : (2 * v + b.toNat).testBit 0 = b := by
    cases b <;> simp
  simp [natBits, List.range_succ_eq_map, hbit, hlow, Function.comp_def]

theorem bitsNat_append_singleton (l : List Bool) (b : Bool) : bitsNat (l ++ [b]) = 2 * bitsNat l + b.toNat := by
  simp [bitsNat]

theorem bitsNat_lt (l : List Bool) : bitsNat l < 2 ^ l.length := by
  induction l using List.reverseRecOn with
  | nil => simp [bitsNat]
  | append_singleton l b ih =>
    rw [bitsNat_append_singleton, List.length_append, List.length_singleton, Nat.pow_succ]
    have := b.toNat_le
    omega

/-- The bits of the number that a list spells are the list. -/
theorem natBits_bitsNat (l : List Bool) : natBits l.length (bitsNat l) = l := by
  induction l using List.reverseRecOn with
  | nil => rfl
  | append_singleton l b ih =>
    rw [bitsNat_append_singleton, List.length_append, List.length_singleton, natBits_two_mul_add, ih]

/-! ## Codes (R11, R12) -/

theorem codeOf_of_lt {d k m : Nat} (h : m / 2 ^ k < 24) :
    codeOf d k m = List.replicate (m / 2 ^ k) false ++ true :: natBits k m := by
  simp only [codeOf, if_pos h]

theorem codeOf_of_ge {d k m : Nat} (h : 24 ≤ m / 2 ^ k) :
    codeOf d k m = List.replicate 24 false ++ true :: natBits (d + 1) m := by
  simp only [codeOf, if_neg (not_lt.mpr h)]

theorem codeOf_length_of_lt {d k m : Nat} (h : m / 2 ^ k < 24) : (codeOf d k m).length = m / 2 ^ k + 1 + k := by
  simp only [codeOf_of_lt h, List.length_append, List.length_replicate, List.length_cons, natBits_length]
  omega

theorem codeOf_length_of_ge {d k m : Nat} (h : 24 ≤ m / 2 ^ k) : (codeOf d k m).length = d + 26 := by
  simp only [codeOf_of_ge h, List.length_append, List.length_replicate, List.length_cons, natBits_length]
  omega

theorem quotient_lt {d k j m : Nat} (hm : m < 2 ^ (d + 1)) (h : d + 1 ≤ k + j) : m / 2 ^ k < 2 ^ j := by
  refine Nat.div_lt_of_lt_mul (hm.trans_le ?_)
  rw [← Nat.pow_add]
  exact Nat.pow_le_pow_right (by norm_num) h

/-- Above d − 4 the quotient is below 16, far from the escape. -/
theorem quotient_lt_sixteen {d k m : Nat} (hm : m < 2 ^ (d + 1)) (h : d - 4 < k) : m / 2 ^ k < 16 :=
  quotient_lt (j := 4) hm (by omega)

/-- An ordinary code has at most d + 20 bits, and that many only with 23 zero bits and k = d − 4. -/
theorem codeOf_length_le_of_lt {d k m : Nat} (hd : 4 ≤ d) (hm : m < 2 ^ (d + 1)) (h : m / 2 ^ k < 24) (hk : k ≤ d) :
    (codeOf d k m).length ≤ d + 20 ∧ ((codeOf d k m).length = d + 20 → m / 2 ^ k = 23 ∧ k = d - 4) := by
  rw [codeOf_length_of_lt h]
  rcases Nat.lt_or_ge (d - 4) k with hk4 | hk4
  · have := quotient_lt_sixteen hm hk4
    omega
  · omega

/-! ## Reading numbers and unary counts -/

/-- A reading that finds its bits at an end wants more of them, and stops with cause PARITY where the next is a bit of a
word that was signalled (R20). -/
def CutShort {α : Type} (fetch : List (Option Bool) → Fetch α) (begun : List (Option Bool)) : Prop :=
  fetch begun = .short ∧ ∀ rest, fetch (begun ++ none :: rest) = .stop .parity

theorem fetchBits_natBits (k v acc : Nat) (rest : List (Option Bool)) :
    fetchBits k ((natBits k v).map some ++ rest) acc = .got (acc * 2 ^ k + v % 2 ^ k) rest := by
  induction k generalizing acc with
  | zero => simp [natBits, fetchBits, Nat.mod_one]
  | succ k ih =>
    rw [natBits_succ, List.map_cons, List.cons_append, fetchBits, ih, Nat.mod_pow_succ, Nat.toNat_testBit]
    congr 1
    ring

theorem fetchBits_short {k : Nat} {bs : List Bool} (h : bs.length < k) (acc : Nat) :
    fetchBits k (bs.map some) acc = .short ∧
      ∀ rest, fetchBits k (bs.map some ++ none :: rest) acc = .stop .parity := by
  induction bs generalizing k acc with
  | nil =>
    obtain ⟨k, rfl⟩ := Nat.exists_eq_succ_of_ne_zero (Nat.ne_of_gt h)
    exact ⟨rfl, fun _ => rfl⟩
  | cons b bs ih =>
    obtain ⟨k, rfl⟩ := Nat.exists_eq_succ_of_ne_zero (Nat.ne_of_gt (Nat.zero_lt_of_lt h))
    exact ih (Nat.lt_of_succ_lt_succ h) (2 * acc + b.toNat)

theorem fetchBits_ne_stream (k : Nat) (buf : List (Option Bool)) (acc : Nat) : fetchBits k buf acc ≠ .stop .stream := by
  induction k generalizing buf acc with
  | zero => simp [fetchBits]
  | succ k ih =>
    match buf with
    | [] => simp [fetchBits]
    | none :: _ => simp [fetchBits]
    | some b :: rest => exact ih rest _

/-- The zero bits before a 1 are counted, as long as there are no more than 24. -/
theorem fetchUnary_replicate {u n : Nat} (h : n + u ≤ 24) (rest : List (Option Bool)) :
    fetchUnary (List.replicate u (some false) ++ rest) n = fetchUnary rest (n + u) := by
  induction u generalizing n with
  | zero => rfl
  | succ u ih =>
    rw [List.replicate_succ, List.cons_append, fetchUnary, if_neg (by omega), ih (by omega)]
    congr 1
    omega

/-- The count fails on the zero bit after the 24th and on nothing else (R19). -/
theorem fetchUnary_eq_stream_iff {n : Nat} (h : n ≤ 24) (buf : List (Option Bool)) :
    fetchUnary buf n = .stop .stream ↔ ∃ rest, buf = List.replicate (25 - n) (some false) ++ rest := by
  induction buf generalizing n with
  | nil =>
    simp [fetchUnary]
    omega
  | cons b buf ih =>
    have hcount : List.replicate (25 - n) (some false) = some false :: List.replicate (24 - n) (some false) := by
      rw [← List.replicate_succ]
      congr 1
      omega
    simp only [hcount, List.cons_append, List.cons.injEq, exists_and_left]
    match b with
    | none => simp [fetchUnary]
    | some true => simp [fetchUnary]
    | some false =>
      simp only [fetchUnary, true_and]
      rcases h.lt_or_eq with hlt | rfl
      · rw [if_neg hlt.ne, ih (by omega)]
        simp
      · simp

/-! ## Reading codes (R18, R19) -/

theorem fetchCode_of_unary {d k u : Nat} {buf rest : List (Option Bool)} (hu : u < 24)
    (h : fetchUnary buf 0 = .got u rest) :
    fetchCode d k buf = match fetchBits k rest 0 with
      | .got v rest2 => .got (u * 2 ^ k + v) rest2
      | .short => .short
      | .stop cause => .stop cause := by
  cases hb : fetchBits k rest 0 <;> simp [fetchCode, h, hu, hb]

theorem fetchCode_of_escape {d k : Nat} {buf rest : List (Option Bool)} (h : fetchUnary buf 0 = .got 24 rest) :
    fetchCode d k buf = fetchBits (d + 1) rest 0 := by
  simp [fetchCode, h]

theorem fetchUnary_one {u : Nat} (h : u ≤ 24) (rest : List (Option Bool)) :
    fetchUnary (List.replicate u (some false) ++ some true :: rest) 0 = .got u rest := by
  rw [fetchUnary_replicate (by omega), Nat.zero_add]
  rfl

/-- A code reads back as the value it was made from, and nothing after it is taken. -/
theorem fetchCode_codeOf {d k m : Nat} (hm : m < 2 ^ (d + 1)) (rest : List (Option Bool)) :
    fetchCode d k ((codeOf d k m).map some ++ rest) = .got m rest := by
  rcases Nat.lt_or_ge (m / 2 ^ k) 24 with h | h
  · simp only [codeOf_of_lt h, List.map_append, List.map_replicate, List.map_cons, List.append_assoc, List.cons_append]
    rw [fetchCode_of_unary h (fetchUnary_one h.le _), fetchBits_natBits]
    simp only [Nat.zero_mul, Nat.zero_add]
    rw [Nat.mul_comm, Nat.div_add_mod]
  · simp only [codeOf_of_ge h, List.map_append, List.map_replicate, List.map_cons, List.append_assoc, List.cons_append]
    rw [fetchCode_of_escape (fetchUnary_one le_rfl _), fetchBits_natBits, Nat.mod_eq_of_lt hm]
    simp

theorem fetchCode_eq_stream_iff (d k : Nat) (buf : List (Option Bool)) :
    fetchCode d k buf = .stop .stream ↔ ∃ rest, buf = List.replicate 25 (some false) ++ rest := by
  rw [← fetchUnary_eq_stream_iff (Nat.zero_le 24)]
  cases hu : fetchUnary buf 0 with
  | short => simp [fetchCode, hu]
  | stop cause => simp [fetchCode, hu]
  | got u rest =>
    have hk := fetchBits_ne_stream k rest 0
    have hd := fetchBits_ne_stream (d + 1) rest 0
    simp only [fetchCode, hu, reduceCtorEq, iff_false]
    split
    · cases hb : fetchBits k rest 0 with
      | got v rest2 => simp
      | short => simp
      | stop cause =>
        rw [hb] at hk
        simpa using hk
    · exact hd

/-- A code cut within its zero bits. -/
theorem fetchCode_cut_in_unary {u : Nat} (d k : Nat) (h : u ≤ 24) :
    CutShort (fetchCode d k) (List.replicate u (some false)) := by
  have hcount := fetchUnary_replicate (n := 0) (u := u) (by omega)
  constructor
  · have := hcount []
    rw [List.append_nil] at this
    simp [fetchCode, this, fetchUnary]
  · intro rest
    simp [fetchCode, hcount, fetchUnary]

/-- A code cut after its 1 bit: `bs` are the bits that follow, fewer than the code has there. -/
theorem fetchCode_cut_after_one {d k u : Nat} {bs : List Bool} (hu : u ≤ 24)
    (hbs : bs.length < if u < 24 then k else d + 1) :
    CutShort (fetchCode d k) (List.replicate u (some false) ++ some true :: bs.map some) := by
  have key : ∀ rest, fetchUnary (List.replicate u (some false) ++ some true :: rest) 0 = .got u rest :=
    fetchUnary_one hu
  rcases hu.lt_or_eq with h | rfl
  · rw [if_pos h] at hbs
    obtain ⟨hshort, hbad⟩ := fetchBits_short hbs 0
    refine ⟨?_, fun rest => ?_⟩
    · rw [fetchCode_of_unary h (key _), hshort]
    · rw [List.append_assoc, List.cons_append, fetchCode_of_unary h (key _), hbad]
  · rw [if_neg (lt_irrefl 24)] at hbs
    obtain ⟨hshort, hbad⟩ := fetchBits_short hbs 0
    refine ⟨?_, fun rest => ?_⟩
    · rw [fetchCode_of_escape (key _), hshort]
    · rw [List.append_assoc, List.cons_append, fetchCode_of_escape (key _), hbad]

/-- The first bits of zeros, a 1 and a tail: they end among the zeros or within the tail. -/
theorem take_unary_cases (u i : Nat) (tail : List Bool) :
    (List.replicate u false ++ true :: tail).take i = List.replicate (min i u) false ∨
    (u < i ∧ (List.replicate u false ++ true :: tail).take i =
      List.replicate u false ++ true :: tail.take (i - u - 1)) := by
  rcases Nat.lt_or_ge u i with h | h
  · right
    obtain ⟨j, rfl⟩ := Nat.exists_eq_add_of_lt h
    refine ⟨h, ?_⟩
    rw [List.take_append, List.length_replicate, List.take_of_length_le (by simp; omega),
      show u + j + 1 - u = j + 1 by omega, List.take_succ_cons]
    rfl
  · left
    rw [List.take_append_of_le_length (by simpa using h), List.take_replicate]

/-- A code that is cut anywhere wants its other bits. -/
theorem fetchCode_cut {d k m i : Nat} (hi : i < (codeOf d k m).length) :
    CutShort (fetchCode d k) (((codeOf d k m).take i).map some) := by
  have main : ∀ (u n : Nat), u ≤ 24 → n = (if u < 24 then k else d + 1) → i < u + 1 + n →
      CutShort (fetchCode d k) (((List.replicate u false ++ true :: natBits n m).take i).map some) := by
    intro u n hu hn hlen
    rcases take_unary_cases u i (natBits n m) with hcut | ⟨hlt, hcut⟩
    · rw [hcut, List.map_replicate]
      exact fetchCode_cut_in_unary d k ((Nat.min_le_right i u).trans hu)
    · rw [hcut, List.map_append, List.map_replicate, List.map_cons]
      refine fetchCode_cut_after_one hu ?_
      rw [← hn, List.length_take, natBits_length]
      omega
  rcases Nat.lt_or_ge (m / 2 ^ k) 24 with h | h
  · rw [codeOf_length_of_lt h] at hi
    rw [codeOf_of_lt h]
    exact main _ _ h.le (by rw [if_pos h]) hi
  · rw [codeOf_length_of_ge h] at hi
    rw [codeOf_of_ge h]
    exact main _ _ le_rfl (by simp) (by omega)

/-! ## Packing (R13) -/

/-- A word gives back the bits it was made from, then zeros. -/
theorem wordBits_bitsWord (bs : List Bool) : wordBits (bitsWord bs) = (bs ++ List.replicate 32 false).take 32 := by
  have hlen : ((bs ++ List.replicate 32 false).take 32).length = 32 := by
    simp
  have hlt := bitsNat_lt ((bs ++ List.replicate 32 false).take 32)
  have hback := natBits_bitsNat ((bs ++ List.replicate 32 false).take 32)
  rw [hlen] at hlt hback
  rw [wordBits, bitsWord, BitVec.toNat_ofNat, Nat.mod_eq_of_lt hlt, hback]

@[simp] theorem packBits_length (n : Nat) (bits : List Bool) : (packBits n bits).length = n := by
  induction n generalizing bits with
  | zero => rfl
  | succ n ih => simp [packBits, ih]

theorem flatMap_wordBits_packBits {n : Nat} {bits : List Bool} (h : bits.length ≤ 32 * n) :
    (packBits n bits).flatMap wordBits = bits ++ List.replicate (32 * n - bits.length) false := by
  induction n generalizing bits with
  | zero => simp [packBits, List.eq_nil_of_length_eq_zero (Nat.le_zero.1 h)]
  | succ n ih =>
    rw [packBits, List.flatMap_cons, wordBits_bitsWord, ih (by simp; omega)]
    rcases Nat.le_total 32 bits.length with hfull | hpart
    · rw [List.take_append_of_le_length (by simp [hfull]), List.take_take, Nat.min_self, ← List.append_assoc,
        List.take_append_drop, List.length_drop]
      congr 2
      omega
    · rw [List.take_of_length_le hpart, List.drop_of_length_le hpart, List.take_append, List.take_of_length_le hpart,
        List.take_replicate, List.append_assoc, List.nil_append, ← List.replicate_add, List.length_nil]
      congr 2
      omega

/-! ## The obligation -/

/-- Settles O5: the two forms of a code, their lengths, and the bounds on the quotient. -/
theorem codesAreUnaryWithRemainderOrEscape : Obligations.CodesAreUnaryWithRemainderOrEscape := by
  refine ⟨fun d k m => ⟨fun h => ⟨?_, codeOf_length_of_lt h⟩, fun h => ⟨?_, codeOf_length_of_ge h⟩⟩, fun d m h => ?_,
    fun d k m hd hk hm => ⟨fun h => (codeOf_length_le_of_lt hd hm h hk).1,
      fun h => (codeOf_length_le_of_lt hd hm h hk).2, fun h => ?_, ?_, fun h => ?_⟩, fun d hd => ?_, ?_⟩
  · simp [codeOf_of_lt h, natBits]
  · simp [codeOf_of_ge h, natBits]
  · rw [codeOf_of_lt (by simpa using h)]
    simp [natBits]
  · by_contra hk4
    have := quotient_lt_sixteen hm (not_le.1 hk4)
    omega
  · rcases Nat.lt_or_ge (m / 2 ^ k) 24 with h | h
    · have := (codeOf_length_le_of_lt hd hm h hk).1
      omega
    · exact (codeOf_length_of_ge h).le
  · have := quotient_lt (k := k) (j := 1) hm (by omega)
    omega
  · have hquot : 23 * 2 ^ (d - 4) / 2 ^ (d - 4) = 23 := Nat.mul_div_cancel _ (Nat.two_pow_pos _)
    refine ⟨23 * 2 ^ (d - 4), ?_, hquot, ?_⟩
    · have hpow : 2 ^ (d + 1) = 32 * 2 ^ (d - 4) := by
        rw [show d + 1 = 5 + (d - 4) by omega, Nat.pow_add]
      have := Nat.two_pow_pos (d - 4)
      omega
    · rw [codeOf_length_of_lt (by omega), hquot]
      omega
  · rintro d (rfl | rfl | rfl) <;> decide

end Sys2Proof.Machine
end

section
/-!
PROOFS. Bursts of samples and rows (R3 to R5, R10, R13 to R16, R18 to R23): the neighbours and the prediction, the
abandonment of coding, the reading of a row, and the agreement of the decoder with the encoder.
-/

set_option Elab.async false
namespace Sys2Proof.Machine

/-! ## Neighbours (R4) and prediction (R5) -/

theorem Context.neighbours_first {c : Context} (hp : c.prev = none) (hc : c.cur = []) :
    c.neighbours = (midVal c.d, midVal c.d, midVal c.d) := by
  simp [Context.neighbours, hp, hc]

theorem Context.neighbours_top {c : Context} {ys : List Nat} {y : Nat} (hp : c.prev = none) (hc : c.cur = ys ++ [y]) :
    c.neighbours = (y, y, y) := by
  cases ys <;> simp [Context.neighbours, hp, hc, List.getD_eq_getElem?_getD]

theorem Context.neighbours_left_edge {c : Context} {up : List Nat} {y : Nat} (hp : c.prev = some up) (hc : c.cur = [])
    (hy : up[0]? = some y) : c.neighbours = (y, y, y) := by
  simp [Context.neighbours, hp, hc, List.getD_eq_getElem?_getD, hy]

theorem Context.neighbours_inner {c : Context} {up ys : List Nat} {y above corner : Nat} (hp : c.prev = some up)
    (hc : c.cur = ys ++ [y]) (ha : up[ys.length + 1]? = some above) (hcorner : up[ys.length]? = some corner) :
    c.neighbours = (y, above, corner) := by
  cases ys <;> simp_all [Context.neighbours, List.getD_eq_getElem?_getD]

theorem getD_le {l : List Nat} {top : Nat} (h : ∀ y ∈ l, y ≤ top) (i : Nat) : l.getD i 0 ≤ top := by
  rw [List.getD_eq_getElem?_getD]
  cases hy : l[i]? with
  | none => exact Nat.zero_le top
  | some y => exact h y (List.mem_of_getElem? hy)

theorem midVal_le {d : Nat} (hd : 1 ≤ d) : midVal d ≤ maxVal d :=
  le_maxVal_iff.2 (Nat.pow_lt_pow_right (by norm_num) (by omega))

/-- The neighbours of a sample lie in 0..MAXVAL. -/
theorem Context.neighbours_le {c : Context} {a b cc : Nat} (hc : c.healthy) (hd : 1 ≤ c.d)
    (h : c.neighbours = (a, b, cc)) : a ≤ maxVal c.d ∧ b ≤ maxVal c.d := by
  obtain ⟨hup, hcur⟩ := hc
  have hleft := getD_le hcur
  have hmid := midVal_le hd
  unfold Context.neighbours at h
  split at h
  · cases h
    exact ⟨hmid, hmid⟩
  · cases h
    exact ⟨hleft _, hleft _⟩
  · next up hprev _ =>
    cases h
    exact ⟨getD_le (hup up hprev).2 _, getD_le (hup up hprev).2 _⟩
  · next up _ _ hprev _ =>
    cases h
    exact ⟨hleft _, getD_le (hup up hprev).2 _⟩

theorem predict_between (k : Predictor) (a b cc : Nat) :
    min a b ≤ predict k a b cc ∧ predict k a b cc ≤ max a b := by
  cases k with
  | left => exact ⟨Nat.min_le_left a b, Nat.le_max_left a b⟩
  | above => exact ⟨Nat.min_le_right a b, Nat.le_max_right a b⟩
  | edge =>
    unfold predict
    dsimp only
    split
    · omega
    · split <;> omega

theorem predict_edge_of_high {a b cc : Nat} (h : max a b ≤ cc) : predict .edge a b cc = min a b := by
  simp only [predict, if_pos h]

theorem predict_edge_of_low {a b cc : Nat} (h : cc ≤ min a b) : predict .edge a b cc = max a b := by
  simp only [predict, if_pos h]
  split
  · omega
  · rfl

theorem predict_edge_between {a b cc : Nat} (hlow : min a b < cc) (hhigh : cc < max a b) :
    (predict .edge a b cc : Int) = a + b - cc := by
  simp only [predict, if_neg (not_le.mpr hhigh), if_neg (not_le.mpr hlow)]
  omega

theorem Context.prediction_eq {c : Context} {a b cc : Nat} (h : c.neighbours = (a, b, cc)) :
    c.prediction = predict c.predictor a b cc := by
  simp [Context.prediction, h]

theorem Context.prediction_le {c : Context} (hc : c.healthy) (hd : 1 ≤ c.d) : c.prediction ≤ maxVal c.d := by
  obtain ⟨ha, hb⟩ := Context.neighbours_le hc hd (show c.neighbours = (_, _, _) from rfl)
  rw [Context.prediction_eq (show c.neighbours = (_, _, _) from rfl)]
  exact (predict_between _ _ _ _).2.trans (max_le ha hb)

/-! ## What entering a sample keeps -/

theorem Context.push_healthy {c : Context} {y : Nat} (hc : c.healthy) (hy : y ≤ maxVal c.d) : (c.push y).healthy := by
  obtain ⟨hup, hcur⟩ := hc
  have hrow : ∀ z ∈ c.cur ++ [y], z ≤ maxVal c.d := by
    intro z hz
    rcases List.mem_append.1 hz with hz | hz
    · exact hcur z hz
    · rw [List.mem_singleton.1 hz]
      exact hy
  by_cases hlast : c.cur.length + 1 = c.w
  · rw [Context.push_of_last hlast]
    refine ⟨fun up h => ?_, fun z hz => absurd hz List.not_mem_nil⟩
    cases h
    exact ⟨by simpa using hlast, hrow⟩
  · rw [Context.push_of_lt hlast]
    exact ⟨hup, hrow⟩

theorem Context.entered_healthy {c : Context} (hc : c.healthy) (x : Nat) : (c.entered x).healthy :=
  Context.push_healthy hc (reconstruct_le _ _ _ _)

/-- The Rice state after a sample, which the encoder and the decoder update alike (R10). -/
theorem Context.pushCoded_rice (c : Context) (q : Int) (y : Nat) :
    (c.n + 1 ≠ 64 → (c.pushCoded q y).a = c.a + q.natAbs ∧ (c.pushCoded q y).n = c.n + 1) ∧
      (c.n + 1 = 64 → (c.pushCoded q y).a = (c.a + q.natAbs) / 2 ∧ (c.pushCoded q y).n = 32) := by
  constructor
  · intro h
    simp [Context.pushCoded, riceUpdate_of_ne h]
  · intro h
    simp [Context.pushCoded, riceUpdate_of_eq h]

/-! ## Several samples in the encoder (R15) -/

theorem Context.encodeAll_cons_of_none {c : Context} {x : Nat} (xs : List Nat) (h : c.encode x = none) :
    c.encodeAll (x :: xs) = none := by
  simp [Context.encodeAll, h]

theorem Context.encodeAll_cons_of_some {c c1 : Context} {x : Nat} {bs : List Bool} (xs : List Nat)
    (h : c.encode x = some (c1, bs)) :
    c.encodeAll (x :: xs) = (c1.encodeAll xs).map fun r => (r.1, bs ++ r.2) := by
  cases hr : c1.encodeAll xs <;> simp [Context.encodeAll, h, hr]

theorem Context.encodeAll_cons_eq_some {c c2 : Context} {x : Nat} {xs : List Nat} {bits : List Bool}
    (h : c.encodeAll (x :: xs) = some (c2, bits)) :
    ∃ bits2, (c.entered x).encodeAll xs = some (c2, bits2) ∧ bits = c.sampleCode x ++ bits2 := by
  cases he : c.encode x with
  | none =>
    rw [Context.encodeAll_cons_of_none xs he] at h
    cases h
  | some r =>
    obtain ⟨c1, bs⟩ := r
    rw [Context.encodeAll_cons_of_some xs he, Option.map_eq_some_iff] at h
    obtain ⟨⟨c3, bits2⟩, hall, hr⟩ := h
    obtain ⟨rfl, rfl⟩ := Context.encode_eq_some he
    cases hr
    exact ⟨bits2, hall, rfl⟩

/-- Samples coded after samples coded. -/
theorem Context.encodeAll_append {c c1 : Context} {pre : List Nat} {bits : List Bool} (xs : List Nat)
    (h : c.encodeAll pre = some (c1, bits)) :
    c.encodeAll (pre ++ xs) = (c1.encodeAll xs).map fun r => (r.1, bits ++ r.2) := by
  induction pre generalizing c bits with
  | nil =>
    cases h
    simp
  | cons x pre ih =>
    obtain ⟨bits2, hall, rfl⟩ := Context.encodeAll_cons_eq_some h
    cases he : c.encode x with
    | none =>
      rw [Context.encodeAll_cons_of_none pre he] at h
      cases h
    | some r =>
      obtain ⟨c2, bs⟩ := r
      obtain ⟨rfl, rfl⟩ := Context.encode_eq_some he
      rw [List.cons_append, Context.encodeAll_cons_of_some _ he, ih hall, Option.map_map]
      simp [Function.comp_def]

theorem Context.encodeAll_eq_none_of_failing {c c1 : Context} {pre post : List Nat} {x : Nat} {bits : List Bool}
    (h : c.encodeAll pre = some (c1, bits)) (hx : c1.encode x = none) : c.encodeAll (pre ++ x :: post) = none := by
  rw [Context.encodeAll_append _ h, Context.encodeAll_cons_of_none post hx]
  rfl

/-- Coding is abandoned at the first sample that cannot be entered, and only there. -/
theorem Context.encodeAll_eq_none_iff (c : Context) (xs : List Nat) :
    c.encodeAll xs = none ↔ ∃ pre x post c1 bits,
      xs = pre ++ x :: post ∧ c.encodeAll pre = some (c1, bits) ∧ c1.encode x = none := by
  constructor
  · intro h
    induction xs generalizing c with
    | nil => cases h
    | cons x xs ih =>
      cases he : c.encode x with
      | none => exact ⟨[], x, xs, c, [], rfl, rfl, he⟩
      | some r =>
        obtain ⟨c1, bs⟩ := r
        rw [Context.encodeAll_cons_of_some xs he, Option.map_eq_none_iff] at h
        obtain ⟨pre, z, post, c2, bits, rfl, hpre, hz⟩ := ih c1 h
        refine ⟨x :: pre, z, post, c2, bs ++ bits, rfl, ?_, hz⟩
        rw [Context.encodeAll_cons_of_some pre he, hpre]
        rfl
  · rintro ⟨pre, x, post, c1, bits, rfl, hpre, hx⟩
    exact Context.encodeAll_eq_none_of_failing hpre hx

/-- The samples before the failing one stand entered, and nothing else. -/
theorem Context.codedPrefix_of_failing {c c1 : Context} {pre post : List Nat} {x : Nat} {bits : List Bool}
    (h : c.encodeAll pre = some (c1, bits)) (hx : c1.encode x = none) : c.codedPrefix (pre ++ x :: post) = c1 := by
  induction pre generalizing c bits with
  | nil =>
    cases h
    simp [Context.codedPrefix, hx]
  | cons z pre ih =>
    obtain ⟨bits2, hall, -⟩ := Context.encodeAll_cons_eq_some h
    cases he : c.encode z with
    | none =>
      rw [Context.encodeAll_cons_of_none pre he] at h
      cases h
    | some r =>
      obtain ⟨c2, bs⟩ := r
      obtain ⟨rfl, rfl⟩ := Context.encode_eq_some he
      simpa [Context.codedPrefix, he] using ih hall

/-! ## A slot burst in an ENCODE run (R15, R87, R88) -/

theorem wordSamples_eq (d : Nat) (w : Word) :
    wordSamples d w = [w.toNat / 65536 % 2 ^ d, w.toNat % 65536 % 2 ^ d] := by
  have hw : w.toNat / 65536 % 65536 = w.toNat / 65536 := Nat.mod_eq_of_lt (by have := w.isLt; omega)
  simp [wordSamples, BitVec.extractLsb'_toNat, Nat.shiftRight_eq_div_pow, hw]

/-- The samples that a run takes from the words of a slot burst. -/
def EncodeRun.burstSamples (r : EncodeRun) (ws : List ReadWord) : List Nat :=
  (ws.flatMap fun w => wordSamples r.ctx.d w.word).take (min 16 r.left)

theorem EncodeRun.burstSamples_eq (r : EncodeRun) (ws : List ReadWord) :
    r.burstSamples ws = (ws.flatMap fun w =>
      [w.word.toNat / 65536 % 2 ^ r.ctx.d, w.word.toNat % 65536 % 2 ^ r.ctx.d]).take (min 16 r.left) := by
  simp only [EncodeRun.burstSamples, wordSamples_eq]

theorem EncodeRun.feed_coded {r : EncodeRun} {ws : List ReadWord} {c : Context} {bits : List Bool}
    (hp : r.phase = .coding) (h : r.ctx.encodeAll (r.burstSamples ws) = some (c, bits)) :
    r.feed ws = { r with ctx := c, left := r.left - (r.burstSamples ws).length, out := r.out ++ bits } := by
  unfold EncodeRun.burstSamples at h ⊢
  simp [EncodeRun.feed, hp, h]

theorem EncodeRun.feed_abandons {r : EncodeRun} {ws : List ReadWord} (hp : r.phase = .coding)
    (h : r.ctx.encodeAll (r.burstSamples ws) = none) :
    r.feed ws = { r with phase := .rewriting, ctx := (r.ctx.codedPrefix (r.burstSamples ws)).abandon,
                         left := r.samples, out := [], words := 0 } := by
  unfold EncodeRun.burstSamples at h ⊢
  simp [EncodeRun.feed, hp, h]

theorem EncodeRun.feed_rewrites {r : EncodeRun} (ws : List ReadWord) (hp : r.phase = .rewriting) :
    r.feed ws = { r with left := r.left - (r.burstSamples ws).length,
                         out := r.out ++ (r.burstSamples ws).flatMap (natBits r.ctx.d) } := by
  simp [EncodeRun.feed, EncodeRun.burstSamples, hp]

theorem Context.result_of_abandoned {c : Context} (h : c.form = .abandoned) :
    c.result = (.raw, (c.hr * c.w * c.d + 31) / 32) := by
  simp [Context.result, h, wordsOf, ceilDiv, rawBits]

theorem Context.result_of_coded {c : Context} (h : c.form ≠ .abandoned) : c.result = (.coded, (c.bits + 31) / 32) := by
  cases hf : c.form <;> simp_all [Context.result, wordsOf, ceilDiv]

/-! ## Several samples in the decoder (R20, R23) -/

theorem Decoder.samples_of_got {k : Decoder} {c : Context} {rest : List (Option Bool)} (n : Nat)
    (h : k.ctx.decode k.buf = .got c rest) : k.samples (n + 1) = { k with ctx := c, buf := rest }.samples n := by
  simp [Decoder.samples, h]

theorem Decoder.samples_of_stop {k : Decoder} {cause : Detail} (n : Nat) (h : k.ctx.decode k.buf = .stop cause) :
    k.samples (n + 1) = (k, .failed cause) := by
  simp [Decoder.samples, h]

theorem Decoder.samples_of_short {k : Decoder} (n : Nat) (h : k.ctx.decode k.buf = .short) :
    k.samples (n + 1) = (k, if k.canRead then .needWords else .failed .stream) := by
  simp [Decoder.samples, h]

theorem Decoder.canRead_iff (k : Decoder) : k.canRead = true ↔ k.fetched < k.words ∧ k.ext ≠ none := by
  simp [Decoder.canRead, Option.isSome_iff_ne_none]

theorem Decoder.samples_needWords {k : Decoder} (n : Nat) (h : k.ctx.decode k.buf = .short) (hw : k.fetched < k.words)
    (he : k.ext ≠ none) : k.samples (n + 1) = (k, .needWords) := by
  rw [Decoder.samples_of_short n h, if_pos (k.canRead_iff.2 ⟨hw, he⟩)]

theorem Decoder.samples_ended {k : Decoder} (n : Nat) (h : k.ctx.decode k.buf = .short)
    (hend : k.words ≤ k.fetched ∨ k.ext = none) : k.samples (n + 1) = (k, .failed .stream) := by
  rw [Decoder.samples_of_short n h, if_neg]
  rw [Decoder.canRead_iff]
  rcases hend with hend | hend
  · exact fun hr => absurd hr.1 (not_lt.mpr hend)
  · exact fun hr => hr.2 hend

/-- A row is as many samples as its columns left. -/
theorem Decoder.runRow_eq {k : Decoder} {n : Nat} (h : k.ctx.cur.length + n = k.ctx.w) : k.runRow = k.samples n := by
  rw [Decoder.runRow, ← h, Nat.add_sub_cancel_left]

/-! ## A raw row (R14, R22) -/

theorem Context.decode_raw_cut {c : Context} {begun : List Bool} (hf : c.form = .raw) (h : begun.length < c.d) :
    CutShort c.decode (begun.map some) := by
  obtain ⟨hshort, hbad⟩ := fetchBits_short h 0
  refine ⟨?_, fun rest => ?_⟩
  · rw [Context.decode_raw hf, hshort]
  · rw [Context.decode_raw hf, hbad]

theorem Context.decode_raw_natBits {c : Context} {x : Nat} (hf : c.form = .raw) (hx : x < 2 ^ c.d)
    (rest : List (Option Bool)) :
    c.decode ((natBits c.d x).map some ++ rest) = .got { c.push x with bits := c.bits + c.d } rest := by
  rw [Context.decode_raw hf, fetchBits_natBits, Nat.mod_eq_of_lt hx]
  simp

/-- The rest of a row of raw samples reads back exactly: the row is delivered, and only the row state and the bit count
move. -/
theorem Decoder.samples_raw_row {xs : List Nat} {k : Decoder} {rest : List (Option Bool)} (hf : k.ctx.form = .raw)
    (hlen : k.ctx.cur.length + xs.length = k.ctx.w) (hne : xs ≠ []) (hx : ∀ x ∈ xs, x < 2 ^ k.ctx.d)
    (hbuf : k.buf = (xs.flatMap fun x => (natBits k.ctx.d x).map some) ++ rest) :
    k.samples xs.length = ({ k with
      ctx := { k.ctx with row := k.ctx.row + 1, prev := some (k.ctx.cur ++ xs), cur := []
                          bits := k.ctx.bits + xs.length * k.ctx.d }
      buf := rest }, .rowDone) := by
  induction xs generalizing k with
  | nil => exact absurd rfl hne
  | cons x xs ih =>
    rw [List.flatMap_cons, List.append_assoc] at hbuf
    have hgot := Context.decode_raw_natBits hf (hx x List.mem_cons_self)
      ((xs.flatMap fun x => (natBits k.ctx.d x).map some) ++ rest)
    rw [← hbuf] at hgot
    rw [List.length_cons, Decoder.samples_of_got _ hgot]
    rw [List.length_cons] at hlen
    by_cases hlast : xs = []
    · subst hlast
      simp [Decoder.samples, Context.push_of_last (y := x) (by simpa using hlen)]
    · have hmore : k.ctx.cur.length + 1 ≠ k.ctx.w := by
        have := List.length_pos_iff.2 hlast
        omega
      have hrest := ih hf (k := { k with
          ctx := { k.ctx with cur := k.ctx.cur ++ [x], bits := k.ctx.bits + k.ctx.d }
          buf := (xs.flatMap fun x => (natBits k.ctx.d x).map some) ++ rest })
        (by simp; omega) hlast (fun z hz => hx z (List.mem_cons_of_mem x hz)) rfl
      rw [Context.push_of_lt hmore]
      refine hrest.trans ?_
      simp
      ring

/-! ## A coded row (R21, R23) -/

theorem Context.decode_coded_short {c : Context} {buf : List (Option Bool)} (hf : c.form ≠ .raw)
    (h : fetchCode c.d (riceParam c.a c.n c.d) buf = .short) : c.decode buf = .short := by
  rw [Context.decode_coded hf, h]

theorem Context.decode_coded_stop {c : Context} {buf : List (Option Bool)} {cause : Detail} (hf : c.form ≠ .raw)
    (h : fetchCode c.d (riceParam c.a c.n c.d) buf = .stop cause) : c.decode buf = .stop cause := by
  rw [Context.decode_coded hf, h]

/-- The context of the decoder that stands where an encoder's stands. -/
def Context.decoding (c : Context) (bits : Nat) : Context := { c with form := .coded, bits := bits }

theorem Context.mapValue_quantised_lt {c : Context} {x : Nat} (hc : c.healthy) (hd : 1 ≤ c.d) (hx : x ≤ maxVal c.d) :
    mapValue (c.quantised x) < 2 ^ (c.d + 1) :=
  mapValue_lt (natAbs_quantise_le_maxVal c.e (natAbs_sub_le_maxVal hx (Context.prediction_le hc hd)))

/-- The code of a sample brings the decoder to where the encoder goes, whatever follows the code. -/
theorem Context.decode_sampleCode {c : Context} {x : Nat} (hc : c.healthy) (hd : 1 ≤ c.d) (hx : x ≤ maxVal c.d)
    (b : Nat) (rest : List (Option Bool)) :
    (c.decoding b).decode ((c.sampleCode x).map some ++ rest) =
      .got ((c.entered x).decoding (b + (c.sampleCode x).length)) rest := by
  have hcode : fetchCode (c.decoding b).d (riceParam (c.decoding b).a (c.decoding b).n (c.decoding b).d)
      ((c.sampleCode x).map some ++ rest) = .got (mapValue (c.quantised x)) rest :=
    fetchCode_codeOf (Context.mapValue_quantised_lt hc hd hx) rest
  have hstate : (c.decoding b).pushCoded (c.quantised x) (c.reconstructed x) =
      (c.pushCoded (c.quantised x) (c.reconstructed x)).decoding b := Context.pushCoded_with c _ _ .coded b
  rw [Context.decode_coded (by simp [Context.decoding]), hcode]
  have hpred : reconstruct (c.decoding b).d (c.decoding b).e (c.decoding b).prediction (c.quantised x) =
      c.reconstructed x := rfl
  simp only [unmapValue_mapValue, hpred, hstate]
  simp [Context.decoding, Context.entered]

theorem Context.reconstructed_within {c : Context} {x : Nat} (hx : x ≤ maxVal c.d) :
    ((x : Int) - c.reconstructed x).natAbs ≤ c.e := by
  have := reconstruct_within c.d c.e c.prediction hx
  rw [← Int.natAbs_neg, neg_sub]
  exact this

/-- The rest of a row that the encoder coded decodes to a row within the error bound, and the decoder's context stands
where the encoder's does. -/
theorem Decoder.samples_coded_row {xs : List Nat} {c c2 : Context} {bits : List Bool} {rest : List (Option Bool)}
    {k : Decoder} {b : Nat} (hc : c.healthy) (hd : 1 ≤ c.d) (hlen : c.cur.length + xs.length = c.w) (hne : xs ≠ [])
    (hx : ∀ x ∈ xs, x ≤ maxVal c.d) (henc : c.encodeAll xs = some (c2, bits)) (hctx : k.ctx = c.decoding b)
    (hbuf : k.buf = bits.map some ++ rest) :
    ∃ (b2 : Nat) (ys : List Nat),
      k.samples xs.length = ({ k with ctx := c2.decoding b2, buf := rest }, .rowDone) ∧
      c2.prev = some (c.cur ++ ys) ∧ List.Forall₂ (fun (x y : Nat) => ((x : Int) - y).natAbs ≤ c.e) xs ys ∧
      c2.healthy := by
  induction xs generalizing c bits k b with
  | nil => exact absurd rfl hne
  | cons x xs ih =>
    obtain ⟨bits2, henc2, rfl⟩ := Context.encodeAll_cons_eq_some henc
    have hwithin := Context.reconstructed_within (c := c) (hx x List.mem_cons_self)
    have hgot := Context.decode_sampleCode hc hd (hx x List.mem_cons_self) b (bits2.map some ++ rest)
    rw [← hctx, ← List.append_assoc, ← List.map_append, ← hbuf] at hgot
    rw [List.length_cons, Decoder.samples_of_got _ hgot]
    rw [List.length_cons] at hlen
    by_cases hlast : xs = []
    · subst hlast
      cases henc2
      refine ⟨_, [c.reconstructed x], rfl, ?_, .cons hwithin .nil, Context.entered_healthy hc x⟩
      rw [Context.entered_prev, Context.push_of_last (by simpa using hlen)]
    · have hmore : c.cur.length + 1 ≠ c.w := by
        have := List.length_pos_iff.2 hlast
        omega
      have hcur : (c.entered x).cur = c.cur ++ [c.reconstructed x] := by
        rw [Context.entered_cur, Context.push_of_lt hmore]
      obtain ⟨b2, ys, hrun, hprev, hys, hhealthy⟩ := ih (Context.entered_healthy hc x) (by simpa using hd)
        (by rw [hcur]; simp; omega) hlast
        (fun z hz => by simpa using hx z (List.mem_cons_of_mem x hz)) henc2
        (k := { k with ctx := (c.entered x).decoding (b + (c.sampleCode x).length), buf := bits2.map some ++ rest })
        rfl rfl
      refine ⟨b2, c.reconstructed x :: ys, hrun, ?_, .cons hwithin (by simpa using hys), hhealthy⟩
      rw [hprev, hcur, List.append_assoc]
      rfl

/-! ## The obligations -/

/-- Settles O6: codes and words by their read-back lemmas, rows of raw samples by induction on the row, and the
abandonment by the first sample that is not entered. -/
theorem codesAndWordsReadBackAsWritten : Obligations.CodesAndWordsReadBackAsWritten := by
  refine ⟨fun d k m rest hm => fetchCode_codeOf hm rest, fetchCode_eq_stream_iff, fun d k m i _ hi => fetchCode_cut hi,
    fun r => rfl, fun c buf hf => ⟨Context.decode_coded_short hf, fun cause => Context.decode_coded_stop hf⟩,
    fun c begun hf h => Context.decode_raw_cut hf h,
    fun k => ⟨rfl, rfl, fun n => ⟨fun c rest => Decoder.samples_of_got n, fun cause => Decoder.samples_of_stop n,
      Decoder.samples_needWords n, Decoder.samples_ended n⟩⟩,
    fun n bits h => ⟨packBits_length n bits, flatMap_wordBits_packBits h⟩, ?_,
    fun c x => ⟨c.encode_eq_none_iff x, fun c2 bits h => ?_⟩, Context.encodeAll_eq_none_iff, ?_,
    fun c => ⟨Context.result_of_abandoned, Context.result_of_coded⟩⟩
  · intro k xs rest hf hcur hw hlen hx hbuf
    have hcols : k.ctx.cur.length + xs.length = k.ctx.w := by simpa [hcur] using hlen
    have hrow := Decoder.samples_raw_row (k := k) (xs := xs) (rest := rest) hf hcols
      (List.length_pos_iff.1 (by omega)) hx (by simpa [natBits, Function.comp_def] using hbuf)
    refine ⟨_, (Decoder.runRow_eq hcols).trans hrow, rfl, ?_, rfl, rfl, rfl, ?_⟩
    · simp [Decoder.lastRow, hcur]
    · rw [hlen]
  · obtain ⟨rfl, rfl⟩ := Context.encode_eq_some h
    exact ⟨rfl, rfl⟩
  · intro r ws
    rw [← EncodeRun.burstSamples_eq]
    refine ⟨fun hp => ⟨fun c bits => EncodeRun.feed_coded hp, fun pre x post c bits hxs hpre hx => ?_⟩,
      EncodeRun.feed_rewrites ws⟩
    have hnone := Context.encodeAll_eq_none_of_failing (post := post) hpre hx
    rw [← hxs] at hnone
    rw [EncodeRun.feed_abandons hp hnone, hxs, Context.codedPrefix_of_failing hpre hx]
    rfl

/-- Settles O7: the neighbours by position, the predictions by case, the Rice state by the sample, and the row by
induction along it, encoder and decoder side by side. -/
theorem encodedRowsDecodeWithinTheErrorBound : Obligations.EncodedRowsDecodeWithinTheErrorBound := by
  refine ⟨fun pr w hr form => rfl, fun c => ⟨Context.neighbours_first, fun ys y => Context.neighbours_top,
    fun up y => Context.neighbours_left_edge, fun up ys y above corner => Context.neighbours_inner, ?_⟩,
    fun c c2 => ⟨fun x bits h => ?_, fun buf rest hf h => ?_⟩, ?_⟩
  · intro a b cc h
    rw [Context.prediction_eq h]
    obtain ⟨hmin, hmax⟩ := predict_between c.predictor a b cc
    refine ⟨fun hp => by rw [hp]; rfl, fun hp => by rw [hp]; rfl, fun hp hcc => ?_, fun hp hcc => ?_,
      fun hp hlow hhigh => ?_, hmin, hmax⟩
    · rw [hp, predict_edge_of_high hcc]
    · rw [hp, predict_edge_of_low hcc]
    · rw [hp, predict_edge_between hlow hhigh]
  · obtain ⟨rfl, -⟩ := Context.encode_eq_some h
    exact c.pushCoded_rice (c.quantised x) (c.reconstructed x)
  · obtain ⟨m, hm, rfl⟩ := Context.decode_coded_got hf h
    exact ⟨m, hm, c.pushCoded_rice (unmapValue m) (reconstruct c.d c.e c.prediction (unmapValue m))⟩
  · intro c c2 xs bits rest k hc hd hcur hw hlen hx henc hctx hbuf
    have hcols : c.cur.length + xs.length = c.w := by simpa [hcur] using hlen
    obtain ⟨b2, ys, hrow, hprev, hys, hhealthy⟩ := Decoder.samples_coded_row (k := k) hc hd hcols
      (List.length_pos_iff.1 (by omega)) hx henc hctx hbuf
    have hrun : k.runRow = k.samples xs.length := Decoder.runRow_eq (by rw [hctx]; exact hcols)
    rw [hcur, List.nil_append] at hprev
    exact ⟨_, ys, hrun.trans hrow, rfl, hprev, hys, rfl, hhealthy⟩

end Sys2Proof.Machine
end

section
/-!
PROOFS. The dispatcher (R78 to R87, R92): the first job of an order, the place freed in a queue, the taking of a job by
a lane; and the record updates these share with the press decoder.
-/

set_option Elab.async false
namespace Sys2Proof.Machine

/-! ## Page records and placed operations -/

theorem State.id_of_page {s : State} {id : Nat} {p : Page} (h : s.page id = some p) : p.id = id := by
  simpa using List.find?_some h

theorem State.modPage_eq (s : State) (id : Nat) (f : Page → Page) :
    s.modPage id f = { s with dir := { s.dir with pages := pagesWith id f s.dir.pages } } := rfl

theorem State.damageEvent_eq (s : State) (id : Nat) :
    s.damageEvent id = { s with dir := { s.dir with pages := pagesWith id Page.damagedOnce s.dir.pages } } := by
  have hf : (fun p : Page => { p with damaged := true, damageEvents := satAdd 255 p.damageEvents 1 }) =
      Page.damagedOnce := rfl
  rw [State.damageEvent, State.modPage_eq, hf]

/-- An operation placed (R128) changes the arbiter alone. -/
theorem State.placeOp_eq (s : State) (op : TableOp) : s.placeOp op = { s with arb := s.opPlaced op } := by
  unfold State.placeOp State.opPlaced
  cases s.stillMade op.client <;> rfl

theorem State.placeRead_eq (s : State) (c : Client) (header index n : Nat) (checked : Bool) :
    s.placeRead c header index n checked =
      { s with arb := s.opPlaced ⟨c, recordBurst header index, .read (recordMask index n) checked⟩ } :=
  s.placeOp_eq _

/-! ## The first job of an order -/

theorem firstJob_eq_none {before : Job → Job → Bool} {l : List Job} (h : firstJob before l = none) : l = [] := by
  cases l with
  | nil => rfl
  | cons j rest =>
    unfold firstJob at h
    split at h
    · cases h
    · split at h <;> cases h

/-- In an order that is asymmetric, and whose converse is transitive, nothing stands before the first job. -/
theorem firstJob_eq_some {before : Job → Job → Bool} (hasymm : ∀ j k, before j k = true → before k j = false)
    (htrans : ∀ i j k, before j i = false → before k j = false → before k i = false) {l : List Job} {j : Job}
    (h : firstJob before l = some j) : j ∈ l ∧ ∀ k ∈ l, before k j = false := by
  have hirrefl : ∀ i, before i i = false := by
    intro i
    cases hi : before i i with
    | false => rfl
    | true => rw [hasymm i i hi] at hi; cases hi
  induction l generalizing j with
  | nil => cases h
  | cons i rest ih =>
    cases hr : firstJob before rest with
    | none =>
      simp only [firstJob, hr, Option.some.injEq] at h
      subst h
      simp [firstJob_eq_none hr, hirrefl]
    | some k =>
      obtain ⟨hmem, hfirst⟩ := ih hr
      simp only [firstJob, hr] at h
      split at h
      · next hk =>
        cases h
        exact ⟨List.mem_cons_of_mem i hmem, List.forall_mem_cons.2 ⟨hasymm _ _ hk, hfirst⟩⟩
      · next hk =>
        cases h
        refine ⟨List.mem_cons_self, List.forall_mem_cons.2 ⟨hirrefl _, fun m hm => ?_⟩⟩
        exact htrans _ _ _ (by simpa using hk) (hfirst m hm)

theorem Job.ahead_eq_false_iff (k j : Job) :
    k.ahead j = false ↔ j.cls < k.cls ∨ (j.cls = k.cls ∧ j.arrival ≤ k.arrival) := by
  simp only [Job.ahead, Bool.or_eq_false_iff, Bool.and_eq_false_iff, decide_eq_false_iff_not, beq_eq_false_iff_ne]
  omega

theorem Job.earlier_eq_false_iff (k j : Job) : k.earlier j = false ↔ j.arrival ≤ k.arrival := by
  simp [Job.earlier]

/-- The job a lane takes (R85): of the lowest class, the earliest within it. -/
theorem firstJob_ahead {l : List Job} {j : Job} (h : firstJob Job.ahead l = some j) :
    j ∈ l ∧ ∀ k ∈ l, j.cls < k.cls ∨ (j.cls = k.cls ∧ j.arrival ≤ k.arrival) := by
  obtain ⟨hmem, hfirst⟩ := firstJob_eq_some (before := Job.ahead) (fun j k hjk => by
    rw [Job.ahead_eq_false_iff]
    simp only [Job.ahead, Bool.or_eq_true, Bool.and_eq_true, decide_eq_true_eq, beq_iff_eq] at hjk
    omega) (fun i j k => by simp only [Job.ahead_eq_false_iff]; omega) h
  exact ⟨hmem, fun k hk => (k.ahead_eq_false_iff j).1 (hfirst k hk)⟩

/-- The job a freed place goes to (R84): the earliest. -/
theorem firstJob_earlier {l : List Job} {j : Job} (h : firstJob Job.earlier l = some j) :
    j ∈ l ∧ ∀ k ∈ l, j.arrival ≤ k.arrival := by
  obtain ⟨hmem, hfirst⟩ := firstJob_eq_some (before := Job.earlier) (fun j k hjk => by
    rw [Job.earlier_eq_false_iff]
    simp only [Job.earlier, decide_eq_true_eq] at hjk
    omega) (fun i j k => by simp only [Job.earlier_eq_false_iff]; omega) h
  exact ⟨hmem, fun k hk => (k.earlier_eq_false_iff j).1 (hfirst k hk)⟩

/-! ## A place freed in a queue (R84) -/

theorem State.movePending_of_full {s : State} {l : Lane} (h : 8 ≤ (s.disp.queues.get l).length) :
    s.movePending l = s := by
  rw [State.movePending, if_pos (show Config.laneQueuePlaces ≤ _ from h)]

theorem State.movePending_of_none {s : State} {l : Lane} (h : ∀ k ∈ s.disp.allPending, k.lane ≠ l) :
    s.movePending l = s := by
  rcases Nat.lt_or_ge (s.disp.queues.get l).length 8 with hroom | hfull
  · have hnone : (s.disp.allPending.filter fun j => j.lane == l) = [] := by
      simpa [List.filter_eq_nil_iff] using h
    simp only [State.movePending, if_neg (show ¬ Config.laneQueuePlaces ≤ _ from not_le.mpr hroom), hnone, firstJob]
  · exact State.movePending_of_full hfull

/-- The lists that a place freed changes: the queue takes the job, and no pending-issue list keeps it. -/
def State.pendingMoved (s : State) (l : Lane) (j : Job) : State :=
  let kept (y : Link) (t : SlotId) := ((s.disp.pendings.get y).get t).filter fun k => k.arrival != j.arrival
  { s with disp := { s.disp with
      queues := s.disp.queues.set l (s.disp.queues.get l ++ [j])
      pendings := ⟨⟨kept .a .s0, kept .a .s1⟩, ⟨kept .b .s0, kept .b .s1⟩⟩ } }

theorem State.movePending_of_some {s : State} {l : Lane} (hroom : (s.disp.queues.get l).length < 8)
    (h : ∃ k ∈ s.disp.allPending, k.lane = l) :
    ∃ j ∈ s.disp.allPending, j.lane = l ∧ (∀ k ∈ s.disp.allPending, k.lane = l → j.arrival ≤ k.arrival) ∧
      s.movePending l = s.pendingMoved l j := by
  obtain ⟨k, hk, hl⟩ := h
  have hk2 : k ∈ s.disp.allPending.filter fun j => j.lane == l := List.mem_filter.2 ⟨hk, by simpa using hl⟩
  cases hj : firstJob Job.earlier (s.disp.allPending.filter fun j => j.lane == l) with
  | none =>
    rw [firstJob_eq_none hj] at hk2
    cases hk2
  | some j =>
    obtain ⟨hmem, hfirst⟩ := firstJob_earlier hj
    obtain ⟨hpending, hlane⟩ := List.mem_filter.1 hmem
    refine ⟨j, hpending, by simpa using hlane, fun k hk hkl => ?_, ?_⟩
    · exact hfirst k (List.mem_filter.2 ⟨hk, by simpa using hkl⟩)
    · simp only [State.movePending, if_neg (show ¬ Config.laneQueuePlaces ≤ _ from not_le.mpr hroom), hj]
      rfl

/-- A freed place changes no lane. -/
@[simp] theorem State.movePending_lanes (s : State) (l : Lane) : (s.movePending l).disp.lanes = s.disp.lanes := by
  rcases Nat.lt_or_ge (s.disp.queues.get l).length 8 with hroom | hfull
  · by_cases h : ∃ k ∈ s.disp.allPending, k.lane = l
    · obtain ⟨j, -, -, -, hmoved⟩ := State.movePending_of_some hroom h
      rw [hmoved]
      rfl
    · rw [State.movePending_of_none fun k hk hl => h ⟨k, hk, hl⟩]
  · rw [State.movePending_of_full hfull]

/-! ## A lane takes a job (R85, R87, R92) -/

theorem State.laneTake_of_busy {s : State} {l : Lane} (h : s.lane l ≠ .idle) : s.laneTake l = s := by
  unfold State.laneTake
  split
  · next hidle => exact absurd hidle h
  · rfl

theorem State.laneTake_of_empty {s : State} {l : Lane} (h : s.disp.queues.get l = []) : s.laneTake l = s := by
  unfold State.laneTake
  split
  · rw [h]
    rfl
  · rfl

/-- The queue of a lane without the job that it takes. -/
def State.withoutJob (s : State) (l : Lane) (j : Job) : State :=
  s.modDisp fun d => { d with queues := d.queues.set l ((d.queues.get l).filter fun k => k.arrival != j.arrival) }

theorem State.laneTake_of_first {s : State} {l : Lane} {j : Job} (hidle : s.lane l = .idle)
    (hj : firstJob Job.ahead (s.disp.queues.get l) = some j) :
    s.laneTake l = State.movePending l ((s.withoutJob l j).startJob l j) := by
  simp only [State.laneTake, hidle, hj, State.withoutJob]

/-- A lane that begins a job runs it. -/
theorem State.startJob_lane (s : State) (l : Lane) (j : Job) : ((s.startJob l j).lane l).job = some j := by
  cases hsource : j.source with
  | slot x t => simp [State.startJob, hsource, LaneState.job]
  | request x n g =>
    have hlane : ∀ t : State, ((t.setLane l (.decoding j .recordRead)).lane l).job = some j := by
      intro t
      simp [LaneState.job]
    simp only [State.startJob, hsource]
    split
    · rw [State.placeRead_eq]
      exact hlane _
    · exact hlane _

/-- The state in which a lane runs a job it has taken, the page's work in flight one more. -/
def State.jobBegun (s : State) (l : Lane) (j : Job) (v : LaneState) : State :=
  { s with
    disp := { s.disp with
      queues := s.disp.queues.set l ((s.disp.queues.get l).filter fun k => k.arrival != j.arrival)
      lanes := s.disp.lanes.set l v }
    dir := { s.dir with pages := pagesWith j.page (fun q => { q with work := q.work + 1 }) s.dir.pages } }

theorem State.startJob_encode {s : State} {j : Job} {p : Page} {x : Link} {t : SlotId} (l : Lane)
    (hp : s.page j.page = some p) (hsource : j.source = .slot x t) :
    (s.withoutJob l j).startJob l j = s.jobBegun l j (.encoding j
      { phase := .coding, ctx := Context.fresh (s.profileOf p) p.w (s.rowsOf p j.band) .coding
        left := s.rowsOf p j.band * p.w, out := [], words := 0, first := none, last := none, taken := 0 }) := by
  have hpage : (s.withoutJob l j).page j.page = some p := hp
  simp only [State.startJob, hsource, State.newRun, hpage]
  rfl

theorem State.startJob_proof {s : State} {j : Job} {p : Page} {x : Link} {n : Nat} {g : Byte} (l : Lane)
    (hp : s.page j.page = some p) (hsource : j.source = .request x n g) :
    (s.withoutJob l j).startJob l j = { s.jobBegun l j (.decoding j .recordRead) with
      arb := s.opPlaced ⟨.lane l, recordBurst p.header (j.band * p.c + j.comp),
        .read (recordMask (j.band * p.c + j.comp) 1) true⟩ } := by
  have hpage : (s.withoutJob l j).page j.page = some p := hp
  simp only [State.startJob, hsource, State.jobIndex, hpage, State.placeRead_eq]
  rfl

/-! ## A new ENCODE job (R78, R80, R82) -/

theorem Dispatcher.destined_eq (d : Dispatcher) {page band comp i : Nat} (hi : i < 32)
    (h : i = (5 * page + 3 * band + comp) % 32 % 2 ^ d.tableBits) : d.destined page band comp = d.table[i] := by
  rw [Dispatcher.destined, jobHash, ← h, List.getD_eq_getElem?_getD]
  simp [hi]

theorem State.dispatchEncode_of_room {s : State} {p : Page} {band comp : Nat} {x : Link} {t : SlotId}
    (h : (s.disp.queues.get (s.disp.destined p.id band comp)).length < 8) :
    let l := s.disp.destined p.id band comp
    s.dispatchEncode p band x t comp = State.laneTake l { s with
      disp := { s.disp with
        nextArrival := s.disp.nextArrival + 1
        queues := s.disp.queues.set l (s.disp.queues.get l ++
          [⟨p.id, band, comp, p.cls, .slot x t, l, s.disp.nextArrival⟩]) } } := by
  simp only [State.dispatchEncode, if_pos (show _ < Config.laneQueuePlaces from h)]
  rfl

theorem State.dispatchEncode_of_full {s : State} {p : Page} {band comp : Nat} {x : Link} {t : SlotId}
    (h : 8 ≤ (s.disp.queues.get (s.disp.destined p.id band comp)).length) :
    s.dispatchEncode p band x t comp = { s with
      disp := { s.disp with
        nextArrival := s.disp.nextArrival + 1
        pendings := s.disp.pendings.set x ((s.disp.pendings.get x).set t ((s.disp.pendings.get x).get t ++
          [⟨p.id, band, comp, p.cls, .slot x t, s.disp.destined p.id band comp, s.disp.nextArrival⟩])) } } := by
  simp only [State.dispatchEncode, if_neg (show ¬ _ < Config.laneQueuePlaces from not_lt.mpr h)]
  rfl

/-! ## The obligation -/

/-- Settles O34: the lane by the table, the job taken and the job moved by the first of their orders. -/
theorem lanesTakeByClassAndPlacesByArrival : Obligations.LanesTakeByClassAndPlacesByArrival := by
  refine ⟨fun s p band comp x t i hi h => ?_, fun l s => ⟨fun hidle hne => ?_, State.laneTake_of_empty,
    State.laneTake_of_busy, State.movePending_of_none, State.movePending_of_full, State.movePending_of_some⟩⟩
  · rw [← s.disp.destined_eq hi h]
    exact ⟨State.dispatchEncode_of_room, State.dispatchEncode_of_full⟩
  · cases hj : firstJob Job.ahead (s.disp.queues.get l) with
    | none => exact absurd (firstJob_eq_none hj) hne
    | some j =>
      obtain ⟨hmem, hfirst⟩ := firstJob_ahead hj
      rw [State.laneTake_of_first hidle hj]
      refine ⟨j, hmem, ?_, hfirst, fun p hp => ?_⟩
      · rw [State.lane, State.movePending_lanes]
        exact State.startJob_lane _ l j
      · rw [State.id_of_page hp]
        exact ⟨fun x t hsource => by rw [State.startJob_encode l hp hsource]; rfl,
          fun x n g hsource => by rw [State.startJob_proof l hp hsource]; rfl⟩

end Sys2Proof.Machine
end

section
/-!
PROOFS. The press decoder (R147, R148, R160, R162, R163): the record of a band-component as it is taken, a payload burst
as it joins a decoding, and one component of the row in progress.
-/

set_option Elab.async false
namespace Sys2Proof.Machine

/-! ## Damage (R159, R160, R162, R163) -/

theorem State.notify_eq (s : State) (x : Link) (n : Notice) :
    s.notify x n = { s with links := s.links.set x ((s.link x).placeNotice n) } := rfl

/-- A failed or PENDING record: the damage event and the notice. -/
theorem State.pressDamage_of_record (s : State) (d : DecPos) (comp : Nat) (cause : Detail) (row c : Nat) :
    s.pressDamage d comp cause row none c = { s with
      dir := { s.dir with pages := pagesWith d.page Page.damagedOnce s.dir.pages }
      links := s.links.set d.link
        ((s.link d.link).placeNotice (.bandDamaged d.page d.band comp d.sheet.copy cause row)) } := by
  simp only [State.pressDamage, State.damageEvent_eq, State.notify_eq]
  rfl

/-- A payload failure: the mark waits at TABLE if the record was read STORED, and the damage event is counted. -/
theorem State.payloadDamage_eq {s : State} {id : Nat} {p : Page} (hp : s.page id = some p) (index : Nat)
    (r : BandRecord) (byPress : Bool) :
    s.payloadDamage id index r byPress = { s with
      dir := { s.dir with pages := pagesWith id Page.damagedOnce s.dir.pages }
      arb := s.markPlaced p index r byPress } := by
  simp only [State.payloadDamage, hp, State.damageEvent_eq, State.markPlaced, State.placeRecord, State.placeOp_eq,
    State.id_of_page hp]
  split <;> rfl

/-- A payload failure of a component: the notice goes out where the record was read STORED. -/
theorem State.pressDamage_of_payload {s : State} {d : DecPos} {p : Page} (hp : s.page d.page = some p) (comp : Nat)
    (cause : Detail) (row : Nat) (r : BandRecord) :
    s.pressDamage d comp cause row (some r) p.c = { s with
      dir := { s.dir with pages := pagesWith d.page Page.damagedOnce s.dir.pages }
      arb := s.markPlaced p (d.band * p.c + comp) r true
      links := if r.state = .stored then s.links.set d.link ((s.link d.link).placeNotice
          (.bandDamaged d.page d.band comp d.sheet.copy cause row))
        else s.links } := by
  simp only [State.pressDamage, State.payloadDamage_eq hp]
  split <;> rfl

/-! ## The records of a band (R147, R163) -/

theorem State.pressPage_eq {s : State} {d : DecPos} {p : Page} (hd : s.press.pos = some d)
    (hp : s.page d.page = some p) : s.pressPage = some (d, p) := by
  simp [State.pressPage, hd, hp]

/-- A good record begins the decoding of its band-component. -/
theorem State.pressTakeRecord_of_good (s : State) {d : DecPos} {p : Page} {ws : List ReadWord} {comp : Nat}
    {r : BandRecord} (h : readRecord (d.band * p.c + comp) ws = (r, false)) (hr : r.state ≠ .pending) :
    s.pressTakeRecord d p ws comp = { s with press := { s.press with comps := s.press.comps ++
      [.decoding r ⟨Context.fresh (s.profileOf p) p.w (s.rowsOf p d.band) (if r.mode = .raw then .raw else .coded),
        r.words, 0, s.map.openChain p.id (d.band * p.c + comp) r.first, []⟩] } } := by
  have hgood : ¬ (false = true ∨ r.state = .pending) := by simp [hr]
  simp only [State.pressTakeRecord, h, if_neg hgood]
  rfl

/-- A failed or PENDING record holds zeros, with the damage event and the notice. -/
theorem State.pressTakeRecord_of_bad (s : State) {d : DecPos} {p : Page} {ws : List ReadWord} {comp : Nat}
    {r : BandRecord} {bad : Bool} (h : readRecord (d.band * p.c + comp) ws = (r, bad))
    (hr : bad = true ∨ r.state = .pending) :
    s.pressTakeRecord d p ws comp = { s with
      press := { s.press with comps := s.press.comps ++ [.held (List.replicate p.w 0)] }
      dir := { s.dir with pages := pagesWith d.page Page.damagedOnce s.dir.pages }
      links := s.links.set d.link
        ((s.link d.link).placeNotice (.bandDamaged d.page d.band comp d.sheet.copy .record 0)) } := by
  simp only [State.pressTakeRecord, h, if_pos hr, State.pressDamage_of_record]
  rfl

/-- The state after the records of an ended burst have joined the band: the second burst waits to be read, or the
band's first row has begun. -/
def State.recordsTaken (s : State) (d : DecPos) (p : Page) (e : TableEnd) : State :=
  let k := s.press.comps.length
  let n := min (p.c - k) (4 - (d.band * p.c + k) % 4)
  let next := d.band * p.c + k + n
  let t : State := (List.range' k n).foldl (State.pressTakeRecord d p e.words) { s with
    arb := { s.arb with tableEnds := s.arb.tableEnds.erase e } }
  if k + n < p.c then { t with arb := t.opPlaced ⟨.press, recordBurst p.header next,
      .read (recordMask next (min (p.c - k - n) (4 - next % 4))) true⟩ }
    else t.pressRow

theorem State.takeEnd_of_find {s : State} {mine : Client → Bool} {e : TableEnd}
    (h : s.arb.tableEnds.find? (fun e => mine e.op.client) = some e) :
    s.takeEnd mine = some (e, { s with arb := { s.arb with tableEnds := s.arb.tableEnds.erase e } }) := by
  simp only [State.takeEnd, h]
  rfl

theorem State.pressTakeEnd_eq {s : State} {d : DecPos} {p : Page} {e : TableEnd} (hd : s.press.pos = some d)
    (hp : s.page d.page = some p) (he : s.arb.tableEnds.find? (fun e => e.op.client == .press) = some e) :
    s.pressTakeEnd = s.recordsTaken d p e := by
  have hpage : State.pressPage { s with arb := { s.arb with tableEnds := s.arb.tableEnds.erase e } } = some (d, p) :=
    State.pressPage_eq hd hp
  simp only [State.pressTakeEnd, State.takeEnd_of_find (mine := (· == .press)) he, State.pressRecords, hpage,
    State.placeRead_eq]
  rfl

/-- The command PRESS_RECORD_READ_END takes the records and then makes the grant decision. -/
theorem exec_pressRecordReadEnd {s : State} {e : TableEnd}
    (he : s.arb.tableEnds.find? (fun e => e.op.client == .press) = some e) :
    exec .pressRecordReadEnd s = .next s.pressTakeEnd.arbitrate := by
  have hexec : exec .pressRecordReadEnd s = execPressRecordReadEnd s := rfl
  rw [hexec, execPressRecordReadEnd, State.takeEnd_of_find he]

/-! ## A row, component by component (R148, R162) -/

section Row
variable {s : State} {d : DecPos} {p : Page} {rows : List (List Nat)}

/-- A component that holds repeats its row. -/
theorem State.pressAdvance_of_held (n : Nat) (hd : s.press.pos = some d) (hp : s.page d.page = some p)
    (hrow : s.press.row = some rows) {h : List Nat} (hc : s.press.comps[rows.length]? = some (.held h)) :
    s.pressAdvance (n + 1) = State.pressAdvance n { s with press := { s.press with row := some (rows ++ [h]) } } := by
  simp only [State.pressAdvance, hrow, State.pressPage_eq hd hp, hc]
  rfl

/-- A component whose bits run out keeps what it has decoded. -/
theorem State.pressAdvance_of_needWords (n : Nat) (hd : s.press.pos = some d) (hp : s.page d.page = some p)
    (hrow : s.press.row = some rows) {r : BandRecord} {k k2 : Decoder}
    (hc : s.press.comps[rows.length]? = some (.decoding r k)) (hrun : k.runRow = (k2, .needWords)) :
    s.pressAdvance (n + 1) = { s with
      press := { s.press with comps := s.press.comps.set rows.length (.decoding r k2) } } := by
  simp only [State.pressAdvance, hrow, State.pressPage_eq hd hp, hc, hrun]
  rw [← hrow]
  rfl

/-- A component that delivers its row goes on, or is complete with its last. -/
theorem State.pressAdvance_of_rowDone (n : Nat) (hd : s.press.pos = some d) (hp : s.page d.page = some p)
    (hrow : s.press.row = some rows) {r : BandRecord} {k k2 : Decoder}
    (hc : s.press.comps[rows.length]? = some (.decoding r k)) (hrun : k.runRow = (k2, .rowDone)) :
    s.pressAdvance (n + 1) = State.pressAdvance n { s with press := { s.press with
      comps := s.press.comps.set rows.length (if k2.ctx.hr ≤ k2.ctx.row then .complete else .decoding r k2)
      row := some (rows ++ [k2.lastRow.getD []]) } } := by
  simp only [State.pressAdvance, hrow, State.pressPage_eq hd hp, hc, hrun]
  rfl

/-- A component that fails holds its last delivered row, or zeros, with the damage of a payload failure. -/
theorem State.pressAdvance_of_failed (n : Nat) (hd : s.press.pos = some d) (hp : s.page d.page = some p)
    (hrow : s.press.row = some rows) {r : BandRecord} {k k2 : Decoder} {cause : Detail}
    (hc : s.press.comps[rows.length]? = some (.decoding r k)) (hrun : k.runRow = (k2, .failed cause)) :
    let h := k2.lastRow.getD (List.replicate p.w 0)
    s.pressAdvance (n + 1) = State.pressAdvance n { s with
      press := { s.press with comps := s.press.comps.set rows.length (.held h), row := some (rows ++ [h]) }
      dir := { s.dir with pages := pagesWith d.page Page.damagedOnce s.dir.pages }
      arb := s.markPlaced p (d.band * p.c + rows.length) r true
      links := if r.state = .stored then s.links.set d.link ((s.link d.link).placeNotice
          (.bandDamaged d.page d.band rows.length d.sheet.copy cause d.row))
        else s.links } := by
  have hpage : ∀ f, (s.modPress f).page d.page = some p := fun _ => hp
  simp only [State.pressAdvance, hrow, State.pressPage_eq hd hp, hc, hrun, State.pressDamage_of_payload (hpage _)]
  rfl

/-- The words of a payload burst go to the component the row stands at. -/
theorem State.pressFeed_of_decoding (hd : s.press.pos = some d) (hp : s.page d.page = some p)
    (hrow : s.press.row = some rows) {r : BandRecord} {k : Decoder}
    (hc : s.press.comps[rows.length]? = some (.decoding r k)) (ws : List ReadWord) :
    s.pressFeed ws = State.pressAdvance p.c { s with
      press := { s.press with comps := s.press.comps.set rows.length (.decoding r (k.feed s.map ws)) } } := by
  have hpage : ∀ f : PressFeed → PressFeed, (f s.press).pos = s.press.pos → (s.modPress f).pressPage = some (d, p) :=
    fun f hf => State.pressPage_eq (hf.trans hd) hp
  simp only [State.pressFeed, hrow, State.pressPage_eq hd hp, hc, State.pressRun]
  rw [hpage _ rfl, ← hrow]
  rfl

end Row

/-! ## The obligation -/

/-- Settles O48: the records by their two cases, the burst by the record taken, and the row by what its component
does. -/
theorem pressRecordsJoinTheBand : Obligations.PressRecordsJoinTheBand := by
  intro s d p hd hp
  refine ⟨fun ws comp => ⟨fun hbad hstate => s.pressTakeRecord_of_good (Prod.ext rfl hbad) hstate,
      s.pressTakeRecord_of_bad rfl⟩, fun e he => ?_,
    fun rows n hrow => ⟨fun h => State.pressAdvance_of_held n hd hp hrow, fun r k k2 hc =>
      ⟨State.pressAdvance_of_needWords n hd hp hrow hc, State.pressAdvance_of_rowDone n hd hp hrow hc,
        fun cause => State.pressAdvance_of_failed n hd hp hrow hc, State.pressFeed_of_decoding hd hp hrow hc⟩⟩⟩
  have htaken := State.pressTakeEnd_eq hd hp he
  exact ⟨(exec_pressRecordReadEnd he).trans (by rw [htaken]; rfl), htaken⟩

end Sys2Proof.Machine
end

section
/-!
PROOFS. The requests of the album directory that are answered at once (R33, R40, R44, R83, R178): what a long request
that reaches its owner comes to, and the checks of each owner in order.
-/

set_option Elab.async false
namespace Sys2Proof.Machine

/-! ## A long request that reaches its owner (R173) -/

theorem State.offersLong_iff {s : State} {x : Link} {k : Nat} {f : Frame} :
    s.offersLong x k f = true ↔ s.offers x k f = true ∧ f.lengthOk = true ∧
      (s.link x).long.length < Config.longSlots ∧ s.freshTickets = true := by
  simp [State.offersLong, and_assoc]

theorem State.kind_of_offers {s : State} {x : Link} {k : Nat} {f : Frame} (h : s.offers x k f = true) : f.k = k :=
  (State.offers_iff.1 h).2.1

theorem Frame.isKind_of_offers {s : State} {x : Link} {k : Nat} {f : Frame} (h : s.offers x k f = true) :
    f.isKind k = true := by
  simp [Frame.isKind, State.kind_of_offers h]

/-- The owner is given the request, outstanding under its ticket. -/
theorem State.serveLong_offersLong {s : State} {x : Link} {k : Nat} {f : Frame} {m ok : Frame → Bool}
    {g : Frame → Nat → State → State} (h : s.offersLong x k f = true) (hm : m f = true) (ho : ok f = true) :
    s.serveLong x m ok g = g f s.nextTicket (s.madeLong x f) := by
  obtain ⟨hoffers, -, hroom, -⟩ := State.offersLong_iff.1 h
  rw [State.serveLong_offers hoffers hm, if_pos ho, if_neg (by omega), State.addLong_tookAt]
  rfl

theorem State.answer_madeLong {s : State} {x : Link} {k : Nat} {f : Frame} (h : s.offersLong x k f = true)
    (r : ReplyResult) : (s.madeLong x f).answer x s.nextTicket r = s.answeredLong x f r := by
  have hmade : s.madeLong x f = (s.tookAt x).addLong x f := (State.addLong_tookAt s x f).symm
  rw [hmade, State.answer_addLong (State.offersLong_iff.1 h).2.2.2]

@[simp] theorem State.madeLong_page (s : State) (x : Link) (f : Frame) (id : Nat) :
    (s.madeLong x f).page id = s.page id := rfl

/-! ## The commands -/

theorem exec_retirePage {s : State} {x : Link} {f : Frame} (h : s.offersLong x 3 f = true) :
    exec (.retirePage x) s = .next ((s.madeLong x f).serveRetirePage x f s.nextTicket) := by
  obtain ⟨hoffers, hlen, -, -⟩ := State.offersLong_iff.1 h
  simp only [Frame.lengthOk, State.kind_of_offers hoffers] at hlen
  exact congrArg _ (State.serveLong_offersLong h (Frame.isKind_of_offers hoffers) hlen)

theorem exec_listPage {s : State} {x : Link} {f : Frame} (h : s.offersLong x 7 f = true) :
    exec (.listPage x) s = .next ((s.madeLong x f).serveListPage x f s.nextTicket) := by
  obtain ⟨hoffers, hlen, -, -⟩ := State.offersLong_iff.1 h
  simp only [Frame.lengthOk, State.kind_of_offers hoffers] at hlen
  exact congrArg _ (State.serveLong_offersLong h (Frame.isKind_of_offers hoffers) hlen)

/-- A READ BAND of the right length is well formed, and is taken by the command of its form (R186). -/
theorem Frame.readBand_of_offersLong {s : State} {x : Link} {f : Frame} (h : s.offersLong x 6 f = true) :
    f.readBandOk = true ∧ (field 5 1 f.body = 0 → f.takenAsDecoded = true) ∧
      (field 5 1 f.body = 1 → f.takenAsCompressed = true) := by
  obtain ⟨hoffers, hlen, -, -⟩ := State.offersLong_iff.1 h
  simp only [Frame.lengthOk, State.kind_of_offers hoffers] at hlen
  have hkind : f.isKind ReqKind.readBand = true := Frame.isKind_of_offers hoffers
  refine ⟨hlen, fun h0 => ?_, fun h1 => ?_⟩
  · simp [Frame.takenAsDecoded, hkind, Frame.formIs, h0]
  · simp [Frame.takenAsCompressed, hkind, Frame.formIs, h1]

theorem exec_readBandDecoded {s : State} {x : Link} {f : Frame} (h : s.offersLong x 6 f = true)
    (h0 : field 5 1 f.body = 0) :
    exec (.readBandDecoded x) s = .next ((s.madeLong x f).serveReadBandDecoded x f s.nextTicket) := by
  obtain ⟨hok, hdecoded, -⟩ := Frame.readBand_of_offersLong h
  exact congrArg _ (State.serveLong_offersLong h (hdecoded h0) hok)

theorem exec_readBandCompressed {s : State} {x : Link} {f : Frame} (h : s.offersLong x 6 f = true)
    (h1 : field 5 1 f.body = 1) :
    exec (.readBandCompressed x) s = .next ((s.madeLong x f).serveReadBandCompressed x f s.nextTicket) := by
  obtain ⟨hok, -, hcompressed⟩ := Frame.readBand_of_offersLong h
  exact congrArg _ (State.serveLong_offersLong h (hcompressed h1) hok)

/-! ## RETIRE PAGE refused (R40) -/

section Requests
variable {s : State} {x : Link} {f : Frame} {p : Page}

theorem retirePage_noPage (h : s.offersLong x 3 f = true) (hp : s.page (field 0 2 f.body) = none) :
    exec (.retirePage x) s = .next (s.answeredLong x f (.refused .noPage)) := by
  rw [exec_retirePage h, ← State.answer_madeLong h]
  simp [State.serveRetirePage, hp]

theorem retirePage_pageRetiring (h : s.offersLong x 3 f = true) (hp : s.page (field 0 2 f.body) = some p)
    (hstate : p.state = .retiring) :
    exec (.retirePage x) s = .next (s.answeredLong x f (.refused .pageRetiring)) := by
  rw [exec_retirePage h, ← State.answer_madeLong h]
  simp [State.serveRetirePage, hp, hstate]

theorem retirePage_pageInUse (h : s.offersLong x 3 f = true) (hp : s.page (field 0 2 f.body) = some p)
    (hstate : p.state ≠ .retiring) (hrefs : 0 < p.printRefs ∨ 0 < p.streamRefs) :
    exec (.retirePage x) s = .next (s.answeredLong x f (.refused .pageInUse)) := by
  rw [exec_retirePage h, ← State.answer_madeLong h]
  simp [State.serveRetirePage, hp, hstate, hrefs]

/-! ## LIST PAGE answered at once (R44) -/

/-- The reply of a LIST PAGE that reads no record: the refusal of its checks in order, or the page record. -/
def Page.listedAtOnce (p : Page) (first count : Nat) : Option ReplyResult :=
  if p.state = .retiring then some (.refused .pageRetiring)
  else if 1024 < count then some (.refused .badRequest)
  else if 0 < count ∧ p.state = .opening then some (.refused .pageState)
  else if 0 < count ∧ p.records ≤ first then some (.refused .badRequest)
  else if count = 0 then some (.done (.listed p.listing []))
  else none

theorem listPage_noPage (h : s.offersLong x 7 f = true) (hp : s.page (field 0 2 f.body) = none) :
    exec (.listPage x) s = .next (s.answeredLong x f (.refused .noPage)) := by
  rw [exec_listPage h, ← State.answer_madeLong h]
  simp [State.serveListPage, hp]

theorem listPage_atOnce (h : s.offersLong x 7 f = true) (hp : s.page (field 0 2 f.body) = some p) {r : ReplyResult}
    (hr : p.listedAtOnce (field 2 2 f.body) (field 4 2 f.body) = some r) :
    exec (.listPage x) s = .next (s.answeredLong x f r) := by
  rw [exec_listPage h, ← State.answer_madeLong h]
  simp only [State.serveListPage, State.madeLong_page, hp]
  unfold Page.listedAtOnce at hr
  repeat' split at hr
  all_goals simp_all

/-! ## READ BAND refused (R83, R178) -/

/-- The refusal that both forms of READ BAND give for the page, its state or the band-component. -/
def Page.readBandRefusal (p : Page) (band comp : Nat) : Option Refuse :=
  if p.state = .retiring then some .pageRetiring
  else if p.state = .opening then some .notCoded
  else if p.b ≤ band ∨ p.c ≤ comp then some .badRequest
  else none

theorem Page.readBandRefusal_eq_none {band comp : Nat} (p : Page) :
    p.readBandRefusal band comp = none ↔ p.state ≠ .retiring ∧ p.state ≠ .opening ∧ band < p.b ∧ comp < p.c := by
  unfold Page.readBandRefusal
  split_ifs with hretiring hopening hplace
  · simp [hretiring]
  · simp [hopening]
  · exact ⟨nofun, fun ⟨_, _, hband, hcomp⟩ => absurd hplace (by omega)⟩
  · exact ⟨fun _ => ⟨hretiring, hopening, by omega, by omega⟩, fun _ => rfl⟩

/-- The command of the form that a READ BAND names. -/
def Frame.readBandBy (f : Frame) (x : Link) (c : Instr) : Prop :=
  c = .readBandDecoded x ∧ field 5 1 f.body = 0 ∨ c = .readBandCompressed x ∧ field 5 1 f.body = 1

theorem readBand_noPage (h : s.offersLong x 6 f = true) {c : Instr} (hc : f.readBandBy x c)
    (hp : s.page (field 0 2 f.body) = none) : exec c s = .next (s.answeredLong x f (.refused .noPage)) := by
  rw [← State.answer_madeLong h]
  rcases hc with ⟨rfl, h0⟩ | ⟨rfl, h1⟩
  · rw [exec_readBandDecoded h h0]
    simp [State.serveReadBandDecoded, BandFields.of, hp]
  · rw [exec_readBandCompressed h h1]
    simp [State.serveReadBandCompressed, BandFields.of, hp]

theorem readBand_refused (h : s.offersLong x 6 f = true) {c : Instr} (hc : f.readBandBy x c)
    (hp : s.page (field 0 2 f.body) = some p) {r : Refuse}
    (hr : p.readBandRefusal (field 2 2 f.body) (field 4 1 f.body) = some r) :
    exec c s = .next (s.answeredLong x f (.refused r)) := by
  rw [← State.answer_madeLong h]
  unfold Page.readBandRefusal at hr
  rcases hc with ⟨rfl, h0⟩ | ⟨rfl, h1⟩
  · rw [exec_readBandDecoded h h0]
    simp only [State.serveReadBandDecoded, BandFields.of, State.madeLong_page, hp]
    repeat' split at hr
    all_goals simp_all
  · rw [exec_readBandCompressed h h1]
    simp only [State.serveReadBandCompressed, BandFields.of, State.madeLong_page, hp]
    repeat' split at hr
    all_goals simp_all

/-- The decoded form is refused LANES_BUSY where the band-component has a PROOF job or its lane's queue is full. -/
theorem readBandDecoded_lanesBusy (h : s.offersLong x 6 f = true) (h0 : field 5 1 f.body = 0)
    (hp : s.page (field 0 2 f.body) = some p)
    (hnone : p.readBandRefusal (field 2 2 f.body) (field 4 1 f.body) = none)
    (hbusy : s.disp.proving p.id (field 2 2 f.body) (field 4 1 f.body) = true ∨
      8 ≤ (s.disp.queues.get (s.disp.destined p.id (field 2 2 f.body) (field 4 1 f.body))).length) :
    exec (.readBandDecoded x) s = .next (s.answeredLong x f (.refused .lanesBusy)) := by
  rw [exec_readBandDecoded h h0, ← State.answer_madeLong h]
  have hdisp : (s.madeLong x f).disp = s.disp := rfl
  obtain ⟨hretiring, hopening, hband, hcomp⟩ := p.readBandRefusal_eq_none.1 hnone
  have hplace : ¬ (p.b ≤ field 2 2 f.body ∨ p.c ≤ field 4 1 f.body) := by omega
  simp only [State.serveReadBandDecoded, BandFields.of, State.madeLong_page, hp, hdisp, hretiring, hopening, hplace,
    if_false]
  rcases hbusy with hproving | hfull
  · rw [if_pos hproving]
  · rw [if_pos (show Config.laneQueuePlaces ≤ _ from hfull), ite_self]

theorem Job.proves_iff (j : Job) (page band comp : Nat) :
    j.proves page band comp = true ↔
      (∃ y k g, j.source = .request y k g) ∧ j.page = page ∧ j.band = band ∧ j.comp = comp := by
  cases hsource : j.source <;> simp [Job.proves, hsource, and_assoc]

theorem Dispatcher.proving_of_job {page band comp : Nat} {j : Job}
    (hj : j ∈ s.disp.waiting ∨ ∃ l, (s.lane l).job = some j) (hproves : j.proves page band comp = true) :
    s.disp.proving page band comp = true := by
  simp only [Dispatcher.proving, Bool.or_eq_true, List.any_eq_true]
  rcases hj with hwaits | ⟨l, hruns⟩
  · exact .inl ⟨j, hwaits, hproves⟩
  · have hjob : (s.disp.lanes.get l).job = some j := hruns
    exact .inr ⟨l, by cases l <;> simp [allLanes], by simp [hjob, hproves]⟩

end Requests

/-! ## The obligations -/

/-- Settles O18: each refusal by the check of its owner that gives it. -/
theorem requestsNamingAPageAreRefused : Obligations.RequestsNamingAPageAreRefused := by
  refine fun x s f => ⟨fun h => ⟨retirePage_noPage h, fun p hp => ⟨retirePage_pageRetiring h hp,
    retirePage_pageInUse h hp⟩⟩, fun h => ⟨listPage_noPage h, fun p hp => ?_⟩, fun h c hc =>
    ⟨readBand_noPage h hc, fun p hp => ?_⟩⟩
  · have answered := fun r => listPage_atOnce (r := r) h hp
    refine ⟨fun h1 => answered _ ?_, fun h1 h2 => answered _ ?_, fun h1 h2 h3 => answered _ ?_,
      fun h1 h2 h3 h4 h5 => answered _ ?_, fun h1 h2 => answered _ ?_⟩
    · simp [Page.listedAtOnce, h1]
    · simp [Page.listedAtOnce, h1, h2]
    · simp [Page.listedAtOnce, h1, h2, not_lt.2 h3]
    · simp [Page.listedAtOnce, h1, h2, h3, not_lt.2 h4, Page.records, h5]
    · simp [Page.listedAtOnce, h1, h2, Page.listing]
  · have refused := fun r => readBand_refused (r := r) h hc hp
    refine ⟨fun h1 => refused _ ?_, fun h1 => refused _ ?_, fun h1 h2 h3 => refused _ ?_, fun h1 h2 h3 h4 hd => ?_⟩
    · simp [Page.readBandRefusal, h1]
    · simp [Page.readBandRefusal, h1]
    · simp [Page.readBandRefusal, h1, h2, h3]
    · have hnone : p.readBandRefusal (field 2 2 f.body) (field 4 1 f.body) = none := by
        simp [Page.readBandRefusal, h1, h2, not_le.2 h3, not_le.2 h4]
      have h0 : field 5 1 f.body = 0 := by
        rcases hc with ⟨-, h0⟩ | ⟨hc, -⟩
        · exact h0
        · cases hd.symm.trans hc
      subst hd
      refine ⟨fun ⟨j, hj, hsource, hplace⟩ => readBandDecoded_lanesBusy h h0 hp hnone (.inl ?_),
        fun i hi hlane hfull => readBandDecoded_lanesBusy h h0 hp hnone (.inr ?_)⟩
      · exact Dispatcher.proving_of_job hj ((j.proves_iff _ _ _).2 ⟨hsource, hplace⟩)
      · rwa [s.disp.destined_eq hi hlane]

end Sys2Proof.Machine
end

section
/-!
PROOFS. SET PROFILE (R33), LIST PAGE with records (R44) and the DAMAGED mark's end (R160).
-/

set_option Elab.async false
namespace Sys2Proof.Machine

/-! ## SET PROFILE (R33) -/

theorem exec_setProfile {s : State} {x : Link} {f : Frame} (h : s.offers x 10 f = true) (hlen : f.body.length = 5) :
    exec (.setProfile x) s = .next ((s.tookAt x).serveSetProfile x f) := by
  have hserve := State.serveShort_offers (ok := Frame.hasLength 5) (g := State.serveSetProfile x) h
    (Frame.isKind_of_offers h)
  rw [if_pos (by simp [Frame.hasLength, hlen])] at hserve
  exact congrArg _ hserve

theorem Predictor.ofCode_eq_none {n : Nat} : Predictor.ofCode n = none ↔ 2 < n := by
  match n with
  | 0 | 1 | 2 => decide
  | n + 3 => simp [Predictor.ofCode]

theorem Predictor.ofCode_of_le {n : Nat} (h : n ≤ 2) :
    Predictor.ofCode n = some (if n = 0 then .left else if n = 1 then .above else .edge) := by
  interval_cases n <;> rfl

/-- A field outside its set gives no profile. -/
theorem ProfileFields.profileGiven_eq_none {f : ProfileFields}
    (h : f.predictor = none ∨ 7 < f.e ∨ (f.hb ≠ 8 ∧ f.hb ≠ 16 ∧ f.hb ≠ 32) ∨ (f.d ≠ 8 ∧ f.d ≠ 10 ∧ f.d ≠ 12)) :
    f.profileGiven = none := by
  unfold ProfileFields.profileGiven
  split
  · next p hp => exact if_neg (by simp only [hp, reduceCtorEq, false_or] at h; omega)
  · rfl

theorem setProfile_refused {s : State} {x : Link} {f : Frame} (h : s.offers x 10 f = true) (hlen : f.body.length = 5)
    (hbad : (ProfileFields.of f.body).profileGiven = none ∨ 7 < field 0 1 f.body) :
    exec (.setProfile x) s = .next (s.answeredAt x f (.refused .badProfile)) := by
  rw [exec_setProfile h hlen, ← State.reply_tookAt]
  unfold State.serveSetProfile
  dsimp only
  split
  · rfl
  · next pr hgiven =>
    have hnum : ¬ (ProfileFields.of f.body).profile < 8 := by
      rcases hbad with hnone | hnum
      · cases hgiven.symm.trans hnone
      · exact not_lt.2 hnum
    rw [dif_neg hnum]

theorem setProfile_given {s : State} {x : Link} {f : Frame} {pr : Profile} (h : s.offers x 10 f = true)
    (hlen : f.body.length = 5) (hn : field 0 1 f.body < 8)
    (hgiven : (ProfileFields.of f.body).profileGiven = some pr) :
    exec (.setProfile x) s = .next (if 0 < s.dir.profiles[field 0 1 f.body].uses then
        s.answeredAt x f (.refused .profileInUse)
      else { s with
        dir := { s.dir with profiles := s.dir.profiles.set (field 0 1 f.body) pr }
        links := s.links.set x ((s.link x).answered f (.done .none)) }) := by
  have hnum : (ProfileFields.of f.body).profile < 8 := hn
  rw [exec_setProfile h hlen, ← State.reply_tookAt]
  simp only [State.serveSetProfile, hgiven, dif_pos hnum]
  congr 2
  cases x <;> rfl

/-- Settles O21: the number and the fields tested, then the use count. -/
theorem setProfileReplacesAnUnusedProfile : Obligations.SetProfileReplacesAnUnusedProfile := by
  refine fun x s f h hlen => ⟨fun hbad => setProfile_refused h hlen ?_, fun hn hpred he hhb hd => ?_⟩
  · rcases hbad with hnum | hpred | he | hhb | hd
    · exact .inr hnum
    · exact .inl (ProfileFields.profileGiven_eq_none (.inl (Predictor.ofCode_eq_none.2 hpred)))
    · exact .inl (ProfileFields.profileGiven_eq_none (.inr (.inl he)))
    · exact .inl (ProfileFields.profileGiven_eq_none (.inr (.inr (.inl hhb))))
    · exact .inl (ProfileFields.profileGiven_eq_none (.inr (.inr (.inr hd))))
  · have hgiven := setProfile_given h hlen hn (pr := ⟨_, field 2 1 f.body, field 3 1 f.body, field 4 1 f.body, 0⟩) (by
      simp only [ProfileFields.profileGiven, ProfileFields.of, Predictor.ofCode_of_le hpred]
      rw [if_pos ⟨he, hhb, hd⟩])
    exact ⟨fun huse => by rw [hgiven, if_pos huse], fun huse => by rw [hgiven, if_neg (by omega)]⟩

/-! ## A TABLE operation of a client that is one piece of work (R128) -/

/-- Every client but a lane and the press decoder has one operation for one piece of work: it is placed at the tail. -/
theorem State.opPlaced_tail {s : State} {op : TableOp} (hmade : s.stillMade op.client = false)
    (hpress : op.byPress = false) :
    s.opPlaced op = { s.arb with tableQueue := s.arb.tableQueue ++ [op] } := by
  simp [State.opPlaced, hmade, hpress]

/-! ## Listings (R44) -/

/-- LIST PAGE with records reads the first of them. -/
theorem listPage_reads {s : State} {x : Link} {f : Frame} {p : Page} (h : s.offersLong x 7 f = true)
    (hp : s.page (field 0 2 f.body) = some p) (hnone : p.listedAtOnce (field 2 2 f.body) (field 4 2 f.body) = none) :
    exec (.listPage x) s = .next (State.arbitrate { s.madeLong x f with
      dir := { s.dir with
        pages := pagesWith p.id (fun q => { q with work := q.work + 1 }) s.dir.pages
        listings := s.dir.listings ++ [⟨x, s.nextTicket, p.id, field 2 2 f.body,
          min (field 2 2 f.body + field 4 2 f.body) p.records, []⟩] }
      arb := { s.arb with
        tableQueue := s.arb.tableQueue ++ [⟨.listing x s.nextTicket, recordBurst p.header (field 2 2 f.body),
            .read (recordMask (field 2 2 f.body) 1) true⟩] } }) := by
  rw [exec_listPage h]
  simp only [State.serveListPage, State.madeLong_page, hp]
  unfold Page.listedAtOnce at hnone
  split_ifs at hnone with h1 h2 h3 h4 h5
  rw [if_neg h1, if_neg h2, if_neg h3, if_neg h4, if_neg h5, State.placeRead_eq, State.opPlaced_tail rfl rfl]
  rfl

/-- The release of a page begins (R42): its first record is read, not checked. -/
theorem State.beginRelease_eq {s : State} {id : Nat} {p : Page} (hp : s.page id = some p) :
    s.beginRelease id = { s with
      dir := { s.dir with
        releases := s.dir.releases.map fun r => if r.page = id then { r with running := true } else r }
      arb := { s.arb with
        tableQueue := s.arb.tableQueue ++ [⟨.release id, recordBurst p.header 0, .read (recordMask 0 1) false⟩] } } := by
  simp only [State.beginRelease, hp, State.placeRead_eq, State.opPlaced_tail (op := ⟨.release id, _, _⟩) rfl rfl]
  rfl

/-- The retirements after the work of a page has ended (R41). -/
def releasesAfterWork (p : Page) (l : List Release) : List Release :=
  if p.state = .retiring ∧ p.work ≤ 1 then l.map fun r => if r.page = p.id then { r with running := true } else r
  else l

/-- One operation on a page's extents has ended (R29, R41). -/
theorem State.endWork_eq {s : State} {id : Nat} {p : Page} (hp : s.page id = some p) :
    s.endWork id = { s with
      dir := { s.dir with
        pages := pagesWith id (fun q => { q with work := q.work - 1 }) s.dir.pages
        releases := releasesAfterWork p s.dir.releases }
      arb := { s.arb with tableQueue := queueAfterWork p s.arb.tableQueue } } := by
  have hid := State.id_of_page hp
  have hafter := State.page_modPage_self s id (fun q => { q with work := q.work - 1 }) fun _ => rfl
  rw [hp, Option.map_some] at hafter
  have hzero : p.work - 1 = 0 ↔ p.work ≤ 1 := by omega
  simp only [State.endWork, hafter, hzero, queueAfterWork, releasesAfterWork, hid]
  split
  · rw [State.beginRelease_eq hafter]
    rfl
  · rfl

/-- The reply to a long request changes its link alone. -/
theorem State.answer_eq (s : State) (x : Link) (ticket : Nat) (r : ReplyResult) :
    s.answer x ticket r = { s with links := longReplied x ticket r s.links } := by
  unfold State.answer longReplied
  change (match (s.links.get x).long.find? _ with | none => _ | some q => _) = _
  cases hq : (s.links.get x).long.find? fun q => q.ticket == ticket with
  | none => rfl
  | some q =>
    have hticket : q.ticket = ticket := by simpa using List.find?_some hq
    simp only [State.modLink, LinkCtl.repliedLong, hticket]

theorem exec_listPageReadEnd {s : State} {x : Link} {e : TableEnd} {k : Nat} {q : Listing}
    (he : s.arb.tableEnds.find? (fun e => e.op.client.isListing x) = some e) (hclient : e.op.client = .listing x k)
    (hq : s.dir.listings.find? (fun q => q.link == x && q.ticket == k) = some q) :
    exec (.listPageReadEnd x) s =
      .next (State.listStep q e { s with arb := { s.arb with tableEnds := s.arb.tableEnds.erase e } }).arbitrate := by
  have hexec : exec (.listPageReadEnd x) s = execListPageReadEnd x s := rfl
  have hlisting : s.dir.listingOf e.op.client = some q := by rw [hclient]; exact hq
  rw [hexec, execListPageReadEnd, State.takeEnd_of_find he]
  simp only [hlisting]

/-- A record of a listing that is not the last: the next one is read. -/
theorem State.listStep_next {s : State} {q : Listing} {p : Page} (e : TableEnd) (hp : s.page q.page = some p)
    (hmore : q.next + 1 < q.stop) :
    s.listStep q e = { s with
      dir := { s.dir with listings := s.dir.listings.map fun r =>
        if r.ticket = q.ticket then { r with next := r.next + 1, got := q.got ++ [recordListing q.next e.words] }
        else r }
      arb := { s.arb with tableQueue := s.arb.tableQueue ++ [⟨.listing q.link q.ticket, recordBurst p.header (q.next + 1),
        .read (recordMask (q.next + 1) 1) true⟩] } } := by
  simp only [State.listStep, if_pos hmore, hp, State.placeRead_eq, State.opPlaced_tail (op := ⟨.listing _ _, _, _⟩) rfl rfl]
  rfl

/-- The last record of a listing: LIST PAGE is answered, and the work on the page ends. -/
theorem State.listStep_last {s : State} {q : Listing} {p : Page} (e : TableEnd) (hp : s.page q.page = some p)
    (hlast : q.stop ≤ q.next + 1) :
    s.listStep q e = { s with
      dir := { s.dir with
        pages := pagesWith q.page (fun q => { q with work := q.work - 1 }) s.dir.pages
        releases := releasesAfterWork p s.dir.releases
        listings := s.dir.listings.filter fun r => r.ticket != q.ticket }
      arb := { s.arb with tableQueue := queueAfterWork p s.arb.tableQueue }
      links := longReplied q.link q.ticket (.done (.listed p.listing (q.got ++ [recordListing q.next e.words])))
        s.links } := by
  simp only [State.listStep, if_neg (not_lt.2 hlast), hp]
  rw [State.answer_eq, State.endWork_eq (p := p)]
  · rfl
  · exact hp

theorem exec_damagedMarkWriteEnd {s : State} {e : TableEnd}
    (he : s.arb.tableEnds.find? (fun e => e.op.client.isMark) = some e) :
    exec .damagedMarkWriteEnd s = .next { s with arb := { s.arb with tableEnds := s.arb.tableEnds.erase e } } := by
  have hexec : exec .damagedMarkWriteEnd s = execDamagedMarkWriteEnd s := rfl
  rw [hexec, execDamagedMarkWriteEnd, State.takeEnd_of_find he]

/-- Settles O25: the first read, the next read, the answer, and the end of a mark. -/
theorem listPageReadsItsRecords : Obligations.ListPageReadsItsRecords := by
  refine ⟨fun x s f p h hp h1 h2 h3 h4 h5 => listPage_reads h hp ?_, fun x s e k q p he hclient hq hp => ?_,
    fun s e he => exec_damagedMarkWriteEnd he⟩
  · simp [Page.listedAtOnce, h1, h2, not_lt.2 h4, Page.records, h5, h3.ne']
  · have hexec := exec_listPageReadEnd he hclient hq
    have hfound := List.find?_some hq
    simp only [Bool.and_eq_true, beq_iff_eq] at hfound
    obtain ⟨rfl, rfl⟩ := hfound
    refine ⟨fun hmore => ?_, fun hlast => ?_⟩
    · rw [hexec, State.listStep_next (p := p) e (by exact hp) hmore]
      rfl
    · rw [State.listStep_last (p := p) e (by exact hp) hlast, ← State.id_of_page hp] at hexec
      exact ⟨_, hexec, rfl, rfl, rfl, rfl, rfl, rfl, rfl, rfl, rfl, rfl, rfl, rfl, rfl⟩

end Sys2Proof.Machine
end

section
/-!
PROOFS. OPEN PAGE (R34, R35, R77): its checks in order, the event in which it meets the report of a lane's take, and the
page it admits.
-/

set_option Elab.async false
namespace Sys2Proof.Machine

/-! ## The command (R77, R173) -/

theorem exec_openPage (s : State) (x : Link) : exec (.openPage x none) s = .next (s.takeOpenPage x false) := rfl

/-- An OPEN PAGE that meets a report is taken from the state that the report has left. -/
theorem exec_openPage_met {s found : State} {x : Link} {us : List Upset} {f : Frame}
    (hmeets : s.fallThatMeets us = some found) (h : found.offers x 1 f = true) :
    exec (.openPage x (some us)) s = .next (found.takeOpenPage x true).arbitrate := by
  have hexec : exec (.openPage x (some us)) s = execOpenPage x s (some us) := rfl
  have hhead : found.takeHead x (Frame.isKind ReqKind.openPage) = some (f, found.tookAt x) :=
    State.takeHead_offers h (Frame.isKind_of_offers h)
  simp only [hexec, execOpenPage, hmeets, hhead]

/-- Where no report comes, or no OPEN PAGE waits, the meeting changes nothing. -/
theorem exec_openPage_unmet {s : State} {x : Link} {us : List Upset}
    (h : ∀ found, s.fallThatMeets us = some found →
      (found.link x).rx.head?.any (fun f => f.kind == 1) = false) :
    exec (.openPage x (some us)) s = .next s := by
  have hexec : exec (.openPage x (some us)) s = execOpenPage x s (some us) := rfl
  rw [hexec, execOpenPage]
  cases hmeets : s.fallThatMeets us with
  | none => rfl
  | some found =>
    have hhead : found.takeHead x (Frame.isKind ReqKind.openPage) = none := by
      have hrx := h found hmeets
      unfold State.takeHead
      cases hlist : (found.link x).rx with
      | nil => rfl
      | cons f rest =>
        rw [hlist, List.head?_cons, Option.any_some] at hrx
        have hkind : f.isKind ReqKind.openPage = false := by
          rw [beq_eq_false_iff_ne] at hrx
          exact beq_eq_false_iff_ne.2 fun hk => hrx (BitVec.eq_of_toNat_eq hk)
        simp [hkind]
    simp only [hhead]

theorem State.takeOpenPage_offers {s : State} {x : Link} {f : Frame} {met : Bool} (h : s.offers x 1 f = true) :
    s.takeOpenPage x met =
      if f.hasLength 11 = true then
        if Config.longSlots ≤ (s.link x).long.length then s.answeredAt x f (.refused .busy)
        else (s.madeLong x f).serveOpenPage x met f s.nextTicket
      else s.answeredAt x f (.refused .badRequest) := by
  have hkind : f.isKind ReqKind.openPage = true := Frame.isKind_of_offers h
  rw [State.takeOpenPage, State.serveLong_offers h hkind, State.addLong_tookAt]
  rfl

theorem State.takeOpenPage_offersLong {s : State} {x : Link} {f : Frame} {met : Bool}
    (h : s.offersLong x 1 f = true) :
    s.takeOpenPage x met = (s.madeLong x f).serveOpenPage x met f s.nextTicket := by
  obtain ⟨hoffers, hlen, -, -⟩ := State.offersLong_iff.1 h
  simp only [Frame.lengthOk, State.kind_of_offers hoffers] at hlen
  exact State.serveLong_offersLong h (Frame.isKind_of_offers hoffers) hlen

/-- The end of a burst that meets an OPEN PAGE: a burst in the store whose end moves the mode from NORMAL. -/
theorem State.fallThatMeets_eq_some {s found : State} {us : List Upset} :
    s.fallThatMeets us = some found ↔
      ∃ b, s.ctl.burst = some b ∧ b.addr + 8 ≤ s.size.extents * 16384 ∧ found = s.burstEnded b us ∧
        exec (.burstEnd us) s = .next found.arbitrate ∧ s.adm.mode = .normal ∧ found.adm.mode ≠ .normal := by
  have hexec : exec (.burstEnd us) s = execBurstEnd us s := rfl
  rw [hexec, State.fallThatMeets, execBurstEnd]
  cases hb : s.ctl.burst with
  | none => simp
  | some b =>
    have hwords : s.size.words = s.size.extents * 16384 := rfl
    simp only [hwords, Option.some.injEq, exists_eq_left']
    constructor
    · intro h
      split at h
      · next hmeets =>
        obtain ⟨hstore, hmode, hleft⟩ := hmeets
        cases h
        exact ⟨hstore, rfl, if_pos hstore, hmode, hleft⟩
      · cases h
    · rintro ⟨hstore, rfl, -, hmode, hleft⟩
      exact if_pos ⟨hstore, hmode, hleft⟩

/-! ## The checks (R34) -/

theorem ContainerOrder.ofCode_eq_none {n : Nat} : ContainerOrder.ofCode n = none ↔ 1 < n := by
  match n with
  | 0 | 1 => decide
  | n + 2 => simp [ContainerOrder.ofCode]

/-- The refusal that the checks of OPEN PAGE give, in their order (R34); `closed` says that the mode check finds
CLOSED. -/
def State.openPageRefusal (s : State) (x : Link) (body : List Byte) (closed : Prop) [Decidable closed] :
    Option Refuse :=
  if field 0 2 body = 0 then some .badRequest
  else if field 2 2 body = 0 ∨ 16384 < field 2 2 body ∨ field 4 2 body = 0 ∨ 16384 < field 4 2 body ∨
      field 6 1 body = 0 ∨ 4 < field 6 1 body ∨ 1 < field 8 1 body then some .badGeometry
  else if 7 < field 7 1 body then some .badProfile
  else if (s.page (field 0 2 body)).isSome = true then some .pageExists
  else if 256 ≤ s.dir.pages.length then some .directoryFull
  else if (s.intake x).page.isSome = true then some .intakeBusy
  else if s.adm.classify x (OpenFields.of body) = .refuse then some .ruleRefused
  else if closed ∨ s.map.pool = [] then some .storeLow
  else none

/-- The checks of the directory and of the intake come first, then the rules and the pool. -/
theorem State.openPageRefusal_eq (s : State) (x : Link) (body : List Byte) (closed : Prop) [Decidable closed] :
    s.openPageRefusal x body closed =
      (s.openRefusal x (OpenFields.of body)).or
        (if s.adm.classify x (OpenFields.of body) = .refuse then some .ruleRefused
        else if closed ∨ s.map.pool = [] then some .storeLow else none) := by
  have hplaces : Config.directoryPlaces = 256 := rfl
  simp only [State.openPageRefusal, State.openRefusal, OpenFields.of, Nat.lt_one_iff, ContainerOrder.ofCode_eq_none,
    hplaces]
  split_ifs <;> rfl

/-- The first check that fails answers. -/
theorem State.serveOpenPage_refused {s : State} {x : Link} {f : Frame} {met : Bool} {r : Refuse} (ticket : Nat)
    (hr : s.openPageRefusal x f.body (met = false ∧ s.adm.mode = .closed) = some r) :
    s.serveOpenPage x met f ticket = s.answer x ticket (.refused r) := by
  rw [State.openPageRefusal_eq] at hr
  simp only [State.serveOpenPage]
  cases hfirst : s.openRefusal x (OpenFields.of f.body) with
  | some c =>
    rw [hfirst, Option.some_or] at hr
    rw [Option.some.inj hr]
  | none =>
    rw [hfirst, Option.none_or] at hr
    cases hclass : s.adm.classify x (OpenFields.of f.body) with
    | refuse =>
      rw [if_pos hclass] at hr
      rw [← Option.some.inj hr]
    | accept cls target =>
      rw [if_neg (by rw [hclass]; nofun)] at hr
      split_ifs at hr with hlow
      rw [← Option.some.inj hr]
      exact if_pos (hlow.imp_right .inr)

/-- An OPEN PAGE on offer that a check refuses. -/
theorem State.takeOpenPage_refused {s : State} {x : Link} {f : Frame} {met : Bool} {r : Refuse}
    (h : s.offersLong x 1 f = true)
    (hr : s.openPageRefusal x f.body (met = false ∧ s.adm.mode = .closed) = some r) :
    s.takeOpenPage x met = s.answeredLong x f (.refused r) := by
  rw [State.takeOpenPage_offersLong h, State.serveOpenPage_refused (s := s.madeLong x f) s.nextTicket hr,
    State.answer_madeLong h]

/-- Settles O19: the refusals in order, alone and in the event of a burst's end, and the meetings that change nothing or
are refused for their length or as BUSY. -/
theorem openPageIsRefusedInOrder : Obligations.OpenPageIsRefusedInOrder := by
  refine ⟨fun x s f met found r hstate h hcount hr => ?_, fun s found us => State.fallThatMeets_eq_some,
    fun x s us => exec_openPage_unmet, fun x s us found f hmeets h => ?_⟩
  · rcases hstate with ⟨rfl, rfl⟩ | ⟨us, rfl, hmeets⟩
    · have hrefused : found.openPageRefusal x f.body (false = false ∧ found.adm.mode = .closed) = some r := by
        simpa only [State.openPageRefusal, true_and] using hr
      exact ⟨fun _ => congrArg _ (State.takeOpenPage_refused h hrefused), fun hmet => absurd rfl hmet⟩
    · have hrefused : found.openPageRefusal x f.body (true = false ∧ found.adm.mode = .closed) = some r := by
        simpa only [State.openPageRefusal, reduceCtorEq, false_and] using hr
      refine ⟨nofun, fun _ => ?_⟩
      rw [exec_openPage_met hmeets (State.offersLong_iff.1 h).1, State.takeOpenPage_refused h hrefused]
  · rw [exec_openPage_met hmeets h, State.takeOpenPage_offers h]
    refine ⟨fun hlen => ?_, fun hlen hbusy => ?_⟩
    · rw [if_neg (by simpa [Frame.hasLength] using hlen)]
    · rw [if_pos (by simpa [Frame.hasLength] using hlen), if_pos (show Config.longSlots ≤ _ from hbusy)]

end Sys2Proof.Machine
end

section
/-!
PROOFS. What a link gains when notices and replies are placed on it (R174, R175), and what the reports of the extent map
and the admissions change (R70 to R73, R106).
-/

set_option Elab.async false
namespace Sys2Proof.Machine

/-! ## Frames placed -/

theorem LinkCtl.holds_iff {c : LinkCtl} {g : OutFrame} : c.holds g = true ↔ 0 < c.placed g := by
  cases hs : c.sending <;> simp [LinkCtl.holds, LinkCtl.placed, hs, List.count_pos_iff, eq_comm (a := g)]

/-- Beginning to send moves a frame, and loses none. -/
@[simp] theorem LinkCtl.placed_startSend (c : LinkCtl) (g : OutFrame) : c.startSend.placed g = c.placed g := by
  unfold LinkCtl.startSend
  cases hs : c.sending with
  | some f => rfl
  | none =>
    cases hpick : c.pickSend with
    | none => rfl
    | some q =>
      obtain ⟨f, rest⟩ := q
      have hperm : (f :: rest).Perm c.out := by
        unfold LinkCtl.pickSend at hpick
        split at hpick
        · split at hpick
          · next h hfind =>
            cases hpick
            exact (List.perm_cons_erase (List.mem_of_find?_eq_some hfind)).symm
          · cases hpick
        · split at hpick
          · next h f' rest' hout =>
            cases hpick
            rw [hout]
          · cases hpick
      simpa [LinkCtl.placed, hs] using hperm.count_eq g

@[simp] theorem LinkCtl.placed_noteWait (c : LinkCtl) (g : OutFrame) : c.noteWait.placed g = c.placed g := by
  simp [LinkCtl.placed]

theorem LinkCtl.placed_place (c : LinkCtl) (f g : OutFrame) :
    (c.place f).placed g = c.placed g + if f = g then 1 else 0 := by
  rw [LinkCtl.place, LinkCtl.placed_noteWait, LinkCtl.placed_startSend]
  simp [LinkCtl.placed, List.count_append, List.count_singleton, Nat.add_assoc]

/-- A link that has come from another by frames placed and notices discarded, `n` of the frames equal to `g`, unless a
notice was discarded. -/
structure LinkCtl.Gains (c d : LinkCtl) (g : OutFrame) (n : Nat) : Prop where
  keeps : c.placed g ≤ d.placed g
  discards : d.noticesDiscarded = c.noticesDiscarded ∨ d.noticesDiscarded = 65535 ∨
    (c.noticesDiscarded < d.noticesDiscarded ∧ d.noticesDiscarded < 65535)
  exact : d.noticesDiscarded = c.noticesDiscarded → c.noticesDiscarded ≠ 65535 → d.placed g = c.placed g + n

namespace LinkCtl.Gains
variable {c d e : LinkCtl} {g : OutFrame} {n m : Nat}

theorem refl (c : LinkCtl) (g : OutFrame) : c.Gains c g 0 := ⟨le_rfl, .inl rfl, fun _ _ => rfl⟩

theorem trans (h1 : c.Gains d g n) (h2 : d.Gains e g m) : c.Gains e g (n + m) := by
  obtain ⟨keeps1, discards1, exact1⟩ := h1
  obtain ⟨keeps2, discards2, exact2⟩ := h2
  refine ⟨keeps1.trans keeps2, by omega, fun hsame hfree => ?_⟩
  have hmid : d.noticesDiscarded = c.noticesDiscarded := by omega
  rw [exact2 (by omega) (by omega), exact1 hmid hfree, Nat.add_assoc]

theorem of_frames (hplaced : d.placed g = c.placed g + n) (hdiscards : d.noticesDiscarded = c.noticesDiscarded) :
    c.Gains d g n := ⟨by omega, .inl hdiscards, fun _ _ => hplaced⟩

theorem holds (h : c.Gains d g n) (hc : c.holds g = true) : d.holds g = true :=
  LinkCtl.holds_iff.2 ((LinkCtl.holds_iff.1 hc).trans_le h.keeps)

/-- A notice gained is held, or counted discarded. -/
theorem told {note : Notice} (h : c.Gains d (.notice note) n) (hn : 0 < n) : d.told c note := by
  obtain ⟨-, discards, exact⟩ := h
  unfold LinkCtl.told
  rw [LinkCtl.holds_iff]
  by_cases hsame : d.noticesDiscarded = c.noticesDiscarded
  · by_cases hfull : c.noticesDiscarded = 65535
    · exact .inr (.inl (hsame.trans hfull))
    · exact .inl (by rw [exact hsame hfull]; omega)
  · exact .inr (by omega)

end LinkCtl.Gains

theorem LinkCtl.gains_place (c : LinkCtl) (f g : OutFrame) : c.Gains (c.place f) g (if f = g then 1 else 0) :=
  .of_frames (c.placed_place f g) (by simp)

theorem LinkCtl.gains_placeNotice (c : LinkCtl) (note : Notice) (g : OutFrame) :
    c.Gains (c.placeNotice note) g (if .notice note = g then 1 else 0) := by
  unfold LinkCtl.placeNotice
  split
  · exact c.gains_place _ g
  · refine ⟨le_rfl, ?_, ?_⟩ <;>
      simp only [satAdd, Config.countMax] <;> omega

/-- The parts of a link that a notice leaves as they are. -/
def LinkCtl.settled (c : LinkCtl) : LinkCtl :=
  { c with out := [], sending := none, waiters := [], noticesDiscarded := 0 }

theorem LinkCtl.settled_startSend (c : LinkCtl) : c.startSend.settled = c.settled := by
  unfold LinkCtl.startSend
  repeat' split
  all_goals rfl

theorem LinkCtl.settled_noteWait (c : LinkCtl) : c.noteWait.settled = c.settled := by
  unfold LinkCtl.noteWait
  repeat' split
  all_goals rfl

theorem LinkCtl.settled_place (c : LinkCtl) (f : OutFrame) : (c.place f).settled = c.settled := by
  rw [LinkCtl.place, LinkCtl.settled_noteWait, LinkCtl.settled_startSend]
  rfl

theorem LinkCtl.settled_placeNotice (c : LinkCtl) (note : Notice) : (c.placeNotice note).settled = c.settled := by
  unfold LinkCtl.placeNotice
  split
  · exact c.settled_place _
  · rfl

/-! ## Links told of something -/

/-- The links after notices have been placed on them, and nothing else. -/
structure State.LinksTold (s t : State) : Prop where
  settled : ∀ x, (t.link x).settled = (s.link x).settled
  gains : ∀ x g, ∃ n, (s.link x).Gains (t.link x) g n

namespace State.LinksTold
variable {s t u : State}

theorem of_links (h : t.links = s.links) : s.LinksTold t := by
  have hlink : t.link = s.link := funext fun x => congrArg (Pair.get · x) h
  exact ⟨fun x => by rw [hlink], fun x g => ⟨0, by rw [hlink]; exact .refl _ g⟩⟩

theorem trans (h1 : s.LinksTold t) (h2 : t.LinksTold u) : s.LinksTold u :=
  ⟨fun x => (h2.settled x).trans (h1.settled x), fun x g =>
    let ⟨_, g1⟩ := h1.gains x g
    let ⟨_, g2⟩ := h2.gains x g
    ⟨_, g1.trans g2⟩⟩

theorem long (h : s.LinksTold t) (x : Link) : (t.link x).long = (s.link x).long :=
  (congrArg LinkCtl.long (h.settled x) :)
theorem rx (h : s.LinksTold t) (x : Link) : (t.link x).rx = (s.link x).rx := (congrArg LinkCtl.rx (h.settled x) :)
theorem replyUse (h : s.LinksTold t) (x : Link) : (t.link x).replyUse = (s.link x).replyUse :=
  (congrArg LinkCtl.replyUse (h.settled x) :)
theorem recordReads (h : s.LinksTold t) (x : Link) : (t.link x).recordReads = (s.link x).recordReads :=
  (congrArg LinkCtl.recordReads (h.settled x) :)
theorem streams (h : s.LinksTold t) (x : Link) : (t.link x).streams = (s.link x).streams :=
  (congrArg LinkCtl.streams (h.settled x) :)

end State.LinksTold

theorem State.link_notify (s : State) (x y : Link) (note : Notice) :
    (s.notify x note).link y = if y = x then (s.link x).placeNotice note else s.link y := by
  cases x <;> cases y <;> rfl

theorem State.gains_notify (s : State) (x y : Link) (note : Notice) (g : OutFrame) :
    (s.link y).Gains ((s.notify x note).link y) g (if y = x ∧ .notice note = g then 1 else 0) := by
  rw [State.link_notify]
  by_cases hyx : y = x
  · subst hyx
    simpa using (s.link y).gains_placeNotice note g
  · simpa [hyx] using LinkCtl.Gains.refl (s.link y) g

theorem State.linksTold_notify (s : State) (x : Link) (note : Notice) : s.LinksTold (s.notify x note) :=
  ⟨fun y => by
    rw [State.link_notify]
    split
    · next h => rw [LinkCtl.settled_placeNotice, h]
    · rfl, fun y g => ⟨_, s.gains_notify x y note g⟩⟩

/-! ## Reports and admissions (R70 to R73) -/

/-- The settings of the admission block (R64). -/
def Admission.settings (a : Admission) : Vector Rule 8 × Nat × Nat × Nat × Nat :=
  (a.rules, a.defaultClass, a.lw, a.hw, a.k)

/-- A state that has come from another by reports and admissions: the mode, the admits, the free count and the links
alone may change, the links by notices. -/
structure State.Reported (s t : State) : Prop where
  others : t = { s with adm := t.adm, links := t.links }
  settings : t.adm.settings = s.adm.settings
  told : s.LinksTold t

namespace State.Reported
variable {s t u : State}

theorem refl (s : State) : s.Reported s := ⟨rfl, rfl, .of_links rfl⟩

theorem trans (h1 : s.Reported t) (h2 : t.Reported u) : s.Reported u :=
  ⟨by rw [h2.others, h1.others], h2.settings.trans h1.settings, h1.told.trans h2.told⟩

theorem modAdm (s : State) {f : Admission → Admission} (h : (f s.adm).settings = s.adm.settings) :
    s.Reported (s.modAdm f) := ⟨rfl, h, .of_links rfl⟩

theorem notify (s : State) (x : Link) (note : Notice) : s.Reported (s.notify x note) :=
  ⟨rfl, rfl, s.linksTold_notify x note⟩

theorem notifyBoth (s : State) (note : Notice) : s.Reported (s.notifyBoth note) :=
  (notify s .a note).trans (notify _ .b note)

theorem closeAdmission (s : State) : s.Reported s.closeAdmission := (modAdm s rfl).trans (notifyBoth _ _)

theorem leaveNormal (s : State) : s.Reported s.leaveNormal := by
  unfold State.leaveNormal
  split
  · exact modAdm s rfl
  · exact closeAdmission s

theorem openAdmission (s : State) : s.Reported s.openAdmission := by
  unfold State.openAdmission
  dsimp only
  split
  · exact (modAdm s rfl).trans (notifyBoth _ _)
  · exact modAdm s rfl

theorem reportFall (s : State) (n : Nat) : s.Reported (s.reportFall n) := by
  unfold State.reportFall
  dsimp only
  split
  · exact (modAdm s rfl).trans (leaveNormal _)
  · exact modAdm s rfl

theorem reportRise (s : State) (n : Nat) : s.Reported (s.reportRise n) := by
  unfold State.reportRise
  dsimp only
  split
  · exact (modAdm s rfl).trans (openAdmission _)
  · exact modAdm s rfl

theorem useAdmit (s : State) : s.Reported s.useAdmit := by
  unfold State.useAdmit
  dsimp only
  repeat' split
  · exact (modAdm s rfl).trans (closeAdmission _)
  · exact modAdm s rfl
  · exact refl s

end State.Reported

theorem State.leaveNormal_freeCount (s : State) : s.leaveNormal.adm.freeCount = s.adm.freeCount := by
  unfold State.leaveNormal
  split <;> rfl

theorem State.openAdmission_freeCount (s : State) : s.openAdmission.adm.freeCount = s.adm.freeCount := by
  unfold State.openAdmission
  dsimp only
  split <;> rfl

/-- A report leaves the count it tells. -/
@[simp] theorem State.reportFall_freeCount (s : State) (n : Nat) : (s.reportFall n).adm.freeCount = n := by
  unfold State.reportFall
  dsimp only
  split
  · rw [State.leaveNormal_freeCount]
    rfl
  · rfl

@[simp] theorem State.reportRise_freeCount (s : State) (n : Nat) : (s.reportRise n).adm.freeCount = n := by
  unfold State.reportRise
  dsimp only
  split
  · rw [State.openAdmission_freeCount]
    rfl
  · rfl

/-- Outside NORMAL a fallen free count is noted, and no more (R71). -/
theorem State.reportFall_of_not_normal {s : State} (n : Nat) (h : s.adm.mode ≠ .normal) :
    s.reportFall n = { s with adm := { s.adm with freeCount := n } } := by
  simp only [State.reportFall, h, false_and, if_false]
  rfl

end Sys2Proof.Machine
end

section
/-!
PROOFS. The page an OPEN PAGE admits (R34 step 8, R35, R70, R71, R77, R100).
-/

set_option Elab.async false
namespace Sys2Proof.Machine

/-! ## What a report leaves -/

namespace State.Reported
variable {s t : State} (h : s.Reported t)
include h

theorem dir : t.dir = s.dir := (congrArg State.dir h.others :)
theorem map : t.map = s.map := (congrArg State.map h.others :)
theorem arb : t.arb = s.arb := (congrArg State.arb h.others :)
theorem ctl : t.ctl = s.ctl := (congrArg State.ctl h.others :)
theorem intakes : t.intakes = s.intakes := (congrArg State.intakes h.others :)
theorem disp : t.disp = s.disp := (congrArg State.disp h.others :)
theorem press : t.press = s.press := (congrArg State.press h.others :)
theorem nextTicket : t.nextTicket = s.nextTicket := (congrArg State.nextTicket h.others :)
theorem still : t.still = s.still := (congrArg State.still h.others :)

theorem page (id : Nat) : t.page id = s.page id := congrArg (fun d : Directory => d.pages.find? _) h.dir

end State.Reported

/-! ## The header take (R100, R101) -/

theorem State.leaveNormal_map (s : State) (m : ExtentMap) :
    State.leaveNormal { s with map := m } = { s.leaveNormal with map := m } := by
  unfold State.leaveNormal
  split <;> rfl

/-- A report reads the count it is given, not the map. -/
theorem State.reportFall_map (s : State) (m : ExtentMap) (n : Nat) :
    State.reportFall n { s with map := m } = { s.reportFall n with map := m } := by
  unfold State.reportFall
  dsimp only
  split
  · exact State.leaveNormal_map (s.modAdm fun a => { a with freeCount := n }) m
  · rfl

theorem State.takeHeadExtent_of_pool {s : State} {owner e : Nat} {use : ExtentUse} {rest : List Nat}
    (h : s.map.pool = e :: rest) :
    s.takeHeadExtent owner use = some (e, { s.reportFall rest.length with
      map := ⟨planePut s.map.table e ⟨.last, owner, use⟩, rest⟩ }) := by
  simp only [State.takeHeadExtent, h]
  rw [← State.reportFall_map]
  rfl

/-! ## The page entered (R35, R36) -/

theorem State.enterPage_eq (s : State) (x : Link) (ticket : Nat) (p : Page) :
    s.enterPage x ticket p = { s with
      dir := { s.dir with
        pages := s.dir.pages ++ [p]
        inits := s.dir.inits ++ [⟨p.id, x, ticket, 0, p.records, p.header⟩]
        profiles := if h : p.profile < 8 then
            s.dir.profiles.set p.profile { s.dir.profiles[p.profile] with uses := s.dir.profiles[p.profile].uses + 1 } h
          else s.dir.profiles }
      intakes := s.intakes.set x { s.intake x with page := some p.id }
      arb := { s.arb with tableQueue := s.arb.tableQueue ++ [⟨.headerInit p.id, recordBurst p.header 0,
        .write (List.replicate 8 0) (recordMask 0 (min 4 p.records))⟩] } } := by
  simp only [State.enterPage, State.placeOp_eq, State.opPlaced_tail (op := ⟨.headerInit p.id, _, _⟩) rfl rfl]
  rfl

/-- The page that an OPEN PAGE of these fields asks for. -/
def openedPage (x : Link) (body : List Byte) (pr : Profile) (cls : Nat) (target : Option Link) (header : Nat) : Page :=
  newPage x (OpenFields.of body) pr cls target header

/-- What the mode check of an admission uses (R70): nothing where the request met the report (R77). -/
def State.modeChecked (met : Bool) (s : State) : State := if met then s else s.useAdmit

theorem State.reported_modeChecked (s : State) (met : Bool) : s.Reported (s.modeChecked met) := by
  cases met
  · exact .useAdmit s
  · exact .refl s

/-- The state in which the page has entered the directory: the admission of the page and the report of its header take
come first, the first write of its header initialisation last. -/
def State.opened (x : Link) (f : Frame) (s : State) (met : Bool) (cls : Nat) (target : Option Link) (e : Nat)
    (rest : List Nat) : State :=
  State.enterPage x s.nextTicket
    (openedPage x f.body (s.dir.profiles.toList.getD (field 7 1 f.body) Profile.initial) cls target e)
    { State.reportFall rest.length ((s.madeLong x f).modeChecked met) with
      map := ⟨planePut s.map.table e ⟨.last, field 0 2 f.body, .header⟩, rest⟩ }

theorem State.takeOpenPage_admitted {s : State} {x : Link} {f : Frame} {met : Bool} {cls e : Nat}
    {target : Option Link} {rest : List Nat} (h : s.offersLong x 1 f = true) (hcount : s.countedPool = true)
    (hnone : s.openRefusal x (OpenFields.of f.body) = none)
    (hclass : s.adm.classify x (OpenFields.of f.body) = .accept cls target) (hpool : s.map.pool = e :: rest)
    (hmode : met = true ∨ s.adm.mode ≠ .closed) :
    s.takeOpenPage x met = (s.opened x f met cls target e rest).arbitrate := by
  have hfree : s.adm.freeCount = rest.length + 1 := by
    have := beq_iff_eq.1 hcount
    rw [this, hpool, List.length_cons]
  have hopen : ¬ ((met = false ∧ s.adm.mode = .closed) ∨ s.adm.freeCount = 0 ∨ s.map.pool = []) := by
    rw [hfree, hpool]
    rcases hmode with hmet | hmode
    · simp [hmet]
    · simp [hmode]
  have hmap : ((s.madeLong x f).modeChecked met).map = s.map := (State.reported_modeChecked _ met).map
  have htake := State.takeHeadExtent_of_pool (owner := field 0 2 f.body) (use := .header) ((congrArg _ hmap).trans hpool)
  have hrefusal : (s.madeLong x f).openRefusal x (OpenFields.of f.body) = none := hnone
  have hdecision : (s.madeLong x f).adm.classify x (OpenFields.of f.body) = .accept cls target := hclass
  rw [State.takeOpenPage_offersLong h]
  simp only [State.serveOpenPage, hrefusal, hdecision]
  refine (if_neg hopen).trans ?_
  rw [hmap] at htake
  simp only [State.admitPage]
  change (match State.takeHeadExtent (field 0 2 f.body) .header ((s.madeLong x f).modeChecked met) with
    | some (e, s2) => _
    | none => _) = _
  rw [htake]
  rfl

/-- The state the header take has reported to, before the page enters. -/
theorem State.reported_header (s : State) (x : Link) (f : Frame) (met : Bool) (n : Nat) :
    (s.madeLong x f).Reported (State.reportFall n ((s.madeLong x f).modeChecked met)) :=
  (State.reported_modeChecked _ met).trans (.reportFall _ n)

theorem ContainerOrder.getD_ofCode {n : Nat} (h : n ≤ 1) :
    (ContainerOrder.ofCode n).getD .highFirst = if n = 0 then .highFirst else .lowFirst := by
  interval_cases n <;> rfl

/-- The checks of R34 that a good request passes. -/
theorem State.openRefusal_eq_none {s : State} {x : Link} {body : List Byte} (hid : 0 < field 0 2 body)
    (hw : 0 < field 2 2 body) (hw2 : field 2 2 body ≤ 16384) (hht : 0 < field 4 2 body) (hht2 : field 4 2 body ≤ 16384)
    (hc : 0 < field 6 1 body) (hc2 : field 6 1 body ≤ 4) (hprofile : field 7 1 body < 8) (horder : field 8 1 body ≤ 1)
    (hpage : s.page (field 0 2 body) = none) (hroom : s.dir.pages.length < 256) (hintake : (s.intake x).page = none) :
    s.openRefusal x (OpenFields.of body) = none := by
  have hplaces : Config.directoryPlaces = 256 := rfl
  simp only [State.openRefusal, OpenFields.of, ContainerOrder.ofCode_eq_none, hpage, hintake, hplaces,
    Option.isSome_none, Bool.false_eq_true, if_false]
  rw [if_neg (by omega), if_neg (by omega), if_neg (by omega), if_neg (by omega)]

theorem State.link_madeLong (s : State) (x : Link) (f : Frame) :
    (s.madeLong x f).link x = (s.link x).tookLong f s.nextTicket := by
  cases x <;> rfl

/-- Settles O20: the page entered from the state its header take has reported to. -/
theorem openPageAdmitsThePage : Obligations.OpenPageAdmitsThePage := by
  intro x s f met found e rest cls target h hstate hoffers hcount hid hw hw2 hht hht2 hc hc2 horder hpage hroom hintake
    hclass hpool pr bands
  have hnone := State.openRefusal_eq_none hid hw hw2 hht hht2 hc hc2 h horder hpage hroom hintake
  have hpr : found.dir.profiles.toList.getD (field 7 1 f.body) Profile.initial = pr := by
    simp [pr, List.getD_eq_getElem?_getD, h]
  have hkind : f.k = 1 := State.kind_of_offers (State.offersLong_iff.1 hoffers).1
  have hreported := found.reported_header x f met.isSome rest.length
  refine ⟨found.opened x f met.isSome cls target e rest, ?_, ?_⟩
  · rcases hstate with ⟨rfl, rfl, hmode⟩ | ⟨us, rfl, hmeets⟩
    · rw [exec_openPage, State.takeOpenPage_admitted hoffers hcount hnone hclass hpool (.inr hmode)]
      rfl
    · rw [exec_openPage_met hmeets (State.offersLong_iff.1 hoffers).1,
        State.takeOpenPage_admitted hoffers hcount hnone hclass hpool (.inl rfl), State.arbitrate_arbitrate]
      rfl
  · rw [State.opened, hpr, State.enterPage_eq]
    have hdir := hreported.dir
    have hlink := hreported.told
    have hadm := hreported.settings
    simp only [Admission.settings, Prod.mk.injEq] at hadm
    obtain ⟨hrules, -, hlw, hhw, -⟩ := hadm
    refine ⟨?_, ?_, ?_, ?_, ?_, ?_, rfl, rfl, State.reportFall_freeCount _ _, hrules, hlw, hhw, ?_, ?_, ?_, ?_, ?_, ?_,
      ?_, ?_, ?_, ?_, ?_⟩
    · simp only [hdir, openedPage, newPage, OpenFields.of, ContainerOrder.getD_ofCode horder]
      rfl
    · simp only [hdir, openedPage, newPage, OpenFields.of, h, dite_true]
      rfl
    · simp only [hdir]
      rfl
    · exact (congrArg Directory.releases hdir :)
    · exact (congrArg Directory.listings hdir :)
    · simp only [State.intake, hreported.intakes]
      rfl
    · rintro rfl
      obtain ⟨-, rfl, -⟩ | ⟨us, hus, -⟩ := hstate
      · exact ⟨rfl, rfl⟩
      · cases hus
    · intro hmet
      obtain ⟨rfl, -⟩ | ⟨us, rfl, hmeets⟩ := hstate
      · exact absurd rfl hmet
      · obtain ⟨-, -, -, -, -, -, hmode⟩ := State.fallThatMeets_eq_some.1 hmeets
        have hfall := State.reportFall_of_not_normal (s := found.madeLong x f) rest.length hmode
        exact ⟨(congrArg State.adm hfall :), (congrArg State.links hfall :)⟩
    · simp only [hreported.arb]
      rfl
    · refine (hlink.long x).trans ?_
      rw [State.link_madeLong, ← hkind]
      rfl
    · refine (hlink.rx x).trans ?_
      rw [State.link_madeLong]
      rfl
    · refine (hlink.replyUse x).trans ?_
      rw [State.link_madeLong]
      rfl
    · exact hreported.nextTicket
    · exact hreported.disp
    · exact hreported.press
    · exact hreported.ctl
    · exact hreported.still

end Sys2Proof.Machine
end

section
/-!
PROOFS. The end of a header initialisation (R36).
-/

set_option Elab.async false
namespace Sys2Proof.Machine

/-! ## Page records changed -/

/-- Two changes to the record of a page. -/
theorem pagesWith_pagesWith (id : Nat) {f : Page → Page} (g : Page → Page) (hf : ∀ p, (f p).id = p.id)
    (l : List Page) : pagesWith id g (pagesWith id f l) = pagesWith id (fun p => g (f p)) l := by
  simp only [pagesWith, List.map_map]
  refine List.map_congr_left fun q _ => ?_
  by_cases hq : q.id = id <;> simp [hq, hf]

/-- The record of a page among records of which that page's has been changed. -/
theorem State.page_of_pagesWith {s t : State} {id : Nat} {f : Page → Page} {p : Page}
    (ht : t.dir.pages = pagesWith id f s.dir.pages) (hf : ∀ p, (f p).id = p.id) (hp : s.page id = some p) :
    t.page id = some (f p) := by
  have hself := State.page_modPage_self s id f hf
  rw [hp] at hself
  exact (congrArg (List.find? _) ht).trans hself

/-! ## The end of a header initialisation -/

theorem exec_headerInitComplete {s : State} {page : Nat} {h : HeaderInit}
    (hfind : s.dir.inits.find? (fun i => i.page == page) = some h) (hwritten : h.total ≤ h.written) :
    exec (.headerInitComplete page) s = .next (s.headerDone h).arbitrate := by
  have hexec : exec (.headerInitComplete page) s = execHeaderInitComplete page s := rfl
  simp only [hexec, execHeaderInitComplete, hfind, if_pos hwritten]

/-- The links after the reply that the page's state gives OPEN PAGE. -/
def HeaderInit.replied (h : HeaderInit) (p : Page) (l : Pair LinkCtl) : Pair LinkCtl :=
  if p.state = .opening then longReplied h.link h.ticket (.done (.opened p.id p.b p.cls p.copyTarget)) l
  else if p.state = .retiring then longReplied h.link h.ticket (.refused .pageRetiring) l
  else l

/-- The record of the page: an OPENING one is FILLING, and the work in flight has fallen. -/
def Page.initEnded (p : Page) (q : Page) : Page :=
  { q with state := if p.state = .opening then .filling else q.state, work := q.work - 1 }

theorem State.headerDone_eq {s : State} {h : HeaderInit} {p : Page} (hp : s.page h.page = some p) :
    s.headerDone h = { s with
      dir := { s.dir with
        inits := s.dir.inits.filter fun i => i.page != h.page
        pages := pagesWith p.id p.initEnded s.dir.pages
        releases := releasesAfterWork p s.dir.releases }
      links := h.replied p s.links
      arb := { s.arb with tableQueue := queueAfterWork p s.arb.tableQueue } } := by
  have hself : s.page p.id = some p := (State.id_of_page hp).symm ▸ hp
  simp only [State.headerDone, hp, State.answer_eq, State.modPage_eq, HeaderInit.replied]
  by_cases hopening : p.state = .opening
  · have hfilling : Page.initEnded p = fun q => { q with state := .filling, work := q.work - 1 } := by
      funext q
      rw [Page.initEnded, if_pos hopening]
    simp only [hopening, if_true, hfilling]
    rw [State.endWork_eq (p := { p with state := .filling })]
    · simp only [releasesAfterWork, queueAfterWork, hopening, reduceCtorEq, false_and, if_false]
      rw [← pagesWith_pagesWith p.id (f := fun q => { q with state := .filling })
        (fun q => { q with work := q.work - 1 }) fun _ => rfl]
      rfl
    · exact State.page_of_pagesWith (s := s) (f := fun q => { q with state := .filling }) rfl (fun _ => rfl) hself
  · have hkept : Page.initEnded p = fun q => { q with work := q.work - 1 } := by
      funext q
      rw [Page.initEnded, if_neg hopening]
    simp only [hopening, if_false, hkept]
    split
    · rw [State.endWork_eq (p := p)]
      · rfl
      · exact hself
    · rw [State.endWork_eq (p := p)]
      · rfl
      · exact hself

/-- Settles O22: the reply and the release by the page's state. -/
theorem headerInitialisationEndsOpening : Obligations.HeaderInitialisationEndsOpening := by
  intro page s h p hfind hwritten hp replied st hst hstates
  have hpage : h.page = page := by simpa using List.find?_some hfind
  have hid := State.id_of_page hp
  subst hpage hst
  refine ⟨s.headerDone h, exec_headerInitComplete hfind hwritten, ?_⟩
  rw [State.headerDone_eq hp]
  refine ⟨?_, rfl, ?_, ?_, rfl, rfl, rfl, rfl, rfl, rfl, rfl, rfl, rfl⟩
  · exact State.page_of_pagesWith (s := s) (f := p.initEnded) (by rw [hid]) (fun _ => rfl) hp
  · simp only [HeaderInit.replied, hid]
    rfl
  · simp only [queueAfterWork, hid]

end Sys2Proof.Machine
end

section
/-!
PROOFS. The ends of jobs at their slots and at their links, and the page that ceases to be an intake page (R47, R56, R58,
R60, R95).
-/

set_option Elab.async false
namespace Sys2Proof.Machine

theorem Pair.get_set {α : Type} (p : Pair α) (x y : Link) (v : α) :
    (p.set x v).get y = if y = x then v else p.get y := by
  cases x <;> cases y <;> rfl

theorem State.link_of_links {s : State} {x y : Link} {c : LinkCtl} {t : State} (h : t.links = s.links.set x c) :
    t.link y = if y = x then c else s.link y := by
  rw [State.link, h, Pair.get_set]
  rfl

/-! ## Slots (R56, R58, R60) -/

/-- An intake of which a slot has become EMPTY, with which hold ceases. -/
def Intake.slotEmptied (k : Intake) (t : SlotId) : Intake :=
  { k with slots := k.slots.set t ⟨.empty, none, none, 0, 0⟩, hold := false }

theorem State.emptySlot_eq (s : State) (x : Link) (t : SlotId) :
    s.emptySlot x t = { s with
      intakes := s.intakes.set x ((s.intake x).slotEmptied t)
      links := if (s.intake x).hold = true then s.links.set x ((s.link x).placeNotice .resume) else s.links } := by
  simp only [State.emptySlot]
  split <;> rfl

/-- One ENCODE job of a slot has ended (R56, R58). -/
theorem State.slotJobEnd_eq (s : State) (x : Link) (t : SlotId) :
    s.slotJobEnd x t = { s with
      intakes := s.intakes.set x ((s.intake x).slotEnded t)
      links := s.resumed x t } := by
  simp only [State.slotJobEnd, Intake.slotEnded, State.resumed]
  split
  · next hlast =>
    rw [State.emptySlot_eq]
    simp only [hlast, true_and]
    rfl
  · next hmore =>
    simp only [hmore, false_and, if_false]
    rfl

/-! ## What ends of jobs bring about -/

/-- What ends of waiting jobs and of intake pages do to the links and the intakes: where hold ceased a RESUME was placed,
no other notice was, and each long request still stands or has been refused with `code`. -/
structure State.LinksEnd (code : Refuse) (s t : State) : Prop where
  gains : ∀ y g, ∃ n, (s.link y).Gains (t.link y) g n ∧
    (g = .notice .resume → (s.intake y).hold = true → (t.intake y).hold = false → 0 < n) ∧
    (g.isReply = false → g ≠ .notice .resume → n = 0)
  long : ∀ y, (t.link y).long ⊆ (s.link y).long
  answered : ∀ y k q, (s.link y).long.find? (fun q => q.ticket == k) = some q →
    (t.link y).long.find? (fun q => q.ticket == k) = some q ∨
      ((t.link y).holds (.reply q.kind q.tag (.refused code)) = true ∧ ∀ r ∈ (t.link y).long, r.ticket ≠ k)

namespace State.LinksEnd
variable {code : Refuse} {s t u : State}

theorem of_same (hlinks : t.links = s.links) (hintakes : t.intakes = s.intakes) : s.LinksEnd code t := by
  have hlink : t.link = s.link := funext fun x => congrArg (Pair.get · x) hlinks
  have hintake : t.intake = s.intake := funext fun x => congrArg (Pair.get · x) hintakes
  refine ⟨fun y g => ?_, fun y => ?_, fun y k q h => ?_⟩
  · rw [hlink, hintake]
    exact ⟨0, .refl _ g, (fun _ h1 h2 => absurd (h1.symm.trans h2) nofun), fun _ _ => rfl⟩
  · rw [hlink]
    exact List.Subset.refl _
  · rw [hlink]
    exact .inl h

theorem holds (h : s.LinksEnd code t) {y : Link} {g : OutFrame} (hg : (s.link y).holds g = true) :
    (t.link y).holds g = true :=
  let ⟨_, hgains, _⟩ := h.gains y g
  hgains.holds hg

theorem trans (h1 : s.LinksEnd code t) (h2 : t.LinksEnd code u) : s.LinksEnd code u := by
  refine ⟨fun y g => ?_, fun y => List.Subset.trans (h2.long y) (h1.long y), fun y k q hq => ?_⟩
  · obtain ⟨n, gains1, resume1, none1⟩ := h1.gains y g
    obtain ⟨m, gains2, resume2, none2⟩ := h2.gains y g
    refine ⟨n + m, gains1.trans gains2, fun hg hbefore hafter => ?_, fun hreply hg => by
      rw [none1 hreply hg, none2 hreply hg]⟩
    cases hmid : (t.intake y).hold
    · have := resume1 hg hbefore hmid
      omega
    · have := resume2 hg hmid hafter
      omega
  · rcases h1.answered y k q hq with hstands | ⟨hheld, hgone⟩
    · exact h2.answered y k q hstands
    · exact .inr ⟨h2.holds hheld, fun r hr => hgone r (h2.long y hr)⟩

/-- RESUME is told to the link whose hold ceased. -/
theorem told (h : s.LinksEnd code t) {y : Link} (hbefore : (s.intake y).hold = true)
    (hafter : (t.intake y).hold = false) : (t.link y).told (s.link y) .resume :=
  let ⟨_, hgains, hresume, _⟩ := h.gains y (.notice .resume)
  hgains.told (hresume rfl hbefore hafter)

end State.LinksEnd

/-- A state that has come from another by ends of waiting jobs and of intake pages: nothing but the intakes and the links
has changed. -/
structure State.JobsEnd (code : Refuse) (s t : State) : Prop extends s.LinksEnd code t where
  others : t = { s with intakes := t.intakes, links := t.links }

namespace State.JobsEnd
variable {code : Refuse} {s t u : State}

theorem refl (s : State) : s.JobsEnd code s := ⟨.of_same rfl rfl, rfl⟩

theorem trans (h1 : s.JobsEnd code t) (h2 : t.JobsEnd code u) : s.JobsEnd code u :=
  ⟨h1.toLinksEnd.trans h2.toLinksEnd, by rw [h2.others, h1.others]⟩

theorem foldl {α : Type} (g : State → α → State) (hg : ∀ (s : State) a, s.JobsEnd code (g s a)) (l : List α) (s : State) :
    s.JobsEnd code (l.foldl g s) := by
  induction l generalizing s with
  | nil => exact refl s
  | cons a l ih => exact (hg s a).trans (ih _)

end State.JobsEnd

/-- An intake changed, and RESUME placed where its hold was in force and the change ends it. -/
theorem State.jobsEnd_intake (code : Refuse) (s : State) (x : Link) (k : Intake) (told : Bool)
    (hk : (s.intake x).hold = true → k.hold = false → told = true) :
    s.JobsEnd code { s with
      intakes := s.intakes.set x k
      links := if told = true then s.links.set x ((s.link x).placeNotice .resume) else s.links } := by
  have hintake : ∀ y, State.intake { s with intakes := s.intakes.set x k } y = if y = x then k else s.intake y :=
    fun y => Pair.get_set _ _ _ _
  cases told
  · refine ⟨⟨fun y g => ⟨0, .refl _ g, fun _ hbefore hafter => ?_, fun _ _ => rfl⟩, fun _ => List.Subset.refl _,
      fun _ _ _ h => .inl h⟩, rfl⟩
    have hnew : (if y = x then k else s.intake y).hold = false := by rw [← hintake y]; exact hafter
    by_cases hyx : y = x
    · rw [if_pos hyx] at hnew
      exact absurd (hk (hyx ▸ hbefore) hnew) nofun
    · rw [if_neg hyx] at hnew
      exact absurd (hbefore.symm.trans hnew) nofun
  · have hlink := fun y => State.link_notify s x y .resume
    refine ⟨⟨fun y g => ⟨_, s.gains_notify x y .resume g, fun hg hbefore hafter => ?_, fun _ hg => ?_⟩,
      fun y => ?_, fun y _ _ h => .inl ?_⟩, rfl⟩
    · have hnew : (if y = x then k else s.intake y).hold = false := by rw [← hintake y]; exact hafter
      have hyx : y = x := by
        by_contra hyx
        rw [if_neg hyx] at hnew
        exact absurd (hbefore.symm.trans hnew) nofun
      simp [hyx, hg]
    · exact if_neg fun h => hg h.2.symm
    · exact fun _ h => (s.linksTold_notify x .resume).long y ▸ h
    · rw [← h]
      exact congrArg _ ((s.linksTold_notify x .resume).long y)

theorem State.jobsEnd_emptySlot (code : Refuse) (s : State) (x : Link) (t : SlotId) :
    s.JobsEnd code (s.emptySlot x t) := by
  rw [State.emptySlot_eq]
  exact s.jobsEnd_intake code x _ _ fun h _ => h

theorem State.jobsEnd_slotJobEnd (code : Refuse) (s : State) (x : Link) (t : SlotId) :
    s.JobsEnd code (s.slotJobEnd x t) := by
  simp only [State.slotJobEnd]
  split
  · exact s.jobsEnd_emptySlot code x t
  · exact s.jobsEnd_intake code x _ false fun h1 h2 => absurd (h1.symm.trans h2) nofun

theorem LinkCtl.repliedLong_long (c : LinkCtl) (q : LongReq) (r : ReplyResult) :
    (c.repliedLong q r).long = c.long.filter fun p => p.ticket != q.ticket := by
  simp [LinkCtl.repliedLong]

theorem LinkCtl.gains_repliedLong (c : LinkCtl) (q : LongReq) (r : ReplyResult) (g : OutFrame) :
    c.Gains (c.repliedLong q r) g (if .reply q.kind q.tag r = g then 1 else 0) :=
  .of_frames (LinkCtl.placed_place _ _ g) (by simp [LinkCtl.repliedLong])

theorem State.answer_of_some {s : State} {x : Link} {k : Nat} {q : LongReq} (r : ReplyResult)
    (hq : (s.link x).long.find? (fun q => q.ticket == k) = some q) :
    s.answer x k r = { s with links := s.links.set x ((s.link x).repliedLong q r) } := by
  have hq : (s.links.get x).long.find? (fun q => q.ticket == k) = some q := hq
  rw [State.answer_eq, longReplied, hq]
  rfl

/-- A long request that stands is outstanding no more once it is answered, and its reply is placed (R174). -/
theorem State.answer_answered {s : State} {x : Link} {k : Nat} {q : LongReq} (r : ReplyResult)
    (hq : (s.link x).long.find? (fun q => q.ticket == k) = some q) :
    ((s.answer x k r).link x).holds (.reply q.kind q.tag r) = true ∧
      ∀ p ∈ ((s.answer x k r).link x).long, p.ticket ≠ k := by
  have hticket : q.ticket = k := by simpa using List.find?_some hq
  have hlink : (s.answer x k r).link x = (s.link x).repliedLong q r := by
    rw [State.answer_of_some r hq, State.link_of_links (s := s) rfl, if_pos rfl]
  rw [hlink, LinkCtl.repliedLong_long, hticket]
  refine ⟨LinkCtl.holds_iff.2 ?_, fun p hp => by simpa using (List.mem_filter.1 hp).2⟩
  rw [LinkCtl.repliedLong, LinkCtl.placed_place, if_pos rfl]
  omega

/-- A refusal of a long request that stands. -/
theorem State.jobsEnd_answer (code : Refuse) (s : State) (x : Link) (k : Nat) :
    s.JobsEnd code (s.answer x k (.refused code)) := by
  cases hq : (s.link x).long.find? fun q => q.ticket == k with
  | none =>
    have hnone : s.answer x k (.refused code) = s := by
      simp only [State.answer, hq]
    rw [hnone]
    exact .refl s
  | some q =>
    have hanswered := State.answer_answered (.refused code) hq
    have hticket : q.ticket = k := by simpa using List.find?_some hq
    have hlink : ∀ y, (s.answer x k (.refused code)).link y =
        if y = x then (s.link x).repliedLong q (.refused code) else s.link y := fun y => by
      rw [State.answer_of_some _ hq, State.link_of_links (s := s) rfl]
    have hintake : (s.answer x k (.refused code)).intake = s.intake := by rw [State.answer_of_some _ hq]; rfl
    refine ⟨⟨fun y g => ?_, fun y => ?_, fun y k' q' hq' => ?_⟩, by rw [State.answer_of_some _ hq]⟩
    · rw [hintake, hlink]
      split
      · next hyx =>
        rw [hyx]
        exact ⟨_, (s.link x).gains_repliedLong q _ g, (fun _ h1 h2 => absurd (h1.symm.trans h2) nofun),
          fun hg _ => if_neg fun h => by rw [← h] at hg; cases hg⟩
      · exact ⟨0, .refl _ g, (fun _ h1 h2 => absurd (h1.symm.trans h2) nofun), fun _ _ => rfl⟩
    · rw [hlink]
      split
      · next hyx =>
        rw [LinkCtl.repliedLong_long, hyx]
        exact fun _ h => (List.mem_filter.1 h).1
      · exact List.Subset.refl _
    · by_cases hsame : y = x ∧ k' = k
      · obtain ⟨rfl, rfl⟩ := hsame
        obtain rfl : q = q' := Option.some.inj (hq.symm.trans hq')
        exact .inr hanswered
      · refine .inl ?_
        rw [hlink]
        split
        · next hyx =>
          have hk : k' ≠ k := fun hk => hsame ⟨hyx, hk⟩
          rw [LinkCtl.repliedLong_long, hticket, List.find?_filter, ← hyx]
          refine (congrArg (List.find? · _) (funext fun r => ?_)).trans hq'
          by_cases hr : r.ticket = k'
          · simp [hr, hk]
          · simp [hr]
        · exact hq'

/-! ## A page that ceases to be an intake page (R47, R60) -/

/-- An intake of which one slot, if it is FILLING with the page, has become EMPTY. -/
def Intake.fillEmptied (id : Nat) (t : SlotId) (k : Intake) : Intake :=
  if (k.slots.get t).fills id = true then k.slotEmptied t else k

theorem Slot.fills_iff (t : Slot) (id : Nat) : t.fills id = true ↔ t.state = .filling ∧ t.page = some id := by
  simp [Slot.fills]

theorem State.intake_of_intakes {s t : State} {x y : Link} {k : Intake} (h : t.intakes = s.intakes.set x k) :
    t.intake y = if y = x then k else s.intake y := by
  rw [State.intake, h, Pair.get_set]
  rfl

theorem State.intake_emptyFilling (s : State) (x y : Link) (id : Nat) (t : SlotId) :
    (s.emptyFilling x id t).intake y = if y = x then (s.intake x).fillEmptied id t else s.intake y := by
  simp only [State.emptyFilling, ← Slot.fills_iff, Intake.fillEmptied]
  split
  · rw [State.emptySlot_eq]
    exact State.intake_of_intakes rfl
  · split
    · next hyx => rw [hyx]
    · rfl

theorem State.jobsEnd_emptyFilling (code : Refuse) (s : State) (x : Link) (id : Nat) (t : SlotId) :
    s.JobsEnd code (s.emptyFilling x id t) := by
  simp only [State.emptyFilling]
  split
  · exact s.jobsEnd_emptySlot code x t
  · exact .refl s

/-- The intake of which the page has ceased to be the intake page, before its slots are looked at. -/
def Intake.pageLeft (k : Intake) : Intake :=
  { k with page := none, frame := k.frame.map fun f => { f with void := true } }

theorem Intake.ceased_eq (id : Nat) (k : Intake) :
    k.ceased id = if k.page = some id then (k.pageLeft.fillEmptied id .s0).fillEmptied id .s1 else k := by
  by_cases hpage : k.page = some id
  · by_cases h0 : k.slots.s0.fills id = true <;> by_cases h1 : k.slots.s1.fills id = true <;>
      simp [Intake.ceased, Intake.pageLeft, Intake.fillEmptied, Intake.slotEmptied, Slots.get, Slots.set, hpage, h0, h1]
  · simp [Intake.ceased, hpage]

theorem State.intake_ceaseIntake (s : State) (x y : Link) (id : Nat) :
    (s.ceaseIntake id x).intake y = if y = x then (s.intake x).ceased id else s.intake y := by
  rw [State.ceaseIntake, Intake.ceased_eq]
  split
  · simp only [List.foldl_cons, List.foldl_nil, State.intake_emptyFilling, if_true]
    have hleft : ∀ z, State.intake (s.modIntake x Intake.pageLeft) z =
      if z = x then (s.intake x).pageLeft else s.intake z := fun z => State.intake_of_intakes rfl
    change (if y = x then Intake.fillEmptied id .s1 (Intake.fillEmptied id .s0
      (State.intake (s.modIntake x Intake.pageLeft) x)) else if y = x then _ else
        State.intake (s.modIntake x Intake.pageLeft) y) = _
    rw [hleft, hleft]
    split <;> simp_all
  · split
    · next hyx => rw [hyx]
    · rfl

theorem State.jobsEnd_ceaseIntake (code : Refuse) (s : State) (x : Link) (id : Nat) :
    s.JobsEnd code (s.ceaseIntake id x) := by
  unfold State.ceaseIntake
  split
  · refine State.JobsEnd.trans ?_ (.foldl _ (fun t => t.jobsEnd_emptyFilling code x id) _ _)
    exact s.jobsEnd_intake code x _ false fun h1 h2 => absurd (h1.symm.trans h2) nofun
  · exact .refl s

/-- The page is no link's intake page any more. -/
def State.ceaseIntakes (id : Nat) (s : State) : State := [Link.a, Link.b].foldl (State.ceaseIntake id) s

theorem State.intake_ceaseIntakes (s : State) (id : Nat) (y : Link) :
    (s.ceaseIntakes id).intake y = (s.intake y).ceased id := by
  simp only [State.ceaseIntakes, List.foldl_cons, List.foldl_nil, State.intake_ceaseIntake]
  cases y <;> simp

theorem State.jobsEnd_ceaseIntakes (code : Refuse) (s : State) (id : Nat) : s.JobsEnd code (s.ceaseIntakes id) :=
  .foldl _ (fun t x => t.jobsEnd_ceaseIntake code x id) _ _

theorem Intake.ceased_page (k : Intake) (id : Nat) :
    (k.ceased id).page = if k.page = some id then none else k.page := by
  unfold Intake.ceased
  split <;> rfl

/-! ## Jobs removed (R95) -/

theorem State.jobsEnd_removedJob (code : Refuse) (s : State) (j : Job) : s.JobsEnd code (s.removedJob code j) := by
  unfold State.removedJob
  split
  · exact s.jobsEnd_slotJobEnd code _ _
  · exact s.jobsEnd_answer code _ _

theorem State.intake_removedJob (code : Refuse) (s : State) (j : Job) (y : Link) :
    (s.removedJob code j).intake y = (s.intake y).jobsEnded y [j] := by
  cases hsource : j.source with
  | slot x t =>
    simp only [State.removedJob, hsource, State.slotJobEnd_eq, Intake.jobsEnded, List.foldl_cons, List.foldl_nil]
    refine (State.intake_of_intakes (s := s) (y := y) rfl).trans ?_
    by_cases hyx : y = x
    · simp [hyx]
    · simp [hyx, Ne.symm hyx]
  | request x k g =>
    simp only [State.removedJob, hsource, State.answer_eq, Intake.jobsEnded, List.foldl_cons, List.foldl_nil]
    rfl

theorem Intake.slotEnded_page (k : Intake) (t : SlotId) : (k.slotEnded t).page = k.page := by
  unfold Intake.slotEnded
  split <;> rfl

theorem Intake.jobsEnded_page (y : Link) (l : List Job) (k : Intake) : (k.jobsEnded y l).page = k.page := by
  induction l generalizing k with
  | nil => rfl
  | cons j l ih =>
    refine (ih _).trans ?_
    dsimp only
    repeat' split
    · exact k.slotEnded_page _
    all_goals rfl

theorem State.intake_foldl_removedJob (code : Refuse) (l : List Job) (s : State) (y : Link) :
    (l.foldl (State.removedJob code) s).intake y = (s.intake y).jobsEnded y l := by
  induction l generalizing s with
  | nil => rfl
  | cons j l ih => rw [List.foldl_cons, ih, State.intake_removedJob]; rfl

/-- The request of a PROOF job removed has been refused. -/
theorem State.foldl_removedJob_answered (code : Refuse) {l : List Job} {s : State} {j : Job} {y : Link} {k : Nat}
    {g : Byte} {q : LongReq} (hj : j ∈ l) (hsource : j.source = .request y k g)
    (hq : (s.link y).long.find? (fun q => q.ticket == k) = some q) :
    ((l.foldl (State.removedJob code) s).link y).holds (.reply q.kind q.tag (.refused code)) = true ∧
      ∀ r ∈ ((l.foldl (State.removedJob code) s).link y).long, r.ticket ≠ k := by
  induction l generalizing s with
  | nil => cases hj
  | cons i l ih =>
    have hrest : (s.removedJob code i).JobsEnd code (l.foldl (State.removedJob code) (s.removedJob code i)) :=
      .foldl _ (fun t => t.jobsEnd_removedJob code) _ _
    rcases List.mem_cons.1 hj with rfl | hj
    · have hstep : s.removedJob code j = s.answer y k (.refused code) := by
        simp only [State.removedJob, hsource]
      obtain ⟨hheld, hgone⟩ := hstep ▸ State.answer_answered (.refused code) hq
      exact ⟨hrest.holds hheld, fun r hr => hgone r (hrest.long y hr)⟩
    · rcases (s.jobsEnd_removedJob code i).answered y k q hq with hstands | ⟨hheld, hgone⟩
      · exact ih hj hstands
      · exact ⟨hrest.holds hheld, fun r hr => hgone r (hrest.long y hr)⟩

/-! ## The jobs that wait (R82 to R84) -/

theorem Dispatcher.mem_waiting {d : Dispatcher} {j : Job} :
    j ∈ d.waiting ↔ (∃ l, j ∈ d.queues.get l) ∨ ∃ x t, j ∈ (d.pendings.get x).get t := by
  constructor
  · intro h
    simp only [Dispatcher.waiting, Dispatcher.allPending, Dispatcher.pending, List.mem_append] at h
    rcases h with (((h | h) | h) | h) | ((h | h) | h) | h
    · exact .inl ⟨.l0, h⟩
    · exact .inl ⟨.l1, h⟩
    · exact .inl ⟨.l2, h⟩
    · exact .inl ⟨.l3, h⟩
    · exact .inr ⟨.a, .s0, h⟩
    · exact .inr ⟨.a, .s1, h⟩
    · exact .inr ⟨.b, .s0, h⟩
    · exact .inr ⟨.b, .s1, h⟩
  · simp only [Dispatcher.waiting, Dispatcher.allPending, Dispatcher.pending, List.mem_append]
    rintro (⟨l, h⟩ | ⟨x, t, h⟩)
    · cases l <;> simp only [Four.get] at h <;> simp [h]
    · cases x <;> cases t <;> simp only [Pair.get, Slots.get] at h <;> simp [Pair.get, Slots.get, h]

/-- A state that has come from another by waiting jobs moved or removed: the dispatcher alone has changed, its lanes
run what they ran, and no job waits that did not wait. -/
structure State.JobsMoved (s t : State) : Prop where
  others : t = { s with disp := t.disp }
  lanes : t.disp.lanes = s.disp.lanes
  waiting : t.disp.waiting ⊆ s.disp.waiting

namespace State.JobsMoved
variable {s t u : State}

theorem refl (s : State) : s.JobsMoved s := ⟨rfl, rfl, List.Subset.refl _⟩

theorem trans (h1 : s.JobsMoved t) (h2 : t.JobsMoved u) : s.JobsMoved u :=
  ⟨by rw [h2.others, h1.others], h2.lanes.trans h1.lanes, List.Subset.trans h2.waiting h1.waiting⟩

theorem movePending (s : State) (l : Lane) : s.JobsMoved (s.movePending l) := by
  rcases Nat.lt_or_ge (s.disp.queues.get l).length 8 with hroom | hfull
  · by_cases h : ∃ k ∈ s.disp.allPending, k.lane = l
    · obtain ⟨j, hj, -, -, hmoved⟩ := State.movePending_of_some hroom h
      rw [hmoved]
      refine ⟨rfl, rfl, fun k hk => ?_⟩
      rcases Dispatcher.mem_waiting.1 hk with ⟨m, hk⟩ | ⟨x, t, hk⟩
      · have hk : k ∈ (s.disp.queues.set l (s.disp.queues.get l ++ [j])).get m := hk
        by_cases hm : m = l
        · rw [hm, Four.get_set_self, List.mem_append, List.mem_singleton] at hk
          rcases hk with hk | rfl
          · exact Dispatcher.mem_waiting.2 (.inl ⟨l, hk⟩)
          · exact List.mem_append_right _ hj
        · rw [Four.get_set_ne _ _ hm] at hk
          exact Dispatcher.mem_waiting.2 (.inl ⟨m, hk⟩)
      · refine Dispatcher.mem_waiting.2 (.inr ⟨x, t, ?_⟩)
        cases x <;> cases t <;> exact (List.mem_filter.1 hk).1
    · rw [State.movePending_of_none fun k hk hl => h ⟨k, hk, hl⟩]
      exact refl s
  · rw [State.movePending_of_full hfull]
    exact refl s

theorem movePendings (s : State) (l : Lane) (n : Nat) : s.JobsMoved (State.movePendings l n s) := by
  induction n generalizing s with
  | zero => exact refl s
  | succ n ih => exact (movePending s l).trans (ih _)

theorem foldl {α : Type} (g : State → α → State) (hg : ∀ (s : State) a, s.JobsMoved (g s a)) (l : List α) (s : State) :
    s.JobsMoved (l.foldl g s) := by
  induction l generalizing s with
  | nil => exact refl s
  | cons a l ih => exact (hg s a).trans (ih _)

end State.JobsMoved

/-- Jobs taken out wait no more, and what the places freed move waited before (R84, R95). -/
theorem State.takeOutJobs_moved (s : State) (gone : Job → Bool) :
    s.JobsMoved (s.takeOutJobs gone) ∧ ∀ j ∈ (s.takeOutJobs gone).disp.waiting, gone j = false := by
  let filtered : State := s.modDisp fun d =>
    { d.filterPending (fun j => !gone j) with
      queues := ⟨d.queues.f0.filter (fun j => !gone j), d.queues.f1.filter (fun j => !gone j),
                 d.queues.f2.filter (fun j => !gone j), d.queues.f3.filter (fun j => !gone j)⟩ }
  have hkept : ∀ j ∈ filtered.disp.waiting, j ∈ s.disp.waiting ∧ gone j = false := by
    intro j hj
    rcases Dispatcher.mem_waiting.1 hj with ⟨l, hj⟩ | ⟨x, t, hj⟩
    · have hj : j ∈ (s.disp.queues.get l).filter fun j => !gone j := by cases l <;> exact hj
      obtain ⟨hmem, hkeep⟩ := List.mem_filter.1 hj
      exact ⟨Dispatcher.mem_waiting.2 (.inl ⟨l, hmem⟩), by simpa using hkeep⟩
    · have hj : j ∈ ((s.disp.pendings.get x).get t).filter fun j => !gone j := by cases x <;> cases t <;> exact hj
      obtain ⟨hmem, hkeep⟩ := List.mem_filter.1 hj
      exact ⟨Dispatcher.mem_waiting.2 (.inr ⟨x, t, hmem⟩), by simpa using hkeep⟩
  have hfiltered : s.JobsMoved filtered := ⟨rfl, rfl, fun j hj => (hkept j hj).1⟩
  have hmoved : filtered.JobsMoved (s.takeOutJobs gone) := .foldl _ (fun t l => .movePendings t l _) _ _
  exact ⟨hfiltered.trans hmoved, fun j hj => (hkept j (hmoved.waiting hj)).2⟩

/-- The jobs of a page that wait (R95). -/
def State.jobsOf (s : State) (id : Nat) : List Job := s.disp.waiting.filter fun j => j.page == id

/-- The waiting jobs of a page removed (R95): none waits any more, each has ended at its slot or been refused, and nothing
but the dispatcher's waiting jobs, the intakes and the links has changed. -/
structure State.JobsRemoved (id : Nat) (code : Refuse) (s t : State) : Prop extends s.LinksEnd code t where
  others : t = { s with disp := t.disp, intakes := t.intakes, links := t.links }
  lanes : t.disp.lanes = s.disp.lanes
  waiting : ∀ j ∈ t.disp.waiting, j.page ≠ id
  intake : ∀ y, t.intake y = (s.intake y).jobsEnded y (s.jobsOf id)
  refused : ∀ j ∈ s.jobsOf id, ∀ y k g, j.source = .request y k g → ∀ q,
    (s.link y).long.find? (fun q => q.ticket == k) = some q →
    (t.link y).holds (.reply q.kind q.tag (.refused code)) = true ∧ ∀ r ∈ (t.link y).long, r.ticket ≠ k

theorem State.jobsRemoved (s : State) (id : Nat) (code : Refuse) : s.JobsRemoved id code (s.removeJobs id code) := by
  obtain ⟨hmoved, hgone⟩ := s.takeOutJobs_moved fun j => j.page == id
  have hended : (s.takeOutJobs fun j => j.page == id).JobsEnd code (s.removeJobs id code) :=
    .foldl _ (fun t => t.jobsEnd_removedJob code) _ _
  have hlinks : (s.takeOutJobs fun j => j.page == id).links = s.links := (congrArg State.links hmoved.others :)
  have hintakes : (s.takeOutJobs fun j => j.page == id).intakes = s.intakes := (congrArg State.intakes hmoved.others :)
  have hdisp : (s.removeJobs id code).disp = (s.takeOutJobs fun j => j.page == id).disp :=
    (congrArg State.disp hended.others :)
  refine ⟨.trans (.of_same hlinks hintakes) hended.toLinksEnd, ?_, ?_, ?_, fun y => ?_, fun j hj y k g hsource q hq => ?_⟩
  · rw [hended.others, hmoved.others]
  · rw [hdisp, hmoved.lanes]
  · rw [hdisp]
    exact fun j hj => by simpa using hgone j hj
  · have hintake : (s.takeOutJobs fun j => j.page == id).intake y = s.intake y := congrArg (Pair.get · y) hintakes
    rw [← hintake]
    exact State.intake_foldl_removedJob code _ _ y
  · have hlink : (s.takeOutJobs fun j => j.page == id).link y = s.link y := congrArg (Pair.get · y) hlinks
    exact State.foldl_removedJob_answered code hj hsource (by rw [hlink]; exact hq)

end Sys2Proof.Machine
end

section
/-!
PROOFS. RETIRE PAGE taken (R40 steps 4 to 6, R41, R42, R95).
-/

set_option Elab.async false
namespace Sys2Proof.Machine

/-- The state in which no job of a page that retires waits, and a sheet of it just counted stays counted (log 19). -/
def State.jobsRetired (id : Nat) (s : State) : State :=
  (s.modPress fun f => { f with counted := f.counted.filter fun e => e.page != id }).removeJobs id .noPage

/-- The state in which, besides, it is no link's intake page. -/
def State.withdrawn (id : Nat) (s : State) : State := (s.jobsRetired id).ceaseIntakes id

theorem State.jobsRetired_removed (s : State) (id : Nat) :
    State.JobsRemoved id .noPage (s.modPress fun f => { f with counted := f.counted.filter fun e => e.page != id })
      (s.jobsRetired id) := State.jobsRemoved _ id .noPage

theorem State.withdrawn_others (s : State) (id : Nat) :
    s.withdrawn id = { s with
      disp := (s.withdrawn id).disp
      intakes := (s.withdrawn id).intakes
      links := (s.withdrawn id).links
      press := { s.press with counted := s.press.counted.filter fun e => e.page != id } } := by
  have hjobs := (s.jobsRetired_removed id).others
  have hceased := ((s.jobsRetired id).jobsEnd_ceaseIntakes .noPage id).others
  rw [State.withdrawn, hceased, hjobs]
  rfl

theorem State.withdrawn_linksEnd (s : State) (id : Nat) : s.LinksEnd .noPage (s.withdrawn id) := by
  refine .trans ?_ ((s.jobsRetired_removed id).toLinksEnd.trans
    ((s.jobsRetired id).jobsEnd_ceaseIntakes .noPage id).toLinksEnd)
  exact .of_same rfl rfl

theorem State.withdrawn_intake (s : State) (id : Nat) (y : Link) :
    (s.withdrawn id).intake y = ((s.intake y).jobsEnded y (s.jobsOf id)).ceased id := by
  rw [State.withdrawn, State.intake_ceaseIntakes, (s.jobsRetired_removed id).intake]
  rfl

theorem State.withdrawn_waiting (s : State) (id : Nat) : ∀ j ∈ (s.withdrawn id).disp.waiting, j.page ≠ id := by
  have hdisp : (s.withdrawn id).disp = (s.jobsRetired id).disp :=
    (congrArg State.disp ((s.jobsRetired id).jobsEnd_ceaseIntakes .noPage id).others :)
  rw [hdisp]
  exact (s.jobsRetired_removed id).waiting

theorem State.withdrawn_refused (s : State) (id : Nat) {j : Job} (hj : j ∈ s.jobsOf id) {y : Link} {k : Nat} {g : Byte}
    (hsource : j.source = .request y k g) {q : LongReq}
    (hq : (s.link y).long.find? (fun q => q.ticket == k) = some q) :
    ((s.withdrawn id).link y).holds (.reply q.kind q.tag (.refused .noPage)) = true ∧
      ∀ r ∈ ((s.withdrawn id).link y).long, r.ticket ≠ k := by
  obtain ⟨hheld, hgone⟩ := (s.jobsRetired_removed id).refused j hj y k g hsource q hq
  have hceased := (s.jobsRetired id).jobsEnd_ceaseIntakes .noPage id
  exact ⟨hceased.holds hheld, fun r hr => hgone r (hceased.long y hr)⟩

/-- The record of a page that retires. -/
def Page.retired (p : Page) : Page := { p with state := .retiring, cause := none, nextPixel := none }

/-- The retire taken (R40): the release begins at once where no work is in flight (R41, R42). -/
theorem State.retire_eq {s : State} {p : Page} (hp : s.page p.id = some p) (x : Link) (ticket : Nat) :
    let releases := s.dir.releases ++ [⟨p.id, x, ticket, false, 0⟩]
    s.retire x ticket p = { s.withdrawn p.id with
      dir := { s.dir with
        pages := pagesWith p.id Page.retired s.dir.pages
        releases := if p.work = 0 then
            releases.map fun r => if r.page = p.id then { r with running := true } else r
          else releases }
      arb := { s.arb with
        tableQueue := if p.work = 0 then
            s.arb.tableQueue ++ [⟨.release p.id, recordBurst p.header 0, .read (recordMask 0 1) false⟩]
          else s.arb.tableQueue } } := by
  have hdir : (s.withdrawn p.id).dir = s.dir := by rw [s.withdrawn_others]
  have harb : (s.withdrawn p.id).arb = s.arb := by rw [s.withdrawn_others]
  have hretire : s.retire x ticket p =
      if p.work = 0 then State.beginRelease p.id { s.withdrawn p.id with
        dir := { s.dir with
          pages := pagesWith p.id Page.retired s.dir.pages
          releases := s.dir.releases ++ [⟨p.id, x, ticket, false, 0⟩] } }
      else { s.withdrawn p.id with
        dir := { s.dir with
          pages := pagesWith p.id Page.retired s.dir.pages
          releases := s.dir.releases ++ [⟨p.id, x, ticket, false, 0⟩] } } := by
    rw [← hdir]
    rfl
  rw [hretire]
  by_cases hwork : p.work = 0
  · simp only [hwork, if_true]
    rw [State.beginRelease_eq (p := p.retired)]
    · rw [← harb]
      rfl
    · exact State.page_of_pagesWith (s := s) (f := Page.retired) rfl (fun _ => rfl) hp
  · simp only [hwork, if_false]
    rw [← harb]

/-- Settles O23: the retire taken, and what the jobs removed and the intake page that ceased leave at the links. -/
theorem retirePageBeginsRetirement : Obligations.RetirePageBeginsRetirement := by
  intro x s f p h hp hstate hprint hstream
  have hself : (s.madeLong x f).page p.id = some p := (State.id_of_page hp).symm ▸ hp
  have hothers := (s.madeLong x f).withdrawn_others p.id
  have hdiscarded : ∀ y, ((s.madeLong x f).link y).noticesDiscarded = (s.link y).noticesDiscarded := fun y => by
    cases x <;> cases y <;> rfl
  refine ⟨(s.madeLong x f).retire x s.nextTicket p, ?_, ?_⟩
  · rw [exec_retirePage h]
    simp only [State.serveRetirePage, State.madeLong_page, hp, if_neg hstate]
    rw [if_neg (by omega)]
  · rw [State.retire_eq hself]
    refine ⟨rfl, fun hwork => ?_, fun hwork => ?_, fun y => ?_, (s.madeLong x f).withdrawn_waiting p.id,
      ⟨(s.madeLong x f).withdrawn_intake p.id, fun y hbefore hafter => ?_, fun j hj y k g hsource q hq => ?_⟩, rfl, ?_, ?_,
      ?_, ?_⟩
    · simp only [hwork, if_true]
      exact ⟨by simp, rfl⟩
    · simp only [hwork.ne', if_false]
      exact ⟨by simp, rfl⟩
    · change ((s.madeLong x f).withdrawn p.id |>.intake y).page ≠ some p.id
      rw [State.withdrawn_intake, Intake.ceased_page]
      split
      · nofun
      · assumption
    · have htold := ((s.madeLong x f).withdrawn_linksEnd p.id).told hbefore hafter
      unfold LinkCtl.told at htold ⊢
      rwa [hdiscarded y] at htold
    · refine (s.madeLong x f).withdrawn_refused p.id hj hsource ?_
      by_cases hyx : y = x
      · subst hyx
        rw [State.link_madeLong]
        simp [LinkCtl.tookLong, List.find?_append, hq]
      · rw [State.link_of_links (s := s) rfl, if_neg hyx]
        exact hq
    · exact (congrArg State.map hothers :)
    · exact (congrArg State.adm hothers :)
    · exact (congrArg State.press hothers :)
    · exact (congrArg State.still hothers :)

end Sys2Proof.Machine
end

section
/-!
PROOFS. Page failure (R38, R39): what it ends, what it leaves, and the notices it places.
-/

set_option Elab.async false
namespace Sys2Proof.Machine

/-! ## The press decoder as pages come and go (R141, R146, R149) -/

/-- A state that has come from another by the press decoder entering an entry or stopping, and by the tests of the press
state: the press feed and the arbiter alone have changed, and of the schedule at most which entries are ACTIVE. -/
structure State.PressMoved (s t : State) : Prop where
  others : t = { s with press := t.press, arb := t.arb }
  schedule : t.press.schedule.map (fun q => { q with active := false }) =
    s.press.schedule.map (fun q => { q with active := false })
  tableEnds : t.arb.tableEnds = s.arb.tableEnds

namespace State.PressMoved
variable {s t u : State}

theorem refl (s : State) : s.PressMoved s := ⟨rfl, rfl, rfl⟩

theorem trans (h1 : s.PressMoved t) (h2 : t.PressMoved u) : s.PressMoved u :=
  ⟨by rw [h2.others, h1.others], h2.schedule.trans h1.schedule, h2.tableEnds.trans h1.tableEnds⟩

theorem modPress (s : State) {f : PressFeed → PressFeed} (h : (f s.press).schedule = s.press.schedule) :
    s.PressMoved (s.modPress f) := ⟨rfl, congrArg _ h, rfl⟩

theorem placeRead (s : State) (c : Client) (header index n : Nat) (checked : Bool) :
    s.PressMoved (s.placeRead c header index n checked) := ⟨rfl, rfl, rfl⟩

theorem pressBand (s : State) : s.PressMoved s.pressBand := by
  unfold State.pressBand
  dsimp only
  split
  · refine .trans ?_ (placeRead _ _ _ _ _ _)
    exact modPress s rfl
  · exact modPress s rfl

theorem pressEnter (s : State) (e : Option PrintEntry) : s.PressMoved (s.pressEnter e) := by
  cases e with
  | none => exact ⟨rfl, rfl, rfl⟩
  | some e =>
    simp only [State.pressEnter]
    split
    · refine .trans ?_ (pressBand _)
      refine ⟨rfl, ?_, rfl⟩
      simp only [State.modPress_press, List.map_map]
      refine List.map_congr_left fun q _ => ?_
      simp only [Function.comp_apply]
      split <;> rfl
    · exact modPress s rfl

theorem pressPassRemoved (s : State) : s.PressMoved s.pressPassRemoved := by
  unfold State.pressPassRemoved
  repeat' split
  · exact refl s
  · exact pressEnter s _
  · exact refl s

theorem testPress (s : State) : s.PressMoved s.testPress := by
  unfold State.testPress
  dsimp only
  split <;> exact ⟨rfl, rfl, rfl⟩

/-- An entry of the schedule stood in it before. -/
theorem entry (h : s.PressMoved t) {e : PrintEntry} (he : e ∈ t.press.schedule) :
    ∃ q ∈ s.press.schedule, q.page = e.page := by
  have hmem : ({ e with active := false } : PrintEntry) ∈ s.press.schedule.map fun q => { q with active := false } := by
    rw [← h.schedule]
    exact List.mem_map_of_mem he
  obtain ⟨q, hq, heq⟩ := List.mem_map.1 hmem
  exact ⟨q, hq, (congrArg PrintEntry.page heq :)⟩

end State.PressMoved

/-! ## Print entries removed (R38, R142) -/

/-- How many of these entries are of this link. -/
def entriesOf (y : Link) (l : List PrintEntry) : Nat := (l.filter fun e => e.link == y).length

/-- A notice to the requesting link of each of these entries. -/
theorem State.gains_notifyEntries (n : Notice) (l : List PrintEntry) (s : State) (y : Link) (g : OutFrame) :
    (s.link y).Gains ((l.foldl (fun s e => s.notify e.link n) s).link y) g
      (if .notice n = g then entriesOf y l else 0) := by
  induction l generalizing s with
  | nil =>
    rw [show (if OutFrame.notice n = g then entriesOf y [] else 0) = 0 by split <;> rfl]
    exact .refl _ g
  | cons e l ih =>
    have hcount : (if OutFrame.notice n = g then entriesOf y (e :: l) else 0) =
        (if y = e.link ∧ OutFrame.notice n = g then 1 else 0) + if OutFrame.notice n = g then entriesOf y l else 0 := by
      rcases eq_or_ne y e.link with rfl | hy
      · simp only [true_and, entriesOf, List.filter_cons, beq_self_eq_true, if_true, List.length_cons]
        split <;> omega
      · simp only [hy, false_and, if_false, entriesOf, List.filter_cons, beq_eq_false_iff_ne.2 hy.symm, Bool.false_eq_true]
        omega
    rw [hcount]
    exact (s.gains_notify e.link y n g).trans (ih (s.notify e.link n))

theorem State.linksTold_notifyEntries (n : Notice) (l : List PrintEntry) (s : State) :
    s.LinksTold (l.foldl (fun s e => s.notify e.link n) s) := by
  induction l generalizing s with
  | nil => exact .of_links rfl
  | cons e l ih => exact (s.linksTold_notify e.link n).trans (ih _)

theorem State.notifyEntries_others (n : Notice) (l : List PrintEntry) (s : State) :
    l.foldl (fun s e => s.notify e.link n) s =
      { s with links := (l.foldl (fun s e => s.notify e.link n) s).links } := by
  induction l generalizing s with
  | nil => rfl
  | cons e l ih =>
    rw [List.foldl_cons, ih]
    rfl

/-- The print entries of a page removed: none is left, and PRINT DROPPED was placed for each. -/
structure State.EntriesDropped (id : Nat) (s t : State) : Prop where
  others : t = { s with
    dir := { s.dir with pages := pagesWith id (fun q => { q with printRefs := 0 }) s.dir.pages }
    links := t.links, press := t.press, arb := t.arb }
  schedule : ∀ e ∈ t.press.schedule, e.page ≠ id
  told : s.LinksTold t
  gains : ∀ y g, (s.link y).Gains (t.link y) g
    (if .notice (.printDropped id) = g then entriesOf y (s.press.schedule.filter fun e => e.page == id) else 0)

theorem State.entriesDropped (s : State) (id : Nat) : s.EntriesDropped id (s.dropEntries id) := by
  let gone := s.press.schedule.filter fun e => e.page == id
  let removed : State := (s.modPress fun f => { f with schedule := f.schedule.filter fun e => e.page != id }).modPage id
    fun p => { p with printRefs := 0 }
  let noticed : State := gone.foldl (fun s e => s.notify e.link (.printDropped id)) removed
  have hmoved : noticed.PressMoved (s.dropEntries id) :=
    (State.PressMoved.pressPassRemoved noticed).trans (.testPress _)
  have hnoticed : noticed = { removed with links := noticed.links } := State.notifyEntries_others _ _ _
  have hlinks : (s.dropEntries id).links = noticed.links := (congrArg State.links hmoved.others :)
  have hlink : (s.dropEntries id).link = noticed.link := funext fun x => congrArg (Pair.get · x) hlinks
  refine ⟨?_, fun e he => ?_, ?_, fun y g => ?_⟩
  · rw [hmoved.others, hnoticed]
    rfl
  · obtain ⟨q, hq, hpage⟩ := hmoved.entry he
    have hq : q ∈ s.press.schedule.filter fun e => e.page != id := by
      rw [hnoticed] at hq
      exact hq
    rw [← hpage]
    simpa using (List.mem_filter.1 hq).2
  · refine .trans ?_ (.of_links hlinks)
    exact State.LinksTold.trans (t := removed) (.of_links rfl) (State.linksTold_notifyEntries _ gone removed)
  · rw [hlink]
    exact State.gains_notifyEntries (.printDropped id) gone removed y g

/-! ## Page failure (R38, R39) -/

/-- The record of a page that has failed, before its print entries are removed. -/
def Page.failing (cause : FailCause) (q : Page) : Page :=
  { q with state := .failed, cause := some cause, nextPixel := none }

/-- The record of a page that has failed. -/
def Page.failed (cause : FailCause) (q : Page) : Page := { q.failing cause with printRefs := 0 }

/-- What a page failure ends and what it leaves, but for its PAGE FAILED notice. -/
structure State.PageEnded (id : Nat) (cause : FailCause) (s t : State) : Prop where
  others : t = { s with
    dir := { s.dir with pages := pagesWith id (Page.failed cause) s.dir.pages }
    intakes := t.intakes, disp := t.disp, links := t.links, press := t.press, arb := t.arb }
  intake : ∀ y, t.intake y = ((s.intake y).ceased id).jobsEnded y (s.jobsOf id)
  lanes : t.disp.lanes = s.disp.lanes
  waiting : ∀ j ∈ t.disp.waiting, j.page ≠ id
  schedule : ∀ e ∈ t.press.schedule, e.page ≠ id
  gains : ∀ y g, ∃ n, (s.link y).Gains (t.link y) g n ∧
    (g = .notice .resume → (s.intake y).hold = true → (t.intake y).hold = false → 0 < n) ∧
    (g = .notice (.printDropped id) → n = entriesOf y (s.press.schedule.filter fun e => e.page == id))
  refused : ∀ j ∈ s.jobsOf id, ∀ y k g, j.source = .request y k g → ∀ q,
    (s.link y).long.find? (fun q => q.ticket == k) = some q →
    (t.link y).holds (.reply q.kind q.tag (.refused .pageState)) = true ∧ ∀ r ∈ (t.link y).long, r.ticket ≠ k

/-- The state in which the page of a failure is FAILED and no link's intake page. -/
def State.failBegun (id : Nat) (cause : FailCause) (s : State) : State :=
  (s.modPage id (Page.failing cause)).ceaseIntakes id

/-- The state in which, besides, no job and no print entry of it is left. -/
def State.failEnded (id : Nat) (cause : FailCause) (s : State) : State :=
  ((s.failBegun id cause).removeJobs id .pageState).dropEntries id

theorem State.failEnded_pageEnded (s : State) (id : Nat) (cause : FailCause) :
    s.PageEnded id cause (s.failEnded id cause) := by
  have hceased : (s.modPage id (Page.failing cause)).JobsEnd .pageState (s.failBegun id cause) :=
    State.jobsEnd_ceaseIntakes .pageState _ id
  have hremoved := (s.failBegun id cause).jobsRemoved id .pageState
  have hdropped : State.EntriesDropped id _ (s.failEnded id cause) :=
    State.entriesDropped ((s.failBegun id cause).removeJobs id .pageState) id
  have hbegun : s.LinksEnd .pageState (s.failBegun id cause) := by
    refine .trans ?_ hceased.toLinksEnd
    exact .of_same rfl rfl
  have hjobs : (s.failBegun id cause).jobsOf id = s.jobsOf id := by
    rw [State.jobsOf, hceased.others]
    rfl
  have hpress : ((s.failBegun id cause).removeJobs id .pageState).press = s.press := by
    rw [hremoved.others, hceased.others]
    rfl
  have hdisp : (s.failEnded id cause).disp = ((s.failBegun id cause).removeJobs id .pageState).disp :=
    (congrArg State.disp hdropped.others :)
  have hintakes : (s.failEnded id cause).intake = ((s.failBegun id cause).removeJobs id .pageState).intake :=
    funext fun y => congrArg (Pair.get · y) (congrArg State.intakes hdropped.others :)
  refine ⟨?_, fun y => ?_, ?_, ?_, hdropped.schedule, fun y g => ?_, fun j hj y k g hsource q hq => ?_⟩
  · rw [hdropped.others, hremoved.others, hceased.others]
    have hpages := pagesWith_pagesWith id (f := Page.failing cause) (fun q => { q with printRefs := 0 }) (fun _ => rfl)
      s.dir.pages
    simp only [State.modPage_eq, hpages]
    rfl
  · rw [hintakes, hremoved.intake, hjobs, State.failBegun, State.intake_ceaseIntakes]
    rfl
  · rw [hdisp, hremoved.lanes, hceased.others]
    rfl
  · rw [hdisp]
    exact hremoved.waiting
  · obtain ⟨n, hgains, hresume, hnone⟩ := (hbegun.trans hremoved.toLinksEnd).gains y g
    refine ⟨_, hgains.trans (hdropped.gains y g), fun hg hbefore hafter => ?_, fun hg => ?_⟩
    · rw [hintakes] at hafter
      exact (hresume hg hbefore hafter).trans_le (Nat.le_add_right _ _)
    · rw [hnone (by rw [hg]; rfl) (by rw [hg]; nofun), if_pos hg.symm, hpress, Nat.zero_add]
  · have hanswered : (((s.failBegun id cause).removeJobs id .pageState).link y).holds
          (.reply q.kind q.tag (.refused .pageState)) = true ∧
        ∀ r ∈ (((s.failBegun id cause).removeJobs id .pageState).link y).long, r.ticket ≠ k := by
      rcases hbegun.answered y k q hq with hstands | ⟨hheld, hgone⟩
      · exact hremoved.refused j (hjobs ▸ hj) y k g hsource q hstands
      · exact ⟨hremoved.holds hheld, fun r hr => hgone r (hremoved.long y hr)⟩
    obtain ⟨_, hgains⟩ := hdropped.told.gains y (.reply q.kind q.tag (.refused .pageState))
    exact ⟨hgains.holds hanswered.1, by rw [hdropped.told.long]; exact hanswered.2⟩

/-- What a page failure ends and what it leaves, with its PAGE FAILED notice. -/
structure State.PageFailed (id : Nat) (cause : FailCause) (origin : Link) (s t : State) : Prop
    extends s.PageEnded id cause t where
  notice : ∃ n, 0 < n ∧ (s.link origin).Gains (t.link origin) (.notice (.pageFailed id cause)) n

/-- The notice that is the first effect placed, as after a link reset (R45, log 17). -/
theorem State.PageEnded.notify_before {s t : State} {id : Nat} {cause : FailCause} {x : Link}
    (h : (s.notify x (.pageFailed id cause)).PageEnded id cause t) : s.PageFailed id cause x t := by
  refine ⟨⟨h.others, h.intake, h.lanes, h.waiting, h.schedule, fun y g => ?_, fun j hj y k g hsource q hq => ?_⟩, ?_⟩
  · obtain ⟨n, hgains, hresume, hdropped⟩ := h.gains y g
    refine ⟨_, (s.gains_notify x y _ g).trans hgains, fun hg h1 h2 => ?_, fun hg => ?_⟩
    · exact (hresume hg h1 h2).trans_le (Nat.le_add_left _ _)
    · rw [hdropped hg, hg, if_neg (by rintro ⟨-, h⟩; cases h), Nat.zero_add]
      rfl
  · exact h.refused j hj y k g hsource q (by rw [(s.linksTold_notify x _).long]; exact hq)
  · obtain ⟨n, hgains, -⟩ := h.gains x (.notice (.pageFailed id cause))
    exact ⟨_, by simp, (s.gains_notify x x _ _).trans hgains⟩

/-- The notice that is the last effect placed. -/
theorem State.PageEnded.notify_after {s t : State} {id : Nat} {cause : FailCause} (x : Link)
    (h : s.PageEnded id cause t) : s.PageFailed id cause x (t.notify x (.pageFailed id cause)) := by
  refine ⟨⟨?_, h.intake, h.lanes, h.waiting, h.schedule, fun y g => ?_, fun j hj y k g hsource q hq => ?_⟩, ?_⟩
  · rw [State.notify_eq, h.others]
  · obtain ⟨n, hgains, hresume, hdropped⟩ := h.gains y g
    refine ⟨_, hgains.trans (t.gains_notify x y _ g), fun hg h1 h2 => ?_, fun hg => ?_⟩
    · exact (hresume hg h1 h2).trans_le (Nat.le_add_right _ _)
    · rw [hdropped hg, hg, if_neg (by rintro ⟨-, h⟩; cases h), Nat.add_zero]
  · obtain ⟨hheld, hgone⟩ := h.refused j hj y k g hsource q hq
    exact ⟨(t.gains_notify x y _ _).holds hheld, by rw [(t.linksTold_notify x _).long]; exact hgone⟩
  · obtain ⟨n, hgains, -⟩ := h.gains x (.notice (.pageFailed id cause))
    exact ⟨_, by simp, hgains.trans (t.gains_notify x x _ _)⟩

/-- A page that may fail fails (R38). -/
theorem State.failPage_failed {s : State} {id : Nat} {p : Page} (cause : FailCause) (hp : s.page id = some p)
    (hfail : p.canFail = true) : s.PageFailed id cause p.origin (s.failPage id cause) := by
  by_cases hreset : cause = .linkReset
  · have hfailed : s.failPage id cause = (s.notify p.origin (.pageFailed id cause)).failEnded id cause := by
      simp only [State.failPage, hp, if_pos hfail, if_pos hreset]
      rfl
    rw [hfailed]
    exact (State.failEnded_pageEnded _ id cause).notify_before
  · have hfailed : s.failPage id cause = (s.failEnded id cause).notify p.origin (.pageFailed id cause) := by
      simp only [State.failPage, hp, if_pos hfail, if_neg hreset]
      rfl
    rw [hfailed]
    exact (State.failEnded_pageEnded s id cause).notify_after p.origin

/-- A page that can no longer fail is left as it is (R39). -/
theorem State.failPage_of_not_canFail {s : State} {id : Nat} {p : Page} (cause : FailCause) (hp : s.page id = some p)
    (hfail : p.canFail = false) : s.failPage id cause = s := by
  simp [State.failPage, hp, hfail]

theorem Page.canFail_iff (p : Page) :
    p.canFail = true ↔ p.state = .opening ∨ p.state = .filling ∨ p.state = .coding := by
  simp [Page.canFail, or_assoc]

theorem Intake.ceased_jobsEnded_page (k : Intake) (id : Nat) (y : Link) (l : List Job) :
    ((k.ceased id).jobsEnded y l).page = if k.page = some id then none else k.page := by
  rw [Intake.jobsEnded_page, Intake.ceased_page]

/-- Settles O43: from what a failure ends and leaves. -/
theorem pageFailureEndsThePage : Obligations.PageFailureEndsThePage := by
  intro s id cause p hp
  refine ⟨fun h1 h2 h3 => State.failPage_of_not_canFail cause hp ?_, fun hstate => ?_⟩
  · exact Bool.eq_false_iff.2 fun h => by
      rcases p.canFail_iff.1 h with h | h | h <;> contradiction
  · have h := State.failPage_failed cause hp (p.canFail_iff.2 hstate)
    have hpages := congrArg (fun t : State => t.dir.pages) h.others
    refine ⟨State.page_of_pagesWith (s := s) hpages (fun _ => rfl) hp, fun other hother => ?_, h.waiting, fun l => ?_,
      h.schedule, fun y => ?_, ?_, ⟨h.intake, fun y hbefore hafter => ?_, h.refused⟩, fun e he hpage => ?_,
      fun y hsame hroom => ?_, ?_, ?_, ?_, ?_, ?_⟩
    · exact (congrArg (List.find? _) hpages).trans (s.page_modPage_ne (Page.failed cause) hother fun _ => rfl)
    · exact congrArg (Four.get · l) h.lanes
    · rw [h.intake, Intake.ceased_jobsEnded_page]
    · obtain ⟨n, hn, hgains⟩ := h.notice
      exact hgains.told hn
    · obtain ⟨n, hgains, hresume, -⟩ := h.gains y (.notice .resume)
      exact hgains.told (hresume rfl hbefore hafter)
    · obtain ⟨n, hgains, -, hdropped⟩ := h.gains e.link (.notice (.printDropped id))
      refine hgains.told ?_
      rw [hdropped rfl, entriesOf]
      refine List.length_pos_of_mem (a := e) (List.mem_filter.2 ⟨List.mem_filter.2 ⟨he, by simpa using hpage⟩, ?_⟩)
      exact beq_self_eq_true e.link
    · obtain ⟨n, hgains, -, hdropped⟩ := h.gains y (.notice (.printDropped id))
      rw [hgains.exact hsame (by omega), hdropped rfl, entriesOf, List.filter_filter]
      simp only [Bool.and_comm]
    · exact (congrArg State.map h.others :)
    · exact (congrArg State.adm h.others :)
    · exact (congrArg State.ctl h.others :)
    · exact (congrArg (fun t : State => t.dir.profiles) h.others :)
    · exact (congrArg State.still h.others :)

end Sys2Proof.Machine
end

section
/-!
PROOFS. Extents returned (R103 to R107): the table as entries leave it, chains as they are opened, followed and returned,
and the reports of the risen free count.
-/

set_option Elab.async false
namespace Sys2Proof.Machine

/-! ## The link table -/

section Table
variable {α : Type} {l : List (Nat × α)}

theorem risingFrom_some_iff {lo : Nat} :
    risingFrom (some lo) l = true ↔ (∀ p ∈ l, lo < p.1) ∧ l.Pairwise fun p q => p.1 < q.1 := by
  induction l generalizing lo with
  | nil => simp [risingFrom]
  | cons p rest ih =>
    simp only [risingFrom, Bool.and_eq_true, decide_eq_true_eq, ih, List.pairwise_cons, List.forall_mem_cons]
    constructor
    · rintro ⟨hlo, hrest, hpairs⟩
      exact ⟨⟨hlo, fun q hq => hlo.trans (hrest q hq)⟩, hrest, hpairs⟩
    · rintro ⟨⟨hlo, -⟩, hrest, hpairs⟩
      exact ⟨hlo, hrest, hpairs⟩

theorem planeWf_iff : planeWf l = true ↔ l.Pairwise fun p q => p.1 < q.1 := by
  cases l with
  | nil => simp [planeWf, risingFrom]
  | cons p rest => exact risingFrom_some_iff.trans (by rw [List.pairwise_cons])

theorem planeDrop_sublist (l : List (Nat × α)) (a : Nat) : (planeDrop l a).Sublist l := by
  induction l with
  | nil => exact List.Sublist.refl _
  | cons p rest ih =>
    unfold planeDrop
    split
    · exact List.sublist_cons_self p rest
    · exact ih.cons_cons p

theorem planeWf_planeDrop (a : Nat) (h : planeWf l = true) : planeWf (planeDrop l a) = true :=
  planeWf_iff.2 ((planeWf_iff.1 h).sublist (planeDrop_sublist l a))

/-- Where the keys rise, the entry of a key is all that goes with it. -/
theorem planeDrop_eq_filter (a : Nat) (h : planeWf l = true) : planeDrop l a = l.filter fun q => q.1 != a := by
  rw [planeWf_iff] at h
  induction h with
  | nil => rfl
  | @cons p rest hlt _ ih =>
    unfold planeDrop
    split
    · next hp =>
      subst hp
      have hrest : rest.filter (fun q => q.1 != p.1) = rest :=
        List.filter_eq_self.2 fun q hq => bne_iff_ne.2 (hlt q hq).ne'
      simp [hrest]
    · next hp => simp [Ne.symm hp, ih]

theorem planeDrops_eq_filter (es : List Nat) (h : planeWf l = true) :
    es.foldl planeDrop l = l.filter fun q => decide (q.1 ∉ es) := by
  induction es generalizing l with
  | nil => simp
  | cons e es ih =>
    rw [List.foldl_cons, ih (planeWf_planeDrop e h), planeDrop_eq_filter e h, List.filter_filter]
    refine List.filter_congr fun q _ => ?_
    by_cases hq : q.1 = e <;> simp [hq]

theorem planeWf_planeDrops (es : List Nat) (h : planeWf l = true) : planeWf (es.foldl planeDrop l) = true := by
  induction es generalizing l with
  | nil => exact h
  | cons e es ih => exact ih (planeWf_planeDrop e h)

theorem mem_of_planeGet {a : Nat} {v : α} (h : planeGet l a = some v) : (a, v) ∈ l := by
  induction l with
  | nil => cases h
  | cons p rest ih =>
    unfold planeGet at h
    split at h
    · next hp =>
      rw [← Option.some.inj h, hp]
      exact List.mem_cons_self
    · exact List.mem_cons_of_mem p (ih h)

theorem planeGet_of_mem {a : Nat} {v : α} (hwf : planeWf l = true) (h : (a, v) ∈ l) : planeGet l a = some v := by
  rw [planeWf_iff] at hwf
  induction hwf with
  | nil => cases h
  | @cons p rest hlt _ ih =>
    unfold planeGet
    rcases List.mem_cons.1 h with rfl | h
    · exact if_pos rfl
    · have hne : a ≠ p.1 := (hlt _ h).ne'
      rw [if_neg hne]
      exact ih h

theorem planeGet_planeDrops (es : List Nat) {a : Nat} (hwf : planeWf l = true) (ha : a ∉ es) :
    planeGet (es.foldl planeDrop l) a = planeGet l a := by
  have hmem : ∀ v, (a, v) ∈ es.foldl planeDrop l ↔ (a, v) ∈ l := fun v => by
    rw [planeDrops_eq_filter es hwf, List.mem_filter]
    simp [ha]
  refine Option.ext fun v => ⟨fun h => ?_, fun h => ?_⟩
  · exact planeGet_of_mem hwf ((hmem v).1 (mem_of_planeGet h))
  · exact planeGet_of_mem (planeWf_planeDrops es hwf) ((hmem v).2 (mem_of_planeGet h))

end Table

/-! ## Opening and following a chain (R104, R107) -/

namespace ExtentMap
variable {m : ExtentMap} {page index first : Nat}

/-- The entry of an extent is the first of the chain of a page and record index. -/
def beginsAt (m : ExtentMap) (page index e : Nat) : Prop := ∃ kind, m.entry e = some ⟨kind, page, .payload index true⟩

theorem beginsAt_iff {e : Nat} : m.beginsAt page index e ↔ ∃ en, m.entry e = some en ∧ en.isFirst page index = true := by
  constructor
  · rintro ⟨kind, h⟩
    exact ⟨_, h, by simp [Entry.isFirst]⟩
  · rintro ⟨⟨kind, owner, use⟩, h, hfirst⟩
    simp only [Entry.isFirst, Bool.and_eq_true, beq_iff_eq] at hfirst
    obtain ⟨rfl, rfl⟩ := hfirst
    exact ⟨kind, h⟩

theorem openChain_of_begins (h : m.beginsAt page index first) : m.openChain page index first = some first := by
  obtain ⟨en, hentry, hfirst⟩ := beginsAt_iff.1 h
  simp only [openChain, hentry, if_pos hfirst]

theorem openChain_of_not_begins (h : ¬ m.beginsAt page index first) : m.openChain page index first = none := by
  unfold openChain
  split
  · next en hentry => exact if_neg fun hfirst => h (beginsAt_iff.2 ⟨en, hentry, hfirst⟩)
  · rfl

theorem chooseChain_of_begins (h : m.beginsAt page index first) : m.chooseChain page index first = some first := by
  rw [chooseChain, openChain_of_begins h]

/-- Where the named extent does not begin the chain, the table is searched. -/
theorem chooseChain_of_not_begins (h : ¬ m.beginsAt page index first) :
    m.chooseChain page index first = (m.table.find? fun p => p.2.isFirst page index).map Prod.fst := by
  rw [chooseChain, openChain_of_not_begins h]

theorem beginsAt_of_find {q : Nat × Entry} (hwf : planeWf m.table = true)
    (h : m.table.find? (fun p => p.2.isFirst page index) = some q) : m.beginsAt page index q.1 :=
  beginsAt_iff.2 ⟨q.2, planeGet_of_mem hwf (List.mem_of_find?_eq_some h),
    List.find?_some (p := fun p : Nat × Entry => p.2.isFirst page index) h⟩

theorem not_beginsAt_of_find_none (h : m.table.find? (fun p => p.2.isFirst page index) = none) (e : Nat) :
    ¬ m.beginsAt page index e := by
  rintro hbegins
  obtain ⟨en, hentry, hfirst⟩ := beginsAt_iff.1 hbegins
  exact List.find?_eq_none.1 h _ (mem_of_planeGet hentry) hfirst

/-- The search finds a first entry of the chain, if there is one. -/
theorem chooseChain_searched (h : ¬ m.beginsAt page index first) (hwf : planeWf m.table = true) :
    (∀ e, m.chooseChain page index first = some e → m.beginsAt page index e) ∧
    (m.chooseChain page index first = none → ∀ e, ¬ m.beginsAt page index e) ∧
    ∀ e, m.beginsAt page index e → (∀ d, m.beginsAt page index d → d = e) → m.chooseChain page index first = some e := by
  rw [chooseChain_of_not_begins h]
  cases hfind : m.table.find? fun p => p.2.isFirst page index with
  | none =>
    have hno := not_beginsAt_of_find_none hfind
    exact ⟨nofun, fun _ => hno, fun e he => absurd he (hno e)⟩
  | some q =>
    have hq := beginsAt_of_find hwf hfind
    refine ⟨fun e he => ?_, nofun, fun e _ hunique => congrArg some (hunique q.1 hq)⟩
    rw [← Option.some.inj he]
    exact hq

/-! ## Chains -/

theorem follow_of_next {e d owner : Nat} {use : ExtentUse} (h : m.entry e = some ⟨.next d, owner, use⟩) :
    m.follow e = some d := by
  simp [follow, h]

theorem follow_of_last {e owner : Nat} {use : ExtentUse} (h : m.entry e = some ⟨.last, owner, use⟩) :
    m.follow e = none := by
  simp [follow, h]

theorem follow_of_free {e : Nat} (h : m.entry e = none) : m.follow e = none := by
  simp [follow, h]

/-- A chain is its first extent, then the chain that follows it. -/
theorem chainFrom_succ (n e : Nat) :
    m.chainFrom (n + 1) e = if m.entry e = none then [] else
      match m.follow e with
      | some d => e :: m.chainFrom n d
      | none => [e] := by
  rw [chainFrom, follow]
  cases m.entry e with
  | none => rfl
  | some en =>
    obtain ⟨kind, owner, use⟩ := en
    cases kind <;> rfl

theorem chainFrom_mem (n e : Nat) : ∀ x ∈ m.chainFrom n e, m.entry x ≠ none := by
  induction n generalizing e with
  | zero => nofun
  | succ n ih =>
    rw [chainFrom_succ]
    split
    · nofun
    · next hentry =>
      split
      · next d hd => exact List.forall_mem_cons.2 ⟨hentry, ih d⟩
      · exact List.forall_mem_cons.2 ⟨hentry, nofun⟩

/-- A shorter bound cuts the chain short. -/
theorem chainFrom_take {k n : Nat} (hk : k ≤ n) (e : Nat) : m.chainFrom k e = (m.chainFrom n e).take k := by
  induction n generalizing k e with
  | zero =>
    obtain rfl : k = 0 := by omega
    rfl
  | succ n ih =>
    cases k with
    | zero => rfl
    | succ k =>
      rw [chainFrom_succ, chainFrom_succ]
      split
      · rfl
      · split
        · next d hd => rw [List.take_succ_cons, ih (by omega) d]
        · simp

/-- A chain is the same in a map that holds its extents' entries and has no entry more. -/
theorem chainFrom_congr {m' : ExtentMap} (hfree : ∀ x, m.entry x = none → m'.entry x = none) (n e : Nat)
    (h : ∀ x ∈ m.chainFrom n e, m'.entry x = m.entry x) : m'.chainFrom n e = m.chainFrom n e := by
  induction n generalizing e with
  | zero => rfl
  | succ n ih =>
    rw [chainFrom_succ] at h
    rw [chainFrom_succ, chainFrom_succ]
    by_cases hentry : m.entry e = none
    · rw [if_pos hentry, if_pos (hfree e hentry)]
    · rw [if_neg hentry] at h
      have he : m'.entry e = m.entry e := h e (by split <;> exact List.mem_cons_self)
      have hfollow : m'.follow e = m.follow e := by rw [follow, follow, he]
      rw [hfollow, he]
      cases hd : m.follow e with
      | none => rfl
      | some d =>
        rw [hd] at h
        simp only [ih d fun x hx => h x (List.mem_cons_of_mem e hx)]

theorem chainOf_head {e : Nat} (h : m.entry e ≠ none) : (m.chainOf (some e)).head? = some e := by
  have hlen : m.table.length ≠ 0 := fun hlen => by
    rw [List.length_eq_zero_iff] at hlen
    exact h (by rw [entry, hlen]; rfl)
  obtain ⟨n, hn⟩ := Nat.exists_eq_succ_of_ne_zero hlen
  rw [chainOf, hn, chainFrom_succ, if_neg h]
  split <;> rfl

/-- Each extent of a chain follows the one before it. -/
theorem chainFrom_follow (n e i : Nat) {a b : Nat} (ha : (m.chainFrom n e)[i]? = some a)
    (hb : (m.chainFrom n e)[i + 1]? = some b) : m.follow a = some b := by
  induction n generalizing e i with
  | zero => cases ha
  | succ n ih =>
    rw [chainFrom_succ] at ha hb
    split at ha
    · cases ha
    · next hentry =>
      rw [if_neg hentry] at hb
      cases hd : m.follow e with
      | none =>
        rw [hd] at hb
        cases i <;> cases hb
      | some d =>
        rw [hd] at ha hb
        cases i with
        | zero =>
          obtain rfl : e = a := Option.some.inj ha
          cases n with
          | zero => cases hb
          | succ n =>
            rw [List.getElem?_cons_succ, chainFrom_succ] at hb
            split at hb
            · cases hb
            · split at hb <;> · rw [hd, ← Option.some.inj hb]
        | succ i => exact ih d i ha hb

/-- A chain goes on while following gives an extent with an entry, and its bound allows it. -/
theorem chainFrom_goesOn (n e i : Nat) {a b : Nat} (ha : (m.chainFrom n e)[i]? = some a) (hb : m.follow a = some b)
    (hentry : m.entry b ≠ none) (hi : i + 1 < n) : (m.chainFrom n e)[i + 1]? = some b := by
  induction n generalizing e i with
  | zero => cases ha
  | succ n ih =>
    rw [chainFrom_succ] at ha ⊢
    split at ha
    · cases ha
    · next he =>
      rw [if_neg he]
      cases hd : m.follow e with
      | none =>
        rw [hd] at ha
        cases i with
        | zero =>
          obtain rfl : e = a := Option.some.inj ha
          cases hd.symm.trans hb
        | succ i => cases ha
      | some d =>
        rw [hd] at ha
        cases i with
        | zero =>
          obtain rfl : e = a := Option.some.inj ha
          obtain rfl : d = b := Option.some.inj (hd.symm.trans hb)
          obtain ⟨k, rfl⟩ : ∃ k, n = k + 1 := ⟨n - 1, by omega⟩
          rw [List.getElem?_cons_succ, chainFrom_succ, if_neg hentry]
          split <;> rfl
        | succ i => exact ih d i ha (by omega)

/-! ## Chains returned (R103, R105) -/

theorem freed_freed (m : ExtentMap) (as bs : List Nat) : (m.freed as).freed bs = m.freed (as ++ bs) := by
  simp [freed, List.foldl_append, List.append_assoc]

theorem entry_freed (hwf : planeWf m.table = true) {es : List Nat} {e : Nat} (he : e ∉ es) :
    (m.freed es).entry e = m.entry e := planeGet_planeDrops es hwf he

theorem entry_freed_of_none (hwf : planeWf m.table = true) (es : List Nat) {e : Nat} (he : m.entry e = none) :
    (m.freed es).entry e = none := by
  by_contra hsome
  obtain ⟨en, hen⟩ := Option.ne_none_iff_exists'.1 hsome
  have hmem : (e, en) ∈ es.foldl planeDrop m.table := mem_of_planeGet hen
  rw [planeDrops_eq_filter es hwf] at hmem
  have := planeGet_of_mem hwf (List.mem_filter.1 hmem).1
  exact absurd (he.symm.trans this) nofun

/-- Extents with entries, no two the same, are no more than the table is long. -/
theorem length_le_of_entries {es : List Nat} (hnodup : es.Nodup) (h : ∀ e ∈ es, m.entry e ≠ none) :
    es.length ≤ m.table.length := by
  have hsub : es ⊆ m.table.map Prod.fst := fun e he => by
    obtain ⟨en, hen⟩ := Option.ne_none_iff_exists'.1 (h e he)
    exact List.mem_map_of_mem (mem_of_planeGet hen)
  simpa using (hnodup.subperm hsub).length_le

/-- A chain that meets none of the extents freed stands as it stood. -/
theorem chainOf_freed (hwf : planeWf m.table = true) {es : List Nat} {e : Nat}
    (hnodup : (m.chainOf (some e)).Nodup) (hdisjoint : ∀ x ∈ m.chainOf (some e), x ∉ es) :
    (m.freed es).chainOf (some e) = m.chainOf (some e) := by
  have hsame : (m.freed es).chainFrom m.table.length e = m.chainOf (some e) :=
    chainFrom_congr (fun x hx => entry_freed_of_none hwf es hx) _ e fun x hx => entry_freed hwf (hdisjoint x hx)
  have hshort : (m.freed es).table.length ≤ m.table.length := by
    change (es.foldl planeDrop m.table).length ≤ _
    rw [planeDrops_eq_filter es hwf]
    exact List.length_filter_le _ _
  have hlong : (m.chainOf (some e)).length ≤ (m.freed es).table.length := by
    refine length_le_of_entries hnodup fun x hx => ?_
    rw [entry_freed hwf (hdisjoint x hx)]
    exact chainFrom_mem _ e x hx
  change (m.freed es).chainFrom (m.freed es).table.length e = _
  rw [chainFrom_take hshort, hsame, List.take_of_length_le hlong]

/-- Chains that do not meet are returned one after another, each as it stood. -/
theorem freedChains_eq (hwf : planeWf m.table = true) (es : List Nat)
    (hnodup : (es.flatMap fun e => m.chainOf (some e)).Nodup) :
    m.freedChains es = m.freed (es.flatMap fun e => m.chainOf (some e)) := by
  induction es generalizing m with
  | nil => simp [freedChains, freed]
  | cons e es ih =>
    rw [List.flatMap_cons, List.nodup_append] at hnodup
    obtain ⟨-, hrest, hdisjoint⟩ := hnodup
    have hkept : (es.flatMap fun d => (m.freed (m.chainOf (some e))).chainOf (some d)) =
        es.flatMap fun d => m.chainOf (some d) := by
      refine List.flatMap_congr fun d hd => chainOf_freed hwf ?_ fun x hx hxe => ?_
      · rw [List.flatMap_def] at hrest
        exact hrest.sublist (List.sublist_flatten_of_mem (List.mem_map_of_mem (f := fun e => m.chainOf (some e)) hd))
      · exact hdisjoint x hxe x (List.mem_flatMap.2 ⟨d, hd, hx⟩) rfl
    have hstep : m.freedChains (e :: es) = (m.freed (m.chainOf (some e))).freedChains es := rfl
    rw [hstep, ih (planeWf_planeDrops _ hwf) (by rw [hkept]; exact hrest), hkept, freed_freed, List.flatMap_cons]

/-! ## The chains a page owns (R105) -/

theorem insertChain_sorted (p : Nat × Nat) {l : List (Nat × Nat)} (h : l.Pairwise fun a b => a.1 ≤ b.1) :
    (insertChain p l).Pairwise (fun a b => a.1 ≤ b.1) ∧ ∀ q ∈ insertChain p l, q = p ∨ q ∈ l := by
  induction l with
  | nil => simp [insertChain]
  | cons a l ih =>
    obtain ⟨hfirst, hrest⟩ := List.pairwise_cons.1 h
    obtain ⟨hsorted, hmem⟩ := ih hrest
    unfold insertChain
    split
    · next hlt =>
      refine ⟨List.pairwise_cons.2 ⟨List.forall_mem_cons.2 ⟨hlt.le, fun b hb => hlt.le.trans (hfirst b hb)⟩, h⟩,
        fun q hq => List.mem_cons.1 hq⟩
    · next hge =>
      refine ⟨List.pairwise_cons.2 ⟨fun b hb => ?_, hsorted⟩, List.forall_mem_cons.2 ⟨.inr List.mem_cons_self, ?_⟩⟩
      · rcases hmem b hb with rfl | hb
        · omega
        · exact hfirst b hb
      · exact fun q hq => (hmem q hq).imp_right (List.mem_cons_of_mem a)

theorem ownedChains_sorted (m : ExtentMap) (page : Nat) : (m.ownedChains page).Pairwise fun a b => a.1 ≤ b.1 := by
  unfold ownedChains
  induction m.table with
  | nil => exact List.Pairwise.nil
  | cons p l ih =>
    rw [List.foldr_cons]
    split
    · split
      · exact (insertChain_sorted _ ih).1
      · exact ih
    · exact ih

end ExtentMap

end Sys2Proof.Machine
end

section
/-!
PROOFS. The release of a page (R42, R103 to R107): extents returned with their reports, the record read of a release, and
its end.
-/

set_option Elab.async false
namespace Sys2Proof.Machine

/-! ## Reports of the risen free count (R72, R103, R106) -/

theorem State.openAdmission_congr {s t : State} (hadm : t.adm = s.adm) (hlinks : t.links = s.links) :
    t.openAdmission.adm = s.openAdmission.adm ∧ t.openAdmission.links = s.openAdmission.links := by
  simp only [State.openAdmission, hadm]
  split
  · simp only [State.notifyBoth, State.notify, State.modLink, State.modAdm, hadm, hlinks, and_self]
  · simp only [State.modAdm, hadm, hlinks, and_self]

/-- A report reads the admission block and the links alone. -/
theorem State.reportRise_congr {s t : State} (hadm : t.adm = s.adm) (hlinks : t.links = s.links) (n : Nat) :
    (t.reportRise n).adm = (s.reportRise n).adm ∧ (t.reportRise n).links = (s.reportRise n).links := by
  simp only [State.reportRise, hadm]
  split
  · exact State.openAdmission_congr (by rw [State.modAdm_adm, State.modAdm_adm, hadm]) hlinks
  · exact ⟨by rw [State.modAdm_adm, State.modAdm_adm, hadm], hlinks⟩

/-- The reports of `n` returns, where `base` extents lie in the pool before the first. -/
def State.risenFrom (base n : Nat) (s : State) : State :=
  (List.range n).foldl (fun u i => u.reportRise (base + i + 1)) s

theorem State.risen_eq (n : Nat) (s : State) : s.risen n = s.risenFrom s.map.pool.length n := rfl

theorem State.risenFrom_succ (base n : Nat) (s : State) :
    s.risenFrom base (n + 1) = (s.risenFrom base n).reportRise (base + n + 1) := by
  simp [State.risenFrom, List.range_succ]

theorem State.risenFrom_add (base n k : Nat) (s : State) :
    s.risenFrom base (n + k) = (s.risenFrom base n).risenFrom (base + n) k := by
  induction k with
  | zero => rfl
  | succ k ih => rw [← Nat.add_assoc, State.risenFrom_succ, State.risenFrom_succ, ih, Nat.add_assoc base n k]

theorem State.risenFrom_congr {s t : State} (hadm : t.adm = s.adm) (hlinks : t.links = s.links) (base n : Nat) :
    (t.risenFrom base n).adm = (s.risenFrom base n).adm ∧ (t.risenFrom base n).links = (s.risenFrom base n).links := by
  induction n with
  | zero => exact ⟨hadm, hlinks⟩
  | succ n ih =>
    rw [State.risenFrom_succ, State.risenFrom_succ]
    exact State.reportRise_congr ih.1 ih.2 _

theorem State.risenFrom_freeCount (base : Nat) {n : Nat} (hn : 0 < n) (s : State) :
    (s.risenFrom base n).adm.freeCount = base + n := by
  obtain ⟨k, rfl⟩ : ∃ k, n = k + 1 := ⟨n - 1, by omega⟩
  rw [State.risenFrom_succ, State.reportRise_freeCount, Nat.add_assoc]

theorem State.reported_risenFrom (base n : Nat) (s : State) : s.Reported (s.risenFrom base n) := by
  induction n with
  | zero => exact .refl s
  | succ n ih =>
    rw [State.risenFrom_succ]
    exact ih.trans (.reportRise _ _)

/-! ## Extents returned (R103) -/

/-- A state that has come from another by extents returned, with a report of each: the map is now `m`. -/
structure State.Returned (m : ExtentMap) (s t : State) : Prop where
  grows : s.map.pool.length ≤ m.pool.length
  eq : t = { s with
    map := m
    adm := (s.risen (m.pool.length - s.map.pool.length)).adm
    links := (s.risen (m.pool.length - s.map.pool.length)).links }

namespace State.Returned
variable {m m' : ExtentMap} {s t u : State}

theorem refl (s : State) : s.Returned s.map s := ⟨le_rfl, by rw [Nat.sub_self]; rfl⟩

theorem trans (h1 : s.Returned m t) (h2 : t.Returned m' u) : s.Returned m' u := by
  obtain ⟨grows1, eq1⟩ := h1
  obtain ⟨grows2, eq2⟩ := h2
  have hmap : t.map = m := by rw [eq1]
  rw [hmap] at grows2
  have hrisen := State.risenFrom_congr (s := s.risen (m.pool.length - s.map.pool.length)) (t := t) (by rw [eq1])
    (by rw [eq1]) m.pool.length (m'.pool.length - m.pool.length)
  have htotal : m'.pool.length - s.map.pool.length =
      (m.pool.length - s.map.pool.length) + (m'.pool.length - m.pool.length) := by omega
  have hbase : s.map.pool.length + (m.pool.length - s.map.pool.length) = m.pool.length := by omega
  refine ⟨grows1.trans grows2, ?_⟩
  rw [eq2, State.risen_eq, hmap, hrisen.1, hrisen.2, htotal, State.risen_eq, State.risen_eq, State.risenFrom_add, hbase,
    eq1]

theorem map (h : s.Returned m t) : t.map = m := by rw [h.eq]
theorem adm (h : s.Returned m t) : t.adm = (s.risen (m.pool.length - s.map.pool.length)).adm := by rw [h.eq]
theorem links (h : s.Returned m t) : t.links = (s.risen (m.pool.length - s.map.pool.length)).links := by rw [h.eq]

/-- The admission block and the links change as reports change them. -/
theorem reported (h : s.Returned m t) : { s with map := m }.Reported t := by
  have hrisen := s.reported_risenFrom s.map.pool.length (m.pool.length - s.map.pool.length)
  rw [h.eq]
  exact ⟨rfl, hrisen.settings, hrisen.told.settled, hrisen.told.gains⟩

end State.Returned

theorem State.returnExtent_returned (s : State) (e : Nat) : s.Returned (s.map.freed [e]) (s.returnExtent e) := by
  have hlen : (s.map.freed [e]).pool.length - s.map.pool.length = 1 := by simp [ExtentMap.freed]
  have hreport : s.returnExtent e = State.reportRise (s.map.pool.length + 1) { s with map := s.map.freed [e] } := by
    simp only [State.returnExtent, State.modMap, List.length_append]
    rfl
  refine ⟨by simp [ExtentMap.freed], ?_⟩
  rw [hlen, hreport]
  have hcongr := State.reportRise_congr (s := s) (t := { s with map := s.map.freed [e] }) rfl rfl (s.map.pool.length + 1)
  rw [(State.Reported.reportRise _ _).others, hcongr.1, hcongr.2]
  rfl

theorem State.returnExtents_returned (s : State) (es : List Nat) :
    s.Returned (s.map.freed es) (es.foldl State.returnExtent s) := by
  induction es generalizing s with
  | nil => simpa [ExtentMap.freed] using State.Returned.refl s
  | cons e es ih =>
    have hfirst := s.returnExtent_returned e
    have hrest := ih (s.returnExtent e)
    rw [hfirst.map, ExtentMap.freed_freed] at hrest
    exact hfirst.trans hrest

theorem State.returnChain_returned (s : State) (first : Option Nat) :
    s.Returned (s.map.freed (s.map.chainOf first)) (s.returnChain first) := by
  cases first with
  | none => exact s.returnExtents_returned []
  | some e => exact s.returnExtents_returned _

theorem State.returnChains_returned (s : State) (l : List (Nat × Nat)) :
    s.Returned (s.map.freedChains (l.map Prod.snd)) (l.foldl (fun s p => s.returnChain (some p.2)) s) := by
  induction l generalizing s with
  | nil => exact State.Returned.refl s
  | cons p l ih =>
    have hfirst := s.returnChain_returned (some p.2)
    have hrest := ih (s.returnChain (some p.2))
    rw [hfirst.map] at hrest
    exact hfirst.trans hrest

/-- A map from which the chains that a page owns have been returned, lowest record index first, and then its header
(R105). -/
def ExtentMap.pageFreed (m : ExtentMap) (page header : Nat) : ExtentMap :=
  (m.freedChains ((m.ownedChains page).map Prod.snd)).freed [header]

theorem State.returnHeader_returned (s : State) (owner header : Nat) :
    s.Returned (s.map.pageFreed owner header) (s.returnHeader owner header) := by
  have hchains := s.returnChains_returned (s.map.ownedChains owner)
  have hlast := State.returnExtent_returned ((s.map.ownedChains owner).foldl (fun s p => s.returnChain (some p.2)) s) header
  rw [hchains.map] at hlast
  exact hchains.trans hlast

/-! ## The record read of a release (R104) -/

/-- The state in which the end of a TABLE operation has been taken. -/
def State.endTaken (e : TableEnd) (s : State) : State :=
  { s with arb := { s.arb with tableEnds := s.arb.tableEnds.erase e } }

theorem exec_releaseRecordRead {s : State} {page : Nat} {e : TableEnd} {r : Release} {p : Page}
    (he : s.arb.tableEnds.find? (fun e => e.op.client == .release page) = some e)
    (hr : s.dir.releases.find? (fun r => r.page == page) = some r) (hp : s.page page = some p) :
    exec (.releaseRecordRead page) s = .next ((s.endTaken e).releaseStep r p e).arbitrate := by
  have hexec : exec (.releaseRecordRead page) s = execReleaseRecordRead page s := rfl
  rw [hexec, execReleaseRecordRead, State.takeEnd_of_find (mine := (· == .release page)) he, hr, hp]
  rfl

/-- The extents that the record read of a release returns. -/
def State.releaseChain (s : State) (r : Release) (page : Nat) (e : TableEnd) : List Nat :=
  let record := (readRecord r.next e.words).1
  if record.state = .pending then [] else s.map.chainOf (s.map.chooseChain page r.next record.first)

/-- The state in which that chain has been returned. -/
def State.chainReleased (r : Release) (page : Nat) (e : TableEnd) (s : State) : State :=
  let record := (readRecord r.next e.words).1
  if record.state = .pending then s else s.returnChain (s.map.chooseChain page r.next record.first)

theorem State.chainReleased_returned (s : State) (r : Release) (page : Nat) (e : TableEnd) :
    s.Returned (s.map.freed (s.releaseChain r page e)) (s.chainReleased r page e) := by
  simp only [State.releaseChain, State.chainReleased]
  split
  · exact s.returnExtents_returned []
  · exact s.returnChain_returned _

/-- The links after a page has left the directory, for its band record reads that are in progress (R178). -/
def pageGoneOn (page : Nat) (l : Pair LinkCtl) : Pair LinkCtl := ⟨l.a.pageGone page, l.b.pageGone page⟩

theorem pageGoneOn_get (page : Nat) (l : Pair LinkCtl) (y : Link) :
    (pageGoneOn page l).get y = (l.get y).pageGone page := by
  cases y <;> rfl

/-- The record of the page's profile, whose use count falls. -/
def profileReleased (p : Page) (l : Vector Profile 8) : Vector Profile 8 :=
  if h : p.profile < 8 then l.set p.profile { l[p.profile] with uses := l[p.profile].uses - 1 } h else l

theorem State.endRelease_eq (s : State) (r : Release) (p : Page) :
    s.endRelease r p = { s.returnHeader p.id p.header with
      dir := { (s.returnHeader p.id p.header).dir with
        pages := (s.returnHeader p.id p.header).dir.pages.filter fun q => q.id != p.id
        releases := (s.returnHeader p.id p.header).dir.releases.filter fun q => q.page != p.id
        profiles := profileReleased p (s.returnHeader p.id p.header).dir.profiles }
      links := longReplied r.link r.ticket (.done .none) (pageGoneOn p.id (s.returnHeader p.id p.header).links) } := by
  rw [State.endRelease, State.answer_eq]
  rfl

/-- A record that is not the last: the next one is read, not checked. -/
theorem State.releaseStep_next (s : State) {r : Release} {p : Page} (e : TableEnd) (hmore : r.next + 1 < p.records) :
    s.releaseStep r p e = { s.chainReleased r p.id e with
      dir := { (s.chainReleased r p.id e).dir with
        releases := (s.chainReleased r p.id e).dir.releases.map fun q =>
          if q.page = p.id then { q with next := q.next + 1 } else q }
      arb := { (s.chainReleased r p.id e).arb with
        tableQueue := (s.chainReleased r p.id e).arb.tableQueue ++
          [⟨.release p.id, recordBurst p.header (r.next + 1), .read (recordMask (r.next + 1) 1) false⟩] } } := by
  simp only [State.releaseStep, if_pos hmore, State.placeRead_eq,
    State.opPlaced_tail (op := ⟨.release p.id, _, _⟩) rfl rfl]
  rfl

/-- The last record: the release ends. -/
theorem State.releaseStep_last (s : State) {r : Release} {p : Page} (e : TableEnd) (hlast : p.records ≤ r.next + 1) :
    s.releaseStep r p e = (s.chainReleased r p.id e).endRelease r p := by
  simp only [State.releaseStep, if_neg (not_lt.2 hlast)]
  rfl

/-! ## The reply to a long request at its link (R174) -/

theorem longReplied_recordReads (x y : Link) (k : Nat) (r : ReplyResult) (l : Pair LinkCtl) :
    ((longReplied x k r l).get y).recordReads = (l.get y).recordReads := by
  unfold longReplied
  split
  · rfl
  · rw [Pair.get_set]
    split
    · next hyx => simp [hyx, LinkCtl.repliedLong]
    · rfl

theorem longReplied_long (x : Link) (k : Nat) (r : ReplyResult) (l : Pair LinkCtl) :
    ∀ q ∈ ((longReplied x k r l).get x).long, q.ticket ≠ k := by
  unfold longReplied
  split
  · next hnone => simpa using hnone
  · next q hq =>
    have hticket : q.ticket = k := by simpa using List.find?_some hq
    rw [Pair.get_set, if_pos rfl, LinkCtl.repliedLong_long, hticket]
    exact fun p hp => by simpa using (List.mem_filter.1 hp).2

theorem longReplied_placed {x : Link} {k : Nat} {l : Pair LinkCtl} {q : LongReq} (r : ReplyResult)
    (hq : (l.get x).long.find? (fun q => q.ticket == k) = some q) :
    OutFrame.reply q.kind q.tag r ∈
      ((longReplied x k r l).get x).sending.toList ++ ((longReplied x k r l).get x).out := by
  have hlink : (longReplied x k r l).get x = (l.get x).repliedLong q r := by
    rw [longReplied, hq]
    exact Pair.get_set_self _ _ _
  refine List.count_pos_iff.1 (?_ : 0 < ((longReplied x k r l).get x).placed _)
  rw [hlink, LinkCtl.repliedLong, LinkCtl.placed_place, if_pos rfl]
  omega

/-! ## The obligation -/

/-- How a chain is chosen, opened and followed. -/
theorem ExtentMap.chains (m : ExtentMap) (page index first : Nat) :
    (m.beginsAt page index first → m.openChain page index first = some first ∧
      m.chooseChain page index first = some first) ∧
    (¬ m.beginsAt page index first → m.openChain page index first = none) ∧
    (¬ m.beginsAt page index first → planeWf m.table = true →
      (∀ e, m.chooseChain page index first = some e → m.beginsAt page index e) ∧
      (m.chooseChain page index first = none → ∀ e, ¬ m.beginsAt page index e) ∧
      (∀ e, m.beginsAt page index e → (∀ d, m.beginsAt page index d → d = e) →
        m.chooseChain page index first = some e)) ∧
    (∀ e d owner use, m.entry e = some ⟨.next d, owner, use⟩ → m.follow e = some d) ∧
    (∀ e owner use, m.entry e = some ⟨.last, owner, use⟩ → m.follow e = none) ∧
    (∀ e, m.entry e = none → m.follow e = none) ∧
    m.chainOf none = [] ∧
    (∀ e, m.entry e ≠ none → (m.chainOf (some e)).head? = some e) ∧
    (∀ e i a b, (m.chainOf (some e))[i]? = some a → (m.chainOf (some e))[i + 1]? = some b → m.follow a = some b) ∧
    (∀ e i a b, (m.chainOf (some e))[i]? = some a → m.follow a = some b → m.entry b ≠ none →
      i + 1 < m.table.length → (m.chainOf (some e))[i + 1]? = some b) :=
  ⟨fun h => ⟨m.openChain_of_begins h, m.chooseChain_of_begins h⟩, m.openChain_of_not_begins, m.chooseChain_searched,
    fun _ _ _ _ => m.follow_of_next, fun _ _ _ => m.follow_of_last, fun _ => m.follow_of_free, rfl,
    fun _ => m.chainOf_head, fun e i _ _ => m.chainFrom_follow _ e i, fun e i _ _ => m.chainFrom_goesOn _ e i⟩

/-- The extents of the chains that a page owns, in the order of their return. -/
def ExtentMap.ownedExtents (m : ExtentMap) (page : Nat) : List Nat :=
  (m.ownedChains page).flatMap fun q => m.chainOf (some q.2)

/-- Chains that share no extent are returned extent by extent. -/
theorem ExtentMap.pageFreed_eq {m : ExtentMap} {page : Nat} (header : Nat) (hnodup : (m.ownedExtents page).Nodup)
    (hwf : planeWf m.table = true) : m.pageFreed page header = m.freed (m.ownedExtents page ++ [header]) := by
  have hflat : ((m.ownedChains page).map Prod.snd).flatMap (fun e => m.chainOf (some e)) = m.ownedExtents page :=
    List.flatMap_map _ _ _
  rw [ExtentMap.pageFreed, ExtentMap.freedChains_eq hwf _ (by rwa [hflat]), hflat, ExtentMap.freed_freed]

/-- No entry of a page is left once its chains, which hold all but its header, have been returned with it. -/
theorem ExtentMap.pageFreed_owner {m : ExtentMap} {page header : Nat} (hnodup : (m.ownedExtents page).Nodup)
    (hwf : planeWf m.table = true)
    (hheld : ∀ q ∈ m.table, q.2.owner = page → q.1 = header ∨ q.1 ∈ m.ownedExtents page) :
    ∀ q ∈ (m.pageFreed page header).table, q.2.owner ≠ page := by
  intro q hq howner
  rw [ExtentMap.pageFreed_eq header hnodup hwf] at hq
  have hkept : q ∈ (m.ownedExtents page ++ [header]).foldl planeDrop m.table := hq
  rw [planeDrops_eq_filter _ hwf, List.mem_filter, decide_eq_true_eq, List.mem_append, List.mem_singleton,
    not_or] at hkept
  obtain ⟨hmem, hchains, hheader⟩ := hkept
  exact (hheld q hmem howner).elim hheader hchains

/-- The pool grows by the header at least. -/
theorem State.pageFreed_grows (s : State) (page header : Nat) :
    s.map.pool.length < (s.map.pageFreed page header).pool.length := by
  have hchains := (s.returnChains_returned (s.map.ownedChains page)).grows
  simp only [ExtentMap.pageFreed, ExtentMap.freed, List.length_append, List.length_singleton]
  omega

/-- Settles O24: the chain of the record returned, then the next record, or the rest of the page. -/
theorem releaseReturnsChainsThenThePage : Obligations.ReleaseReturnsChainsThenThePage := by
  refine ⟨ExtentMap.chains, fun page s e r p he hr hp => ?_⟩
  obtain rfl : p.id = page := State.id_of_page hp
  intro record chain map owned
  have hexec := exec_releaseRecordRead he hr hp
  have hchain : (s.endTaken e).Returned map ((s.endTaken e).chainReleased r p.id e) :=
    (s.endTaken e).chainReleased_returned r p.id e
  refine ⟨fun hmore => ?_, fun hlast => ?_⟩
  · rw [State.releaseStep_next _ e hmore, hchain.eq] at hexec
    have hlen : map.pool.length - (s.endTaken e).map.pool.length = chain.length := by
      simp only [map, ExtentMap.freed, List.length_append]
      exact Nat.add_sub_cancel_left _ _
    have hrisen := State.risenFrom_congr (s := s) (t := s.endTaken e) rfl rfl s.map.pool.length chain.length
    rw [hlen] at hexec
    exact ⟨_, hexec, rfl, hrisen.1, hrisen.2, rfl, rfl, rfl, rfl, rfl, rfl, rfl, rfl, rfl⟩
  · have hheader := ((s.endTaken e).chainReleased r p.id e).returnHeader_returned p.id p.header
    have hgrows := ((s.endTaken e).chainReleased r p.id e).pageFreed_grows p.id p.header
    rw [hchain.map] at hheader hgrows
    have hreturned := hchain.trans hheader
    have hgrows : s.map.pool.length < (map.pageFreed p.id p.header).pool.length := hchain.grows.trans_lt hgrows
    have hrisen := State.risenFrom_congr (s := s) (t := s.endTaken e) rfl rfl s.map.pool.length
      ((map.pageFreed p.id p.header).pool.length - s.map.pool.length)
    have htold :=
      (s.reported_risenFrom s.map.pool.length ((map.pageFreed p.id p.header).pool.length - s.map.pool.length)).told
    rw [State.releaseStep_last _ e hlast, State.endRelease_eq, hreturned.eq] at hexec
    refine ⟨_, hexec, rfl, ?_, ⟨hrisen.1, congrArg (fun l => longReplied r.link r.ticket _ (pageGoneOn p.id l)) hrisen.2⟩,
      fun hnodup hwf => ?_, fun hnodup hwf hheld => ExtentMap.pageFreed_owner hnodup hwf hheld, fun i hi => ?_, rfl, rfl,
      fun hprofile => ?_, fun y => ?_, longReplied_long _ _ _ _, fun q hq => ?_, rfl, rfl, rfl, rfl, rfl, rfl⟩
    · refine (congrArg Admission.freeCount hrisen.1).trans ?_
      rw [State.risenFrom_freeCount _ (by omega)]
      exact Nat.add_sub_cancel' hgrows.le
    · refine (congrArg ExtentMap.pool (ExtentMap.pageFreed_eq p.header hnodup hwf)).trans ?_
      exact (List.append_assoc _ _ _).symm
    · have hlen : i + 1 < owned.length := by simpa using hi
      have howned : owned.Pairwise fun a b => a.1 ≤ b.1 := map.ownedChains_sorted p.id
      have hsorted := List.pairwise_iff_getElem.1 howned i (i + 1) (by omega) hlen (by omega)
      simpa [List.getD_eq_getElem?_getD, hlen, Nat.lt_of_succ_lt hlen] using hsorted
    · change (profileReleased p s.dir.profiles)[p.profile].uses = _
      simp [profileReleased, hprofile]
    · refine (longReplied_recordReads _ y _ _ _).trans ?_
      rw [pageGoneOn_get]
      exact congrArg (List.map _) ((congrArg (fun l => (Pair.get l y).recordReads) hrisen.2).trans (htold.recordReads y))
    · refine longReplied_placed _ ?_
      rw [pageGoneOn_get]
      have hlong := (congrArg (fun l => (Pair.get l r.link).long) hrisen.2).trans (htold.long r.link)
      exact (congrArg (List.find? _) hlong).trans hq

end Sys2Proof.Machine
end

section
/-!
PROOFS. The ENCODE job (R87 to R91): its end at its slot, the extents it takes, its failure, and the end of an encoding.
-/

set_option Elab.async false
namespace Sys2Proof.Machine

/-! ## The end of a job (R56, R85, R89 to R91) -/

/-- The state in which a lane's ENCODE job is over and the lane free, before it takes its next job. -/
def State.jobOver (l : Lane) (j : Job) (s : State) : State :=
  let s1 := match j.source with
    | .slot x t => s.slotJobEnd x t
    | .request _ _ _ => s
  (s1.endWork j.page).setLane l .idle

theorem State.encodeOver_eq (s : State) (l : Lane) (j : Job) : s.encodeOver l j = (s.jobOver l j).laneTake l := rfl

theorem State.jobOver_eq {s : State} {j : Job} {p : Page} {x : Link} {t : SlotId} (l : Lane)
    (hp : s.page j.page = some p) (hsource : j.source = .slot x t) :
    s.jobOver l j = { s with
      dir := { s.dir with
        pages := pagesWith p.id (fun q => { q with work := q.work - 1 }) s.dir.pages
        releases := releasesAfterWork p s.dir.releases }
      intakes := s.intakes.set x ((s.intake x).slotEnded t)
      links := s.resumed x t
      disp := { s.disp with lanes := s.disp.lanes.set l .idle }
      arb := { s.arb with tableQueue := queueAfterWork p s.arb.tableQueue } } := by
  simp only [State.jobOver, hsource, State.slotJobEnd_eq]
  rw [State.endWork_eq (p := p), State.id_of_page hp]
  · rfl
  · exact hp

/-- What RESUME, where it is placed, adds to a link. -/
theorem State.linksTold_resumed (s : State) (x : Link) (t : SlotId) {u : State} (hu : u.links = s.resumed x t) :
    s.LinksTold u := by
  unfold State.resumed at hu
  split at hu
  · exact (s.linksTold_notify x .resume).trans (.of_links hu)
  · exact .of_links hu

/-! ## The chain of a run returned (R90, R91, R103) -/

/-- The state in which the chain of a run has been returned. -/
def State.chainReturned (r : EncodeRun) (s : State) : State :=
  { s with
    map := s.map.freed (s.map.chainOf r.first)
    adm := (s.risen (s.map.chainOf r.first).length).adm
    links := (s.risen (s.map.chainOf r.first).length).links }

theorem State.returnChain_eq (s : State) (r : EncodeRun) : s.returnChain r.first = s.chainReturned r := by
  have hlen : (s.map.freed (s.map.chainOf r.first)).pool.length - s.map.pool.length = (s.map.chainOf r.first).length := by
    simp [ExtentMap.freed]
  rw [(s.returnChain_returned r.first).eq, hlen]
  rfl

theorem State.chainReturned_linksTold (s : State) (r : EncodeRun) : s.LinksTold (s.chainReturned r) :=
  let told := (s.reported_risenFrom s.map.pool.length (s.map.chainOf r.first).length).told
  ⟨told.settled, told.gains⟩

theorem State.chainReturned_rules (s : State) (r : EncodeRun) : (s.chainReturned r).adm.rules = s.adm.rules := by
  have hsettings := (s.reported_risenFrom s.map.pool.length (s.map.chainOf r.first).length).settings
  simp only [Admission.settings, Prod.mk.injEq] at hsettings
  exact hsettings.1

/-! ## Extents taken (R88, R100) -/

theorem EncodeRun.wantsWrite_iff (q : EncodeRun) :
    q.wantsWrite = true ↔ 256 ≤ q.out.length ∨ (q.left = 0 ∧ q.out ≠ []) := by
  simp [EncodeRun.wantsWrite]

theorem State.jobIndex_eq {s : State} {j : Job} {p : Page} (hp : s.page j.page = some p) :
    s.jobIndex j = j.band * p.c + j.comp := by
  simp only [State.jobIndex, hp]

theorem State.takePayload_of_empty {s : State} (h : s.map.pool = []) (owner index : Nat) (last : Option Nat) :
    s.takePayload owner index last = none := by
  unfold State.takePayload
  split
  · simp only [State.takeHeadExtent, h]
  · split
    · simp only [h]
    · rfl

/-- A take that goes on with a chain links its last extent to the new one. -/
theorem State.takePayload_of_last {s : State} {owner index a e : Nat} {b : Bool} {rest : List Nat}
    (ha : s.map.entry a = some ⟨.last, owner, .payload index b⟩) (h : s.map.pool = e :: rest) :
    s.takePayload owner index (some a) = some (e, { s.reportFall rest.length with
      map := ⟨planePut (planePut s.map.table a ⟨.next e, owner, .payload index b⟩) e
        ⟨.last, owner, .payload index false⟩, rest⟩ }) := by
  have hend : s.map.isChainEnd owner index a = true := by simp [ExtentMap.isChainEnd, ha]
  rw [← State.reportFall_map]
  simp only [State.takePayload, hend, if_true, h, State.modMap, ha]

theorem State.leaveNormal_disp (s : State) (d : Dispatcher) :
    State.leaveNormal { s with disp := d } = { s.leaveNormal with disp := d } := by
  unfold State.leaveNormal
  split <;> rfl

/-- A report reads nothing of the lanes. -/
theorem State.reportFall_disp (s : State) (d : Dispatcher) (n : Nat) :
    State.reportFall n { s with disp := d } = { s.reportFall n with disp := d } := by
  unfold State.reportFall
  dsimp only
  split
  · exact State.leaveNormal_disp (s.modAdm fun a => { a with freeCount := n }) d
  · rfl

theorem State.reportFall_disp_map (s : State) (d : Dispatcher) (m : ExtentMap) (n : Nat) :
    State.reportFall n { s with disp := d, map := m } = { s.reportFall n with disp := d, map := m } :=
  (State.reportFall_map { s with disp := d } m n).trans (by rw [State.reportFall_disp])

/-! ## The end of an encoding, the bursts and the settling (R88 to R91) -/

theorem exec_encodeEnd {s : State} {l : Lane} {j : Job} {r : EncodeRun} (hlane : s.lane l = .encoding j r)
    (hfinished : r.finished = true) : exec (.encodeEnd l) s = .next (s.encodeEnded l j r).arbitrate := by
  have hexec : exec (.encodeEnd l) s = execEncodeEnd l s := rfl
  simp only [hexec, execEncodeEnd, hlane, if_pos hfinished]

theorem EncodeRun.finished_of {r : EncodeRun} (hphase : r.phase ≠ .recording) (hleft : r.left = 0) (hout : r.out = []) :
    r.finished = true := by
  simp [EncodeRun.finished, hphase, hleft, hout]

/-- The state in which a job is over whose chain has been returned and whose page stands. -/
theorem State.jobOver_chainReturned {s : State} {j : Job} {p : Page} {x : Link} {t : SlotId} (l : Lane) (r : EncodeRun)
    (hp : s.page j.page = some p) (hsource : j.source = .slot x t) :
    (s.chainReturned r).jobOver l j = { s.chainReturned r with
      dir := { s.dir with
        pages := pagesWith p.id (fun q => { q with work := q.work - 1 }) s.dir.pages
        releases := releasesAfterWork p s.dir.releases }
      intakes := s.intakes.set x ((s.intake x).slotEnded t)
      links := (s.chainReturned r).resumed x t
      disp := { s.disp with lanes := s.disp.lanes.set l .idle }
      arb := { s.arb with tableQueue := queueAfterWork p s.arb.tableQueue } } :=
  State.jobOver_eq (s := s.chainReturned r) l hp hsource

/-- A recording page gets its band record written (R89). -/
theorem State.encodeEnded_recorded {s : State} {j : Job} {p : Page} (l : Lane) (r : EncodeRun)
    (hp : s.page j.page = some p) (hstate : p.state = .filling ∨ p.state = .coding) :
    s.encodeEnded l j r = { s with
      disp := { s.disp with lanes := s.disp.lanes.set l (.encoding j { r with phase := .recording }) }
      arb := s.opPlaced ⟨.lane l, recordBurst p.header (s.jobIndex j), .write (recordData (s.jobIndex j)
        ⟨.stored, r.ctx.result.1, laneNo l, r.first.getD 0, r.ctx.result.2⟩) (recordMask (s.jobIndex j) 1)⟩ } := by
  simp only [State.encodeEnded, hp, if_pos hstate, State.placeRecord, State.placeOp_eq]
  rfl

/-- The chain of a page in another state is returned (R91). -/
theorem State.encodeEnded_returned {s : State} {j : Job} {p : Page} (l : Lane) (r : EncodeRun)
    (hp : s.page j.page = some p) (hstate : ¬ (p.state = .filling ∨ p.state = .coding)) :
    s.encodeEnded l j r = ((s.chainReturned r).jobOver l j).laneTake l := by
  simp only [State.encodeEnded, hp, if_neg hstate, State.returnChain_eq, State.encodeOver_eq]

theorem State.encodeBurst_write {s : State} {l : Lane} {j : Job} {r : EncodeRun} {b : Burst} {data : List Word}
    {mask : BitVec 32} (ws : List ReadWord) (h : b.access = .write data mask) :
    s.encodeBurst l j r b ws = s.encodeSettle l j { r with out := r.out.drop 256, words := r.words + 8 } := by
  simp only [State.encodeBurst, h]

theorem State.encodeBurst_read {s : State} {l : Lane} {j : Job} {r : EncodeRun} {b : Burst} {taken : BitVec 32}
    {checked : Bool} (ws : List ReadWord) (h : b.access = .read taken checked) :
    s.encodeBurst l j r b ws = if ws.any ReadWord.bad = true then s.encodeFail l j r .storeParity
      else s.encodeSettle l j (r.feed ws) := by
  simp only [State.encodeBurst, h]

/-- A lane that needs no further extent goes on. -/
theorem State.encodeSettle_of_not_takes {s : State} {l : Lane} {j : Job} {q : EncodeRun}
    (h : ¬ (q.wantsWrite = true ∧ q.taken ≤ q.words / 16384)) :
    s.encodeSettle l j q = { s with disp := { s.disp with lanes := s.disp.lanes.set l (.encoding j q) } } :=
  if_neg h

/-- A take that is refused fails the job STORE_FULL. -/
theorem State.encodeSettle_refused {s : State} {l : Lane} {j : Job} {q : EncodeRun} (hwants : q.wantsWrite = true)
    (htaken : q.taken ≤ q.words / 16384) (h : s.map.pool = []) :
    s.encodeSettle l j q = s.encodeFail l j q .storeFull := by
  have htakes : q.wantsWrite = true ∧ q.taken ≤ q.words / Config.extentWords := ⟨hwants, htaken⟩
  simp only [State.encodeSettle, if_pos htakes, State.takePayload_of_empty h]

/-- A take lengthens the chain of the run by one extent, with its report. -/
theorem State.encodeSettle_taken {s : State} {l : Lane} {j : Job} {q : EncodeRun} {e n : Nat} {m : ExtentMap}
    (hwants : q.wantsWrite = true) (htaken : q.taken ≤ q.words / 16384)
    (h : s.takePayload j.page (s.jobIndex j) q.last = some (e, { s.reportFall n with map := m })) :
    s.encodeSettle l j q = State.reportFall n { s with
      disp := { s.disp with
        lanes := s.disp.lanes.set l
          (.encoding j { q with first := some (q.first.getD e), last := some e, taken := q.taken + 1 }) }
      map := m } := by
  have htakes : q.wantsWrite = true ∧ q.taken ≤ q.words / Config.extentWords := ⟨hwants, htaken⟩
  have hdisp : (s.reportFall n).disp = s.disp := (State.Reported.reportFall s n).disp
  rw [State.reportFall_disp_map]
  simp only [State.encodeSettle, if_pos htakes, h, State.setLane, State.modDisp, hdisp]

/-! ## A job that fails (R90) -/

/-- The page of a job that fails is left as it is if it can no longer fail (R39). -/
theorem State.encodeFail_of_not_canFail {s : State} {j : Job} {p : Page} (l : Lane) (r : EncodeRun) (cause : FailCause)
    (hp : s.page j.page = some p) (hfail : p.canFail = false) :
    s.encodeFail l j r cause = ((s.chainReturned r).jobOver l j).laneTake l := by
  have hpage : (s.chainReturned r).page j.page = some p := hp
  rw [State.encodeFail, State.returnChain_eq, State.failPage_of_not_canFail cause hpage hfail, State.encodeOver_eq]

/-- The state in which the page of a failed job is FAILED, its chain returned. -/
def State.jobPageFailed (j : Job) (r : EncodeRun) (cause : FailCause) (s : State) : State :=
  (s.chainReturned r).failPage j.page cause

theorem State.encodeFail_eq (s : State) (l : Lane) (j : Job) (r : EncodeRun) (cause : FailCause) :
    s.encodeFail l j r cause = ((s.jobPageFailed j r cause).jobOver l j).laneTake l := by
  rw [State.encodeFail, State.returnChain_eq, State.encodeOver_eq]
  rfl

theorem State.jobPageFailed_failed {s : State} {j : Job} {p : Page} (r : EncodeRun) (cause : FailCause)
    (hp : s.page j.page = some p) (hfail : p.canFail = true) :
    (s.chainReturned r).PageFailed j.page cause p.origin (s.jobPageFailed j r cause) :=
  State.failPage_failed (s := s.chainReturned r) cause hp hfail

theorem State.PageFailed.page {s t : State} {id : Nat} {cause : FailCause} {x : Link} {p : Page}
    (h : s.PageFailed id cause x t) (hp : s.page id = some p) : t.page id = some (p.failed cause) :=
  State.page_of_pagesWith (s := s) (f := Page.failed cause) (congrArg (fun t : State => t.dir.pages) h.others)
    (fun _ => rfl) hp

/-- The end of a job whose page has failed changes nothing of the releases and the TABLE queue. -/
theorem State.jobOver_of_failed {s : State} {j : Job} {p : Page} {cause : FailCause} {x : Link} {t : SlotId} (l : Lane)
    (hp : s.page j.page = some (p.failed cause)) (hsource : j.source = .slot x t) :
    s.jobOver l j = { s with
      dir := { s.dir with pages := pagesWith p.id (fun q => { q with work := q.work - 1 }) s.dir.pages }
      intakes := s.intakes.set x ((s.intake x).slotEnded t)
      links := s.resumed x t
      disp := { s.disp with lanes := s.disp.lanes.set l .idle } } := by
  rw [State.jobOver_eq l hp hsource]
  rfl

/-- The origin link of a page that fails is told so, whatever its links are told before and after. -/
theorem State.jobPageFailed_told {s u : State} {j : Job} {p : Page} {r : EncodeRun} {cause : FailCause}
    (hp : s.page j.page = some p) (hfail : p.canFail = true) (hu : (s.jobPageFailed j r cause).LinksTold u) :
    (u.link p.origin).told (s.link p.origin) (.pageFailed j.page cause) := by
  obtain ⟨_, hbefore⟩ := (s.chainReturned_linksTold r).gains p.origin (.notice (.pageFailed j.page cause))
  obtain ⟨n, hn, hfailed⟩ := (State.jobPageFailed_failed r cause hp hfail).notice
  obtain ⟨_, hafter⟩ := hu.gains p.origin (.notice (.pageFailed j.page cause))
  exact ((hbefore.trans hfailed).trans hafter).told (by omega)

/-- Settles O35: the end of an encoding, the ends of the bursts, the extents taken, and the two failures. -/
theorem encodedBandIsRecordedOrReturned : Obligations.EncodedBandIsRecordedOrReturned := by
  intro l s j r p hlane hp index chain ran returned ended
  have hid : p.id = j.page := State.id_of_page hp
  have hindex : s.jobIndex j = index := State.jobIndex_eq hp
  have hended : ended ((s.chainReturned r).jobOver l j) := fun x t hsource => by
    have htold := (s.chainReturned_linksTold r).trans ((s.chainReturned r).linksTold_resumed x t
      (u := (s.chainReturned r).jobOver l j) (by rw [State.jobOver_chainReturned l r hp hsource]))
    rw [State.jobOver_chainReturned l r hp hsource] at htold ⊢
    exact ⟨rfl, rfl, rfl, rfl, rfl, rfl, rfl, rfl, rfl, rfl, rfl, s.chainReturned_rules r,
      fun y => ⟨htold.rx y, htold.long y⟩, rfl⟩
  refine ⟨fun hphase hleft hout => ?_, fun b ws => ⟨fun _ _ h => State.encodeBurst_write ws h,
    fun _ _ h => State.encodeBurst_read ws h⟩, fun q => ?_, fun cause => ⟨fun hfail => ?_, ?_⟩⟩
  · have hexec := exec_encodeEnd hlane (EncodeRun.finished_of hphase hleft hout)
    refine ⟨fun hstate => ?_, fun hfilling hcoding => ⟨_, ?_, hended⟩⟩
    · rw [hexec, State.encodeEnded_recorded l r hp hstate, hindex]
      cases l <;> rfl
    · rw [hexec, State.encodeEnded_returned l r hp (not_or.2 ⟨hfilling, hcoding⟩)]
  · intro wants
    refine ⟨fun hstays => State.encodeSettle_of_not_takes fun ⟨hwants, htaken⟩ => ?_, fun hwants htaken =>
      ⟨State.encodeSettle_refused (q.wantsWrite_iff.2 hwants) htaken, fun e rest hpool => ⟨fun hlast => ?_,
        fun a b hlast ha => ?_⟩⟩⟩
    · rcases hstays with h | h
      · exact h (q.wantsWrite_iff.1 hwants)
      · omega
    · refine State.encodeSettle_taken (q.wantsWrite_iff.2 hwants) htaken ?_
      rw [hlast, hindex, hid]
      exact State.takeHeadExtent_of_pool hpool
    · refine State.encodeSettle_taken (q.wantsWrite_iff.2 hwants) htaken ?_
      rw [hlast, hindex, ← hid]
      exact State.takePayload_of_last ha hpool
  · exact ⟨_, State.encodeFail_of_not_canFail l r cause hp hfail, hended⟩
  · intro hfail _ x t hsource
    have h := State.jobPageFailed_failed r cause hp hfail
    have hu := State.jobOver_of_failed l (h.page hp) hsource
    have htold := State.jobPageFailed_told hp hfail
      ((s.jobPageFailed j r cause).linksTold_resumed x t (u := (s.jobPageFailed j r cause).jobOver l j) (by rw [hu]))
    refine ⟨_, State.encodeFail_eq s l j r cause, ?_⟩
    rw [hu] at htold ⊢
    rw [← hid] at h htold
    refine ⟨(congrArg State.map h.others :), Four.get_set_self _ l _, fun m hm => ?_, ?_, h.waiting, fun y => ?_, ?_, htold,
      (congrArg (fun t : State => t.dir.profiles) h.others :), (congrArg State.ctl h.others :),
      (congrArg State.still h.others :)⟩
    · exact (Four.get_set_ne _ _ hm).trans (congrArg (Four.get · m) h.lanes)
    · exact State.page_of_pagesWith (s := s.jobPageFailed j r cause) (f := fun q => { q with work := q.work - 1 })
        (p := p.failed cause) rfl (fun _ => rfl) (h.page (hid ▸ hp))
    · have hpage : ((s.jobPageFailed j r cause).intake y).page ≠ some p.id := by
        rw [h.intake, Intake.ceased_jobsEnded_page]
        split
        · nofun
        · assumption
      rw [State.intake_of_intakes (s := s.jobPageFailed j r cause) rfl]
      split
      · next hyx => rwa [Intake.slotEnded_page, ← hyx]
      · exact hpage
    · rw [hid]
      exact ⟨(congrArg State.adm h.others :), rfl, rfl,
        congrArg (fun v => { (s.jobPageFailed j r cause).disp with lanes := Four.set v l .idle }) h.lanes, rfl, rfl, rfl⟩

end Sys2Proof.Machine
end

section
/-!
PROOFS. The STORED record of an ENCODE job (R89): the stored count, the seal (R37) and the end of the job.
-/

set_option Elab.async false
namespace Sys2Proof.Machine

/-! ## The seal of a page (R37) -/

theorem State.PressMoved.pressSealed (s : State) (id : Nat) : s.PressMoved (s.pressSealed id) := by
  simp only [State.pressSealed]
  refine .trans ?_ (.testPress _)
  repeat' split
  · exact .pressEnter s _
  · exact .refl s
  · exact .refl s

/-- The record of a page that has sealed. -/
def Page.sealing (p q : Page) : Page :=
  { q with state := .sealed, streamRefs := if p.copyTarget.isSome = true then q.streamRefs + 1 else q.streamRefs }

/-- The streams that the seal of a page adds to the list of a link. -/
def Page.copyStreams (p : Page) (serial : Nat) (y : Link) : List Stream :=
  if p.copyTarget = some y then
    [{ serial := serial, kind := .copy, page := p.id, c := p.c, index := 0, total := p.records,
       record := none, next := 0, ext := none, marked := 0, mismatches := 0 }]
  else []

/-- A state that has come from another by the seal of a page: its record, PAGE SEALED at its origin link, its copy stream
and the press feed. -/
structure State.Sealed (p : Page) (s t : State) : Prop where
  others : t = { s with
    nextTicket := t.nextTicket
    dir := { s.dir with pages := pagesWith p.id p.sealing s.dir.pages }
    links := t.links, press := t.press, arb := t.arb }
  tableEnds : t.arb.tableEnds = s.arb.tableEnds
  schedule : t.press.schedule.map (fun q => { q with active := false }) =
    s.press.schedule.map (fun q => { q with active := false })
  streams : ∀ y, (t.link y).streams = (s.link y).streams ++ p.copyStreams s.nextTicket y
  gains : ∀ y g, ∃ n, (s.link y).Gains (t.link y) g n
  told : (s.link p.origin).hasPlace = true → (t.link p.origin).holds (.notice (.pageSealed p.id)) = true

/-- A notice placed where there is a place is held. -/
theorem LinkCtl.placeNotice_holds {c : LinkCtl} (n : Notice) (h : c.hasPlace = true) :
    (c.placeNotice n).holds (.notice n) = true := by
  rw [LinkCtl.placeNotice, if_pos h, LinkCtl.holds_iff, LinkCtl.placed_place, if_pos rfl]
  omega

/-- The state in which a sealing page is SEALED and its origin link has been told. -/
def State.sealTold (p : Page) (s : State) : State :=
  (s.modPage p.id fun q => { q with state := .sealed }).notify p.origin (.pageSealed p.id)

/-- The state in which the page's copy stream has joined the list of its target. -/
def State.copyJoined (p : Page) (s : State) : State :=
  match p.copyTarget with
  | some y => s.addStream y p.id fun k => ⟨k, .copy, p.id, p.c, 0, p.records, none, 0, none, 0, 0⟩
  | none => s

theorem State.sealPage_eq (s : State) (p : Page) : s.sealPage p = ((s.sealTold p).copyJoined p).pressSealed p.id := by
  simp only [State.sealPage, State.copyJoined]
  rfl

theorem State.link_addStream (s : State) (x y : Link) (id : Nat) (mk : Nat → Stream) :
    (s.addStream x id mk).link y =
      if y = x then ({ s.link x with streams := (s.link x).streams ++ [mk s.nextTicket] } : LinkCtl).noteWait
      else s.link y :=
  State.link_of_links rfl

/-- A copy stream that joins a list adds nothing else to the links. -/
theorem State.link_copyJoined (s : State) (p : Page) (y : Link) :
    ((s.copyJoined p).link y).streams = (s.link y).streams ++ p.copyStreams s.nextTicket y ∧
      ∀ g, (s.link y).Gains ((s.copyJoined p).link y) g 0 := by
  cases hcopy : p.copyTarget with
  | none =>
    simp only [State.copyJoined, Page.copyStreams, hcopy, reduceCtorEq, if_false, List.append_nil, true_and]
    exact LinkCtl.Gains.refl _
  | some x =>
    simp only [State.copyJoined, Page.copyStreams, hcopy, State.link_addStream, Option.some.injEq]
    rcases eq_or_ne y x with rfl | hyx
    · refine ⟨by simp, fun g => ?_⟩
      rw [if_pos rfl]
      exact .of_frames (LinkCtl.placed_noteWait _ g) (LinkCtl.noteWait_noticesDiscarded _)
    · rw [if_neg hyx, if_neg hyx.symm, List.append_nil]
      exact ⟨rfl, LinkCtl.Gains.refl _⟩

theorem State.sealedTold_copyJoined (s : State) (p : Page) :
    (s.sealTold p).copyJoined p = { s with
      nextTicket := ((s.sealTold p).copyJoined p).nextTicket
      dir := { s.dir with pages := pagesWith p.id p.sealing s.dir.pages }
      links := ((s.sealTold p).copyJoined p).links } := by
  cases hcopy : p.copyTarget with
  | none =>
    simp only [State.copyJoined, hcopy]
    have hsealing : p.sealing = fun q => { q with state := .sealed } := by
      funext q
      simp [Page.sealing, hcopy]
    rw [hsealing]
    rfl
  | some x =>
    have hsealing : p.sealing = fun q => { q with state := .sealed, streamRefs := q.streamRefs + 1 } := by
      funext q
      simp [Page.sealing, hcopy]
    have hpages := pagesWith_pagesWith p.id (f := fun q => { q with state := .sealed })
      (fun q => { q with streamRefs := q.streamRefs + 1 }) (fun _ => rfl) s.dir.pages
    rw [hsealing, ← hpages]
    simp only [State.copyJoined, hcopy]
    rfl

theorem State.sealPage_sealed (s : State) (p : Page) : s.Sealed p (s.sealPage p) := by
  have hpress : ((s.sealTold p).copyJoined p).PressMoved (s.sealPage p) := by
    rw [State.sealPage_eq]
    exact .pressSealed _ p.id
  have hjoined := s.sealedTold_copyJoined p
  have hlink : (s.sealPage p).link = ((s.sealTold p).copyJoined p).link :=
    funext fun y => congrArg (Pair.get · y) (congrArg State.links hpress.others :)
  have htold : (s.modPage p.id fun q => { q with state := .sealed }).LinksTold (s.sealTold p) :=
    State.linksTold_notify _ p.origin _
  refine ⟨?_, ?_, ?_, fun y => ?_, fun y g => ?_, fun hplace => ?_⟩
  · rw [hpress.others, hjoined]
  · rw [hpress.tableEnds, hjoined]
  · rw [hpress.schedule, hjoined]
  · rw [hlink, (State.link_copyJoined _ p y).1, htold.streams]
    rfl
  · obtain ⟨n, hn⟩ := htold.gains y g
    rw [hlink]
    exact ⟨_, hn.trans ((State.link_copyJoined _ p y).2 g)⟩
  · rw [hlink]
    refine ((State.link_copyJoined _ p p.origin).2 _).holds ?_
    rw [State.sealTold, State.link_notify, if_pos rfl]
    exact LinkCtl.placeNotice_holds _ hplace

/-! ## The stored count (R31) -/

/-- The record of a page of which one more band record is STORED. -/
def Page.counted (q : Page) : Page := { q with stored := q.stored + 1 }

theorem State.page_counted {s : State} {id : Nat} {p : Page} (hp : s.page id = some p) :
    (s.modPage id Page.counted).page id = some p.counted := by
  rw [State.page_modPage_self s id Page.counted fun _ => rfl, hp]
  rfl

theorem State.recordStored_of_not_seals {s : State} {id : Nat} {p : Page} (hp : s.page id = some p)
    (h : ¬ (p.state = .coding ∧ p.stored + 1 = p.b * p.c)) : s.recordStored id = s.modPage id Page.counted := by
  have hpage := State.page_counted hp
  unfold Page.counted at hpage
  simp only [State.recordStored, hpage]
  exact if_neg h

theorem State.recordStored_of_seals {s : State} {id : Nat} {p : Page} (hp : s.page id = some p)
    (h : p.state = .coding ∧ p.stored + 1 = p.b * p.c) :
    s.recordStored id = (s.modPage id Page.counted).sealPage p.counted := by
  have hpage := State.page_counted hp
  unfold Page.counted at hpage
  simp only [State.recordStored, hpage]
  exact if_pos h

/-- A state that has come from another by a stored count that rises, with the seal it may bring. -/
structure State.CountRisen (s t : State) : Prop where
  others : t = { s with
    nextTicket := t.nextTicket, dir := { s.dir with pages := t.dir.pages }
    links := t.links, press := t.press, arb := t.arb }
  tableEnds : t.arb.tableEnds = s.arb.tableEnds
  gains : ∀ y g, ∃ n, (s.link y).Gains (t.link y) g n

theorem State.recordStored_countRisen {s : State} {id : Nat} {p : Page} (hp : s.page id = some p) :
    s.CountRisen (s.recordStored id) := by
  by_cases hseals : p.state = .coding ∧ p.stored + 1 = p.b * p.c
  · rw [State.recordStored_of_seals hp hseals]
    have h := State.sealPage_sealed (s.modPage id Page.counted) p.counted
    refine ⟨?_, h.tableEnds, h.gains⟩
    rw [h.others]
    rfl
  · rw [State.recordStored_of_not_seals hp hseals]
    exact ⟨rfl, rfl, fun _ g => ⟨0, .refl _ g⟩⟩

/-- The record of the page in the state in which its count has risen. -/
theorem State.page_recordStored {s : State} {id : Nat} {p : Page} (hp : s.page id = some p) :
    (s.recordStored id).page id =
      some (if p.state = .coding ∧ p.stored + 1 = p.b * p.c then p.counted.sealing p.counted else p.counted) := by
  obtain rfl : p.id = id := State.id_of_page hp
  have hcounted := State.page_counted hp
  by_cases hseals : p.state = .coding ∧ p.stored + 1 = p.b * p.c
  · rw [State.recordStored_of_seals hp hseals, if_pos hseals]
    have h := State.sealPage_sealed (s.modPage p.id Page.counted) p.counted
    exact State.page_of_pagesWith (s := s.modPage p.id Page.counted) (f := p.counted.sealing)
      (congrArg (fun t : State => t.dir.pages) h.others) (fun _ => rfl) hcounted
  · rw [State.recordStored_of_not_seals hp hseals, if_neg hseals, hcounted]

/-! ## The end of the record write (R89) -/

theorem exec_bandRecordWriteEnd {s : State} {l : Lane} {j : Job} {r : EncodeRun} {e : TableEnd}
    (hlane : s.lane l = .encoding j r) (hphase : r.phase = .recording)
    (he : s.arb.tableEnds.find? (fun e => e.op.client == .lane l) = some e) :
    exec (.bandRecordWriteEnd l) s =
      .next ((((s.endTaken e).recordStored j.page).jobOver l j).laneTake l).arbitrate := by
  have hexec : exec (.bandRecordWriteEnd l) s = execBandRecordWriteEnd l s := rfl
  simp only [hexec, execBandRecordWriteEnd, hlane, State.takeEnd_of_find (mine := (· == .lane l)) he, if_pos hphase]
  rfl

/-- RESUME, where the end of a job places it, is told. -/
theorem State.resumed_told {s t u : State} {x : Link} {k : SlotId} {n : Nat}
    (ht : (s.link x).Gains (t.link x) (.notice .resume) n) (hintake : t.intake x = s.intake x)
    (hu : u.links = t.resumed x k) (hjobs : ((s.intake x).slots.get k).jobs ≤ 1) (hhold : (s.intake x).hold = true) :
    (u.link x).told (s.link x) .resume := by
  rw [State.resumed, hintake, if_pos ⟨hjobs, hhold⟩] at hu
  have hplaced : (t.link x).Gains (u.link x) (.notice .resume) 1 := by
    rw [State.link_of_links hu, if_pos rfl]
    exact LinkCtl.gains_placeNotice _ _ _
  exact (ht.trans hplaced).told (Nat.succ_pos n)

/-- Settles O36: the page's count rises, or it seals; then the job is over. -/
theorem storedRecordRaisesTheCountAndSeals : Obligations.StoredRecordRaisesTheCountAndSeals := by
  intro l s j r p e x t hlane hphase hsource hp he seals
  have hid : p.id = j.page := State.id_of_page hp
  have hpage := State.page_recordStored (s := s.endTaken e) hp
  have hrisen := State.recordStored_countRisen (s := s.endTaken e) hp
  have hover := State.jobOver_eq l hpage hsource
  have hresumed := ((s.endTaken e).recordStored j.page).linksTold_resumed x t
    (u := ((s.endTaken e).recordStored j.page).jobOver l j) (by rw [hover])
  have hdisp : ((s.endTaken e).recordStored j.page).disp = s.disp := (congrArg State.disp hrisen.others :)
  have hintakes : ((s.endTaken e).recordStored j.page).intakes = s.intakes := (congrArg State.intakes hrisen.others :)
  have hintake : ((s.endTaken e).recordStored j.page).intake = s.intake := funext fun y => congrArg (Pair.get · y) hintakes
  refine ⟨_, exec_bandRecordWriteEnd hlane hphase he, ?_, ?_, ?_, ?_, ?_, ?_, ?_, ?_, fun hnot => ?_,
    fun hjobs hhold => ?_, fun hseals => ?_⟩
  · rw [hover, hdisp]
  · rw [hover, hintakes, hintake]
  · rw [hover]
    exact hrisen.tableEnds
  · rw [hover]
    exact (congrArg State.map hrisen.others :)
  · rw [hover]
    exact (congrArg State.adm hrisen.others :)
  · rw [hover]
    exact (congrArg State.ctl hrisen.others :)
  · rw [hover]
    exact (congrArg (fun t : State => t.dir.profiles) hrisen.others :)
  · rw [hover]
    exact (congrArg State.still hrisen.others :)
  · have hpages := pagesWith_pagesWith p.id (f := Page.counted) (fun q => { q with work := q.work - 1 })
      (fun _ => rfl) s.dir.pages
    rw [hover, if_neg hnot, State.recordStored_of_not_seals (s := s.endTaken e) hp hnot, State.modPage_eq, ← hid]
    exact ⟨hpages, rfl, rfl, rfl⟩
  · obtain ⟨n, hn⟩ := hrisen.gains x (.notice .resume)
    exact State.resumed_told (s := s.endTaken e) hn (congrFun hintake x) (by rw [hover]) hjobs hhold
  · have hsealed := State.sealPage_sealed ((s.endTaken e).modPage j.page Page.counted) p.counted
    rw [← State.recordStored_of_seals (s := s.endTaken e) hp hseals] at hsealed
    refine ⟨?_, fun hplace => ?_, fun y => ?_, ?_⟩
    · rw [if_pos hseals] at hpage hover
      rw [hover]
      exact State.page_of_pagesWith (s := (s.endTaken e).recordStored j.page) (id := p.id)
        (f := fun q => { q with work := q.work - 1 }) (p := p.counted.sealing p.counted) rfl (fun _ => rfl) (by rw [hid]; exact hpage)
    · obtain ⟨n, hn⟩ := hresumed.gains p.origin (.notice (.pageSealed p.id))
      exact hn.holds (hsealed.told hplace)
    · rw [hresumed.streams]
      exact hsealed.streams y
    · rw [hover]
      exact hsealed.schedule

end Sys2Proof.Machine
end

section
/-!
PROOFS. READ STATUS and CLEAR STATUS (R63, R183, R184).
-/

set_option Elab.async false
namespace Sys2Proof.Machine

/-- The record reports on no receive buffer and on no reply place: taking the request changes nothing of it. -/
theorem State.status_tookAt (s : State) (x : Link) : (s.tookAt x).status x = s.status x := by
  cases x <;> rfl

theorem exec_readStatus {s : State} {x : Link} {f : Frame} (hhead : (s.link x).rx.head? = some f) (hkind : f.k = 8)
    (hlength : f.body.length = 0) (htake : s.canTake x = true) :
    exec (.readStatus x) s = .next (s.answeredAt x f (.done (.status (s.status x)))) := by
  have hmine : f.isKind ReqKind.readStatus = true := by simp [Frame.isKind, hkind, ReqKind.readStatus]
  have hexec : exec (.readStatus x) s = execReadStatus x s := rfl
  rw [hexec, execReadStatus, State.takeHead_head hhead htake hmine]
  simp only [Frame.hasLength, hlength, beq_self_eq_true, if_true, State.status_tookAt, State.reply_tookAt]

/-- A short request of the right length is served (R173). -/
theorem State.serveShort_served {s : State} {x : Link} {k : Nat} {f : Frame} {ok : Frame → Bool}
    {g : Frame → State → State} (h : s.offers x k f = true) (hok : ok f = true) :
    s.serveShort x (Frame.isKind k) ok g = g f (s.tookAt x) := by
  rw [State.serveShort_offers h (Frame.isKind_of_offers h), if_pos hok]

theorem exec_clearStatus {s : State} {x : Link} {f : Frame} (h : s.offers x 9 f = true) (hlength : f.body.length = 0) :
    exec (.clearStatus x) s =
      .next { s with
        links := s.links.set x
          ((s.link x).took.clearStatus.place (.reply f.k f.tag (.done (.status (s.status x))))) } := by
  have hok : f.hasLength 0 = true := by simp [Frame.hasLength, hlength]
  refine congrArg Host.Outcome.next ((State.serveShort_served h hok).trans ?_)
  rw [State.serveClearStatus, State.status_tookAt]
  cases x <;> rfl

/-- Settles O14: the record as it stood, in the reply to either request. -/
theorem statusIsReportedAndCleared : Obligations.StatusIsReportedAndCleared := by
  intro x s f r
  have hstatus : s.status x = r := by
    simp only [State.status, State.intakeNext, r]
    congr 1
    cases (s.intake x).page with
    | none => rfl
    | some id => cases hp : s.page id <;> simp only [hp] <;> rfl
  refine ⟨fun hhead hkind hlength htake => ?_, fun hoffers hlength => ?_⟩
  · rw [← hstatus]
    exact exec_readStatus hhead hkind hlength htake
  · rw [exec_clearStatus hoffers hlength, hstatus, State.kind_of_offers hoffers]
    rfl

end Sys2Proof.Machine
end

section
/-!
PROOFS. PIXELS (R48 to R52): the frame that waits, the checks in order, and the frame that is taken.
-/

set_option Elab.async false
namespace Sys2Proof.Machine

/-! ## The command (R48) -/

theorem exec_pixels {s : State} {x : Link} {f : Frame} (h : s.offers x 2 f = true) (hpart : 8 ≤ f.body.length) :
    exec (.pixels x) s = .next ((s.tookAt x).servePixels x f).arbitrate := by
  have hok : f.hasPixelsPart = true := by simpa [Frame.hasPixelsPart] using hpart
  exact congrArg (fun t : State => Host.Outcome.next t.arbitrate) (State.serveShort_served h hok)

/-- A frame is checked where none is being written and none waits. -/
theorem State.servePixels_of_free {s : State} {x : Link} (f : Frame) (hframe : (s.intake x).frame = none)
    (hwaiting : (s.intake x).waiting = []) : s.servePixels x f = s.checkPixels x f.tag f.body := by
  simp [State.servePixels, hframe, hwaiting]

theorem State.servePixels_of_busy {s : State} {x : Link} (f : Frame)
    (h : (s.intake x).frame ≠ none ∨ (s.intake x).waiting ≠ []) :
    s.servePixels x f = s.modIntake x fun k => { k with waiting := k.waiting ++ [⟨f.tag, f.body⟩] } := by
  rw [State.servePixels, if_neg (by simpa [imp_iff_not_or] using h)]

/-- What the check of a frame comes to, the command PIXELS comes to. -/
theorem exec_pixels_checked {s u t : State} {x : Link} {f : Frame} {tag : Byte} {body : List Byte}
    (ht : u.checkPixels x tag body = t) (h : s.offers x 2 f = true) (hpart : 8 ≤ f.body.length)
    (hframe : (s.intake x).frame = none) (hwaiting : (s.intake x).waiting = []) (htag : f.tag = tag)
    (hbody : f.body = body) (hu : u = s.tookAt x) : exec (.pixels x) s = .next t.arbitrate := by
  subst htag hbody hu ht
  rw [exec_pixels h hpart, State.servePixels_of_free (s := s.tookAt x) f hframe hwaiting]

/-! ## The checks (R49, R50) -/

/-- The first of the checks of a PIXELS frame of a page's intake that refuses it, if one does (R49 steps 2 to 6). -/
def State.pixelsRefusal (s : State) (x : Link) (p : Page) (q : PixelFields) : Option Refuse :=
  let hb := (s.profileOf p).hb
  let band := pixelBand p.w hb q.offset
  let last := pixelBand p.w hb (q.offset + q.count - 1)
  if p.state ≠ .filling ∨ (s.intake x).page ≠ some p.id then some .pageState
  else if q.count = 0 then none
  else if p.nextPixel ≠ some q.offset then some .outOfOrder
  else if p.w * p.ht < q.offset + q.count ∨ q.bytes.length ≠ 2 * p.c * q.count ∨ band + 1 < last then some .badRequest
  else if (s.intake x).slotsTake p.id band (decide (band < last)) = true then none
  else some .held

theorem Intake.slotsTake_iff (k : Intake) (page band : Nat) (beyond : Prop) [Decidable beyond] :
    k.slotsTake page band (decide beyond) = true ↔
      ((k.slots.get k.fill).state = .empty ∨ ((k.slots.get k.fill).state = .filling ∧
        (k.slots.get k.fill).page = some page ∧ (k.slots.get k.fill).band = some band)) ∧
      (beyond → (k.slots.get k.fill.other).state = .empty) := by
  simp [Intake.slotsTake, and_assoc, imp_iff_not_or]

theorem State.checkPixels_of_noPage {s : State} {x : Link} {tag : Byte} {body : List Byte}
    (hp : s.page (field 0 2 body) = none) : s.checkPixels x tag body = s.refusePixels x tag .noPage := by
  have hpage : s.page (PixelFields.of body).page = none := hp
  simp only [State.checkPixels, hpage]

/-- A PIXELS frame by its checks: refused, or no pixels, or taken. -/
theorem State.checkPixels_of_page {s : State} {x : Link} {tag : Byte} {body : List Byte} {p : Page}
    (hp : s.page (field 0 2 body) = some p) :
    s.checkPixels x tag body = (s.pixelsRefusal x p (.of body)).elim
      (if field 6 2 body = 0 then (s.freeReplyPlace x).failPage p.id .intakeAborted
        else s.takePixels x p (.of body))
      (s.refusePixels x tag) := by
  have hpage : s.page (PixelFields.of body).page = some p := hp
  have hcount : (PixelFields.of body).count = field 6 2 body := rfl
  simp only [State.checkPixels, hpage, State.pixelsRefusal, hcount]
  split_ifs <;> rfl

/-- Settles O39: the frame waits or is checked, and the check refuses it by the first condition that fails. -/
theorem pixelsWaitOrAreRefusedInOrder : Obligations.PixelsWaitOrAreRefusedInOrder := by
  refine ⟨fun x s f hoffers hpart => ⟨fun hbusy => ?_, fun hframe hwaiting => ?_⟩, fun x u tag body r => ?_⟩
  · rw [exec_pixels hoffers hpart, State.servePixels_of_busy (s := s.tookAt x) f hbusy]
    rfl
  · exact exec_pixels_checked rfl hoffers hpart hframe hwaiting rfl rfl rfl
  · intro k offset count h
    have hchecked : u.checkPixels x tag body = u.refusePixels x tag r := by
      cases hp : u.page (field 0 2 body) with
      | none =>
        simp only [hp, Option.some.injEq] at h
        rw [State.checkPixels_of_noPage hp, h]
      | some p =>
        have hrefusal : u.pixelsRefusal x p (.of body) = some r := by
          simp only [hp] at h
          simp only [State.pixelsRefusal, Intake.slotsTake_iff]
          exact h
        rw [State.checkPixels_of_page hp, hrefusal, Option.elim_some]
    refine ⟨hchecked, fun s f hoffers hpart hframe hwaiting htag hbody hu => ?_⟩
    rw [exec_pixels_checked hchecked hoffers hpart hframe hwaiting htag hbody hu, ← State.reply_tookAt, State.reply,
      State.kind_of_offers hoffers, htag, hu]
    rfl

/-! ## The frame taken (R49 step 7, R51, R52) -/

theorem bandEnd_eq (w ht hb i : Nat) : bandEnd w ht hb i = (i * hb + bandRows ht hb i) * w :=
  (Nat.add_mul _ _ _).symm

theorem State.takePixels_eq (s : State) (x : Link) (p : Page) (q : PixelFields) :
    let k := s.intake x
    let pr := s.profileOf p
    let band := pixelBand p.w pr.hb q.offset
    let values := containers p.order q.bytes
    s.takePixels x p q = { s with
      links := s.links.set x { s.link x with replyUse := (s.link x).replyUse - 1 }
      intakes := s.intakes.set x { k with
        frame := some {
          page := p.id, offset := q.offset, count := q.count, void := false
          clamped := (values.filter fun v => decide (maxVal pr.d < v)).length
          writes := frameWrites x k.fill p.c (q.offset - bandStart p.w pr.hb band)
            (min q.count (bandEnd p.w p.ht pr.hb band - q.offset)) (values.map (min (maxVal pr.d))) q.count } } } :=
  rfl

/-- Settles O40: the checks pass, and the frame is taken; or the page fails with the frame of no pixels. -/
theorem pixelsAreTakenAndWritten : Obligations.PixelsAreTakenAndWritten := by
  intro x u tag body p hp hfilling hintake k offset count pr band last values freed becomes
  have becomes_of : ∀ t, u.checkPixels x tag body = t → becomes t := fun t ht =>
    ⟨ht, fun s f => exec_pixels_checked ht⟩
  refine ⟨fun hzero => becomes_of _ ?_, fun hcount hnext hfits hlength hlast hfill hother => becomes_of _ ?_⟩
  · have hpasses : u.pixelsRefusal x p (.of body) = none := by
      rw [State.pixelsRefusal, if_neg (by simp [hfilling, hintake])]
      exact if_pos hzero
    rw [State.checkPixels_of_page hp, hpasses, Option.elim_none]
    exact if_pos hzero
  · have htakes : (u.intake x).slotsTake p.id band (decide (band < last)) = true :=
      (Intake.slotsTake_iff _ _ _ _).2 ⟨hfill, hother⟩
    have hpasses : u.pixelsRefusal x p (.of body) = none := by
      rw [State.pixelsRefusal, if_neg (by simp [hfilling, hintake])]
      refine (if_neg hcount.ne').trans ((if_neg (not_not.2 hnext)).trans ((if_neg ?_).trans (if_pos htakes)))
      exact not_or.2 ⟨hfits.not_gt, not_or.2 ⟨not_not.2 hlength, hlast.not_gt⟩⟩
    rw [State.checkPixels_of_page hp, hpasses, Option.elim_none]
    refine (if_neg hcount.ne').trans ?_
    rw [State.takePixels_eq, bandEnd_eq]
    rfl

end Sys2Proof.Machine
end

section
/-!
PROOFS. The writes of a PIXELS frame (R51): the byte mask and the words of a burst, the bursts of a plane, and the
writes of all components.
-/

set_option Elab.async false
namespace Sys2Proof.Machine

/-! ## The mask of a burst -/

/-- The mask bits that the samples `0` to `n - 1` of a burst set, each sample two bits, the earlier of two in the upper
half. -/
def sampleMask (given : Nat → Prop) [DecidablePred given] (n : Nat) : Nat :=
  (List.range n).foldl (fun m i => if given i then m + (if i % 2 = 0 then 12 else 3) * 2 ^ (4 * (i / 2)) else m) 0

/-- The mask of two samples, the upper half's and the lower half's. -/
def pairMask (upper lower : Bool) : Nat := 12 * upper.toNat + 3 * lower.toNat

theorem pairMask_lt : ∀ upper lower, pairMask upper lower < 16 := by
  decide

theorem testBit_pairMask_low : ∀ i < 4, ∀ upper lower,
    (pairMask upper lower).testBit i = if i < 2 then lower else upper := by
  decide

theorem sampleMask_two_mul_succ (given : Nat → Prop) [DecidablePred given] (n : Nat) :
    sampleMask given (2 * (n + 1)) =
      2 ^ (4 * n) * pairMask (given (2 * n)) (given (2 * n + 1)) + sampleMask given (2 * n) := by
  have heven : 2 * n % 2 = 0 ∧ 2 * n / 2 = n := by omega
  have hodd : (2 * n + 1) % 2 ≠ 0 ∧ (2 * n + 1) / 2 = n := by omega
  rw [Nat.mul_succ]
  simp only [sampleMask, pairMask, List.range_succ, List.foldl_append, List.foldl_cons, List.foldl_nil, heven, hodd,
    if_true, if_false]
  split_ifs with hupper hlower hlower <;> simp only [hupper, hlower, decide_true, decide_false, Bool.toNat_true,
    Bool.toNat_false] <;> ring

theorem sampleMask_lt (given : Nat → Prop) [DecidablePred given] (n : Nat) :
    sampleMask given (2 * n) < 2 ^ (4 * n) := by
  induction n with
  | zero => simp [sampleMask]
  | succ n ih =>
    have hpair := Nat.le_of_lt_succ (pairMask_lt (given (2 * n)) (given (2 * n + 1)))
    rw [sampleMask_two_mul_succ, Nat.mul_succ, Nat.pow_add]
    have := Nat.mul_le_mul_left (2 ^ (4 * n)) hpair
    omega

/-- The sample of a burst to which a byte belongs: four bytes hold two samples, the earlier in the upper half (R51). -/
def sampleOfByte (b : Nat) : Nat := 2 * (b / 4) + if b % 4 < 2 then 1 else 0

theorem testBit_sampleMask (given : Nat → Prop) [DecidablePred given] (n b : Nat) :
    (sampleMask given (2 * n)).testBit b = true ↔ b < 4 * n ∧ given (sampleOfByte b) := by
  induction n with
  | zero => simp [sampleMask]
  | succ n ih =>
    rw [sampleMask_two_mul_succ, Nat.testBit_two_pow_mul_add _ (sampleMask_lt given n)]
    split_ifs with hb
    · have : b < 4 * (n + 1) := by omega
      simp only [ih, hb, this]
    · rcases Nat.lt_or_ge b (4 * (n + 1)) with hin | hpast
      · rw [testBit_pairMask_low _ (by omega)]
        split_ifs with hlow
        · have hsample : sampleOfByte b = 2 * n + 1 := by
            unfold sampleOfByte
            split_ifs <;> omega
          simp [hin, hsample]
        · have hsample : sampleOfByte b = 2 * n := by
            unfold sampleOfByte
            split_ifs <;> omega
          simp [hin, hsample]
      · have hhigh : pairMask (given (2 * n)) (given (2 * n + 1)) < 2 ^ (b - 4 * n) :=
          (pairMask_lt _ _).trans_le (Nat.pow_le_pow_right Nat.two_pos (show 4 ≤ b - 4 * n by omega))
        simp [Nat.testBit_lt_two_pow hhigh, hpast.not_gt]

/-! ## One burst of a plane -/

section Plane
variable (base a : Nat) (vals : List Nat)

/-- A burst leaves out the bytes of the samples that the frame does not give. -/
theorem planeBurst_mask (t : Nat) {b : Nat} (hb : b < 32) :
    (planeBurst base a vals t).mask.getLsbD b = true ↔
      a ≤ 16 * t + sampleOfByte b ∧ 16 * t + sampleOfByte b < a + vals.length := by
  have hmask : (planeBurst base a vals t).mask =
      BitVec.ofNat 32 (sampleMask (fun i => a ≤ 16 * t + i ∧ 16 * t + i < a + vals.length) (2 * 8)) := rfl
  rw [hmask, BitVec.getLsbD_ofNat, Bool.and_eq_true, testBit_sampleMask]
  simp [hb]

/-- The sample that stands at a place of a burst's words: the earlier of two in the upper half. -/
def SlotWrite.sampleAt (w : SlotWrite) (i : Nat) : Nat :=
  ((w.data.getD (i / 2) 0).toNat / (if i % 2 = 0 then 65536 else 1)) % 65536

/-- The sample that the bursts of a plane carry at an index: 0 before the first that the frame gives. -/
def planeSample (m : Nat) : Nat := if a ≤ m then vals.getD (m - a) 0 % 65536 else 0

theorem planeSample_lt (m : Nat) : planeSample a vals m < 65536 := by
  unfold planeSample
  split_ifs <;> omega

theorem planeBurst_word (t : Nat) {i : Nat} (hi : i < 8) :
    ((planeBurst base a vals t).data.getD i 0).toNat =
      planeSample a vals (16 * t + 2 * i) * 65536 + planeSample a vals (16 * t + 2 * i + 1) := by
  have hword : (planeBurst base a vals t).data.getD i 0 = BitVec.ofNat 32
      (planeSample a vals (16 * t + 2 * i) * 65536 + planeSample a vals (16 * t + 2 * i + 1)) := by
    rw [List.getD_eq_getElem?_getD, planeBurst, List.getElem?_map, List.getElem?_range hi]
    rfl
  have hupper := planeSample_lt a vals (16 * t + 2 * i)
  have hlower := planeSample_lt a vals (16 * t + 2 * i + 1)
  rw [hword, BitVec.toNat_ofNat, Nat.mod_eq_of_lt (by omega)]

theorem planeBurst_sampleAt (t : Nat) {i : Nat} (hi : i < 16) :
    (planeBurst base a vals t).sampleAt i = planeSample a vals (16 * t + i) := by
  have hupper := planeSample_lt a vals (16 * t + 2 * (i / 2))
  have hlower := planeSample_lt a vals (16 * t + 2 * (i / 2) + 1)
  rw [SlotWrite.sampleAt, planeBurst_word base a vals t (by omega)]
  split_ifs with heven
  · rw [show 16 * t + i = 16 * t + 2 * (i / 2) by omega]
    omega
  · rw [show 16 * t + i = 16 * t + 2 * (i / 2) + 1 by omega]
    omega

/-! ## The bursts of a plane -/

theorem mem_planeWrites {w : SlotWrite} (h : w ∈ planeWrites base a vals) : ∃ t, w = planeBurst base a vals t := by
  unfold planeWrites at h
  split_ifs at h
  · cases h
  · obtain ⟨t, -, rfl⟩ := List.mem_map.1 h
    exact ⟨t, rfl⟩

theorem planeBurst_mem_planeWrites {k : Nat} (hk : k < vals.length) :
    planeBurst base a vals ((a + k) / 16) ∈ planeWrites base a vals := by
  have hne : vals.isEmpty = false := by
    cases vals with
    | nil => cases hk
    | cons => rfl
  rw [planeWrites, hne, if_neg Bool.false_ne_true]
  refine List.mem_map_of_mem (List.mem_range'_1.2 ?_)
  omega

/-- The burst gives the sample `v` at place `i` of its words, unmasked. -/
def SlotWrite.gives (w : SlotWrite) (i v : Nat) : Prop :=
  w.mask.getLsbD (4 * (i / 2) + (if i % 2 = 0 then 2 else 0)) = true ∧
    w.mask.getLsbD (4 * (i / 2) + (if i % 2 = 0 then 3 else 1)) = true ∧ w.sampleAt i = v

theorem planeWrites_gives (hvals : ∀ v ∈ vals, v < 65536) {k : Nat} (hk : k < vals.length) :
    ∃ w ∈ planeWrites base a vals, ∃ i < 16, 2 * w.addr + i = 2 * base + (a + k) ∧ w.gives i (vals.getD k 0) := by
  have hi : (a + k) % 16 < 16 := Nat.mod_lt _ (by decide)
  have hplace : 16 * ((a + k) / 16) + (a + k) % 16 = a + k := Nat.div_add_mod _ _
  refine ⟨_, planeBurst_mem_planeWrites base a vals hk, (a + k) % 16, hi, ?_, ?_, ?_, ?_⟩
  · simp only [planeBurst]
    omega
  · rw [planeBurst_mask _ _ _ _ (by split_ifs <;> omega)]
    unfold sampleOfByte
    split_ifs <;> omega
  · rw [planeBurst_mask _ _ _ _ (by split_ifs <;> omega)]
    unfold sampleOfByte
    split_ifs <;> omega
  · rw [planeBurst_sampleAt base a vals _ hi, hplace, planeSample, if_pos (Nat.le_add_right a k),
      Nat.add_sub_cancel_left, List.getD_eq_getElem _ _ hk]
    exact Nat.mod_eq_of_lt (hvals _ (List.getElem_mem hk))

theorem planeWrites_only {w : SlotWrite} (hw : w ∈ planeWrites base a vals) {b : Nat} (hb : b < 32)
    (hmask : w.mask.getLsbD b = true) : ∃ k < vals.length, 2 * w.addr + sampleOfByte b = 2 * base + (a + k) := by
  obtain ⟨t, rfl⟩ := mem_planeWrites base a vals hw
  obtain ⟨hfrom, hto⟩ := (planeBurst_mask base a vals t hb).1 hmask
  refine ⟨16 * t + sampleOfByte b - a, by omega, ?_⟩
  simp only [planeBurst]
  omega

end Plane

/-! ## The writes of all components -/

theorem mem_frameWrites {x : Link} {fill : SlotId} {c a n count : Nat} {vals : List Nat} {w : SlotWrite} :
    w ∈ frameWrites x fill c a n vals count ↔ ∃ j < c,
      w ∈ planeWrites (planeBase x fill j) a ((componentSamples c j vals count).take n) ∨
      w ∈ planeWrites (planeBase x fill.other j) 0 ((componentSamples c j vals count).drop n) := by
  simp only [frameWrites, List.mem_flatMap, List.mem_range, List.mem_append]

theorem planeBase_eq (x : Link) (t : SlotId) (j : Nat) :
    planeBase x t j =
      16384 * ((match x with | .a => 0 | .b => 128) + (match t with | .s0 => 0 | .s1 => 64) + 16 * j) := by
  cases x <;> cases t <;> simp only [planeBase, linkCode, Config.extentWords] <;> omega

/-- The samples of a component, by their place in the frame. -/
theorem componentSamples_getElem? (c j : Nat) (vals : List Nat) {k count : Nat} (hk : k < count) :
    (componentSamples c j vals count)[k]? = some (vals.getD (k * c + j) 0) := by
  rw [componentSamples, List.getElem?_map, List.getElem?_range hk]
  rfl

/-- The writes of a component give every sample of it, the first `n` to the fill slot and the rest to the other. -/
theorem frameWrites_gives (x : Link) (fill : SlotId) {c n count : Nat} (a : Nat) {vals : List Nat} (hn : n ≤ count)
    (hvals : ∀ v ∈ vals, v < 65536) {j k : Nat} (hj : j < c) (hk : k < count) :
    ∃ w ∈ frameWrites x fill c a n vals count, ∃ i < 16,
      2 * w.addr + i = 2 * planeBase x (if k < n then fill else fill.other) j + (if k < n then a + k else k - n) ∧
        w.gives i (vals.getD (k * c + j) 0) := by
  have hsample := componentSamples_getElem? c j vals hk
  have hlength : (componentSamples c j vals count).length = count := by simp [componentSamples]
  have hsmall : ∀ v ∈ componentSamples c j vals count, v < 65536 := by
    intro v hv
    obtain ⟨m, -, rfl⟩ := List.mem_map.1 hv
    exact Nat.lt_succ_of_le (getD_le (fun v hv => Nat.le_of_lt_succ (hvals v hv)) _)
  split_ifs with hfirst
  · obtain ⟨w, hw, i, hi, hplace, hgives⟩ := planeWrites_gives (planeBase x fill j) a
      ((componentSamples c j vals count).take n) (fun v hv => hsmall v (List.mem_of_mem_take hv))
      (k := k) (by rw [List.length_take]; omega)
    refine ⟨w, mem_frameWrites.2 ⟨j, hj, .inl hw⟩, i, hi, hplace, ?_⟩
    rwa [List.getD_eq_getElem?_getD, List.getElem?_take_of_lt hfirst, hsample] at hgives
  · obtain ⟨w, hw, i, hi, hplace, hgives⟩ := planeWrites_gives (planeBase x fill.other j) 0
      ((componentSamples c j vals count).drop n) (fun v hv => hsmall v (List.mem_of_mem_drop hv))
      (k := k - n) (by rw [List.length_drop]; omega)
    refine ⟨w, mem_frameWrites.2 ⟨j, hj, .inr hw⟩, i, hi, by omega, ?_⟩
    rwa [List.getD_eq_getElem?_getD, List.getElem?_drop, Nat.add_sub_cancel' (not_lt.1 hfirst), hsample] at hgives

/-- Every byte written belongs to a sample of the frame. -/
theorem frameWrites_only {x : Link} {fill : SlotId} {c a n count : Nat} {vals : List Nat} (hn : n ≤ count)
    {w : SlotWrite} (hw : w ∈ frameWrites x fill c a n vals count) {b : Nat} (hb : b < 32)
    (hmask : w.mask.getLsbD b = true) : ∃ j < c, ∃ k < count,
      2 * w.addr + sampleOfByte b =
        2 * planeBase x (if k < n then fill else fill.other) j + (if k < n then a + k else k - n) := by
  obtain ⟨j, hj, hw | hw⟩ := mem_frameWrites.1 hw
  · obtain ⟨k, hk, hplace⟩ := planeWrites_only _ _ _ hw hb hmask
    rw [List.length_take, componentSamples, List.length_map, List.length_range] at hk
    refine ⟨j, hj, k, by omega, ?_⟩
    rwa [if_pos (by omega), if_pos (by omega)]
  · obtain ⟨k, hk, hplace⟩ := planeWrites_only _ _ _ hw hb hmask
    rw [List.length_drop, componentSamples, List.length_map, List.length_range] at hk
    refine ⟨j, hj, n + k, by omega, ?_⟩
    rw [if_neg (by omega), if_neg (by omega)]
    omega

/-- Settles O41: every sample by the burst that gives it, every byte written by the sample to which it belongs. -/
theorem frameWritesPlaceEverySample : Obligations.FrameWritesPlaceEverySample := by
  intro x fill c a n count vals hn hvals base slot at_
  have hbase : ∀ t j, base t j = planeBase x t j := fun t j => (planeBase_eq x t j).symm
  refine ⟨fun j k hj hk => ?_, fun w hw b hb hmask => ?_⟩
  · rw [hbase]
    exact frameWrites_gives x fill a hn hvals hj hk
  · obtain ⟨j, hj, k, hk, hplace⟩ := frameWrites_only hn hw hb hmask
    refine ⟨j, k, hj, hk, ?_⟩
    rw [hbase]
    exact (Nat.add_assoc _ _ _).trans hplace

end Sys2Proof.Machine
end

section
/-!
PROOFS. The ENCODE jobs of a band that is complete (R78, R80, R82, R85): what the dispatcher is after each is handed
over in a state in which no job waits for an idle lane.
-/

set_option Elab.async false
namespace Sys2Proof.Machine

theorem Slots.get_set {α : Type} (p : Slots α) (t u : SlotId) (v : α) :
    (p.set t v).get u = if u = t then v else p.get u := by
  cases t <;> cases u <;> rfl

theorem Four.set_get_self {α : Type} (p : Four α) (l : Lane) : p.set l (p.get l) = p := by
  cases l <;> rfl

theorem Four.set_set {α : Type} (p : Four α) (l : Lane) (v w : α) : (p.set l v).set l w = p.set l w := by
  cases l <;> rfl

/-! ## Jobs held and idle lanes -/

theorem Dispatcher.mem_allPending {d : Dispatcher} {j : Job} :
    j ∈ d.allPending ↔ ∃ y u, j ∈ (d.pendings.get y).get u := by
  constructor
  · simp only [Dispatcher.allPending, Dispatcher.pending, List.mem_append]
    rintro (((h | h) | h) | h)
    exacts [⟨.a, .s0, h⟩, ⟨.a, .s1, h⟩, ⟨.b, .s0, h⟩, ⟨.b, .s1, h⟩]
  · rintro ⟨y, u, h⟩
    cases y <;> cases u <;> simp [Dispatcher.allPending, Dispatcher.pending, h]

theorem Dispatcher.holds_iff {d : Dispatcher} {j : Job} :
    d.holds j = true ↔
      ((∃ l, j ∈ d.queues.get l) ∨ ∃ y u, j ∈ (d.pendings.get y).get u) ∨ ∃ l, (d.lanes.get l).job = some j := by
  rw [← Dispatcher.mem_waiting]
  have hlane : (∃ l ∈ allLanes, (d.lanes.get l).job = some j) ↔ ∃ l, (d.lanes.get l).job = some j :=
    ⟨fun ⟨l, _, h⟩ => ⟨l, h⟩, fun ⟨l, h⟩ => ⟨l, by cases l <;> simp [allLanes], h⟩⟩
  simp [Dispatcher.holds, hlane]

/-- No job waits for an idle lane (R84, R85). -/
theorem State.lanesTaken_iff {s : State} :
    s.lanesTaken = true ↔ ∀ l, s.lane l = .idle →
      s.disp.queues.get l = [] ∧ ∀ y u, ∀ j ∈ (s.disp.pendings.get y).get u, j.lane ≠ l := by
  have hlane : s.lanesTaken = true ↔ ∀ l, s.lane l = .idle →
      s.disp.queues.get l = [] ∧ ∀ j ∈ s.disp.allPending, j.lane ≠ l := by
    simp only [State.lanesTaken, allLanes, List.all_cons, List.all_nil, Bool.and_true, Bool.and_eq_true,
      Bool.or_eq_true, bne_iff_ne, List.isEmpty_iff, List.all_eq_true, ← imp_iff_not_or]
    exact ⟨fun ⟨h0, h1, h2, h3⟩ l => by cases l <;> assumption, fun h => ⟨h .l0, h .l1, h .l2, h .l3⟩⟩
  simp only [hlane, Dispatcher.mem_allPending]
  exact forall₂_congr fun l _ => and_congr_right fun _ =>
    ⟨fun h y u j hj => h j ⟨y, u, hj⟩, fun h j ⟨y, u, hj⟩ => h y u j hj⟩

/-! ## One job handed over (R82, R85) -/

/-- The dispatcher after it has taken an ENCODE job of a slot: an idle lane runs it, else it waits in its lane's queue,
or behind a full one in the slot's pending-issue list. -/
def Dispatcher.issue (x : Link) (t : SlotId) (j : Job) (run : EncodeRun) (d : Dispatcher) : Dispatcher :=
  if d.lanes.get j.lane = .idle then
    { d with nextArrival := d.nextArrival + 1, lanes := d.lanes.set j.lane (.encoding j run) }
  else if (d.queues.get j.lane).length < 8 then
    { d with nextArrival := d.nextArrival + 1, queues := d.queues.set j.lane (d.queues.get j.lane ++ [j]) }
  else
    { d with
      nextArrival := d.nextArrival + 1
      pendings := d.pendings.set x ((d.pendings.get x).set t ((d.pendings.get x).get t ++ [j])) }

/-- The ENCODE job of a band-component as the dispatcher takes it (R78). -/
def State.encodeJob (s : State) (p : Page) (band : Nat) (x : Link) (t : SlotId) (comp : Nat) : Job :=
  ⟨p.id, band, comp, p.cls, .slot x t, s.disp.destined p.id band comp, s.disp.nextArrival⟩

/-- The state in which a job that has just come waits in a queue (R82). -/
def State.jobQueued (s : State) (l : Lane) (j : Job) : State :=
  { s with disp := { s.disp with
      nextArrival := s.disp.nextArrival + 1, queues := s.disp.queues.set l (s.disp.queues.get l ++ [j]) } }

/-- The record of a page of which a lane has begun one more job. -/
def Page.begun (q : Page) : Page := { q with work := q.work + 1 }

/-- An idle lane begins the job that comes to its empty queue, and no pending job is moved (R84, R85, R87). -/
theorem State.laneTake_jobQueued {s : State} {l : Lane} {j : Job} {x : Link} {t : SlotId} (hidle : s.lane l = .idle)
    (hempty : s.disp.queues.get l = []) (hpending : ∀ k ∈ s.disp.allPending, k.lane ≠ l)
    (hsource : j.source = .slot x t) :
    (s.jobQueued l j).laneTake l = { s with
      disp := { s.disp with
        nextArrival := s.disp.nextArrival + 1, lanes := s.disp.lanes.set l (.encoding j (s.newRun j)) }
      dir := { s.dir with pages := pagesWith j.page Page.begun s.dir.pages } } := by
  have hqueue : (s.jobQueued l j).disp.queues.get l = [j] := by
    simp [State.jobQueued, hempty]
  have hbegun : ((s.jobQueued l j).withoutJob l j).startJob l j =
      (s.jobQueued l j).jobBegun l j (.encoding j (s.newRun j)) := by
    simp only [State.startJob, hsource]
    rfl
  have hqueues : s.disp.queues.set l [] = s.disp.queues := by
    rw [← hempty, Four.set_get_self]
  have hmoved : ((s.jobQueued l j).jobBegun l j (.encoding j (s.newRun j))).movePending l =
      (s.jobQueued l j).jobBegun l j (.encoding j (s.newRun j)) := State.movePending_of_none hpending
  have hfirst : firstJob Job.ahead ((s.jobQueued l j).disp.queues.get l) = some j := by
    rw [hqueue]
    rfl
  rw [State.laneTake_of_first (s := s.jobQueued l j) hidle hfirst, hbegun, hmoved, State.jobBegun, hqueue]
  simp only [State.jobQueued, Four.set_set, List.filter_cons, List.filter_nil, bne_self_eq_false, Bool.false_eq_true,
    if_false, hqueues]
  rfl

/-- The state after the dispatcher has taken an ENCODE job: the page's work in flight rises where a lane begins it. -/
theorem State.dispatchEncode_eq {s : State} (h : s.lanesTaken = true) (p : Page) (band : Nat) (x : Link) (t : SlotId)
    (comp : Nat) :
    let j := s.encodeJob p band x t comp
    s.dispatchEncode p band x t comp = { s with
      disp := s.disp.issue x t j (s.newRun j)
      dir := { s.dir with
        pages := if s.lane j.lane = .idle then pagesWith p.id Page.begun s.dir.pages else s.dir.pages } } := by
  intro j
  have hqueued : (s.disp.queues.get j.lane).length < 8 →
      s.dispatchEncode p band x t comp = (s.jobQueued j.lane j).laneTake j.lane := State.dispatchEncode_of_room
  by_cases hidle : s.lane j.lane = .idle
  · obtain ⟨hempty, hpending⟩ := State.lanesTaken_iff.1 h _ hidle
    have hidle' : s.disp.lanes.get j.lane = .idle := hidle
    rw [hqueued (by rw [hempty]; decide), State.laneTake_jobQueued hidle hempty _ rfl, if_pos hidle, Dispatcher.issue,
      if_pos hidle']
    · rfl
    · exact fun k hk => let ⟨y, u, hk⟩ := Dispatcher.mem_allPending.1 hk; hpending y u k hk
  · have hbusy : ¬ s.disp.lanes.get j.lane = .idle := hidle
    rw [if_neg hidle, Dispatcher.issue, if_neg hbusy]
    rcases Nat.lt_or_ge (s.disp.queues.get j.lane).length 8 with hroom | hfull
    · rw [if_pos hroom, hqueued hroom, State.laneTake_of_busy (s := s.jobQueued j.lane j) hidle]
      rfl
    · rw [if_neg (not_lt.2 hfull)]
      exact State.dispatchEncode_of_full hfull

/-! ## What the taking of a job keeps -/

section Issue
variable {x : Link} {t : SlotId} {j : Job} {run : EncodeRun} {d : Dispatcher}

/-- A job is in the dispatcher: it waits, or a lane runs it. -/
theorem Dispatcher.issue_holds : (d.issue x t j run).holds j = true := by
  rw [Dispatcher.holds_iff]
  unfold Dispatcher.issue
  split_ifs
  · exact .inr ⟨j.lane, by simp [LaneState.job]⟩
  · exact .inl (.inl ⟨j.lane, by simp⟩)
  · exact .inl (.inr ⟨x, t, by simp⟩)

theorem Dispatcher.issue_keeps {b : Job} (h : d.holds b = true) : (d.issue x t j run).holds b = true := by
  rw [Dispatcher.holds_iff] at h ⊢
  unfold Dispatcher.issue
  split_ifs with hidle hroom
  · refine h.imp_right fun ⟨l, hl⟩ => ⟨l, ?_⟩
    have hne : l ≠ j.lane := by
      rintro rfl
      simp [hidle, LaneState.job] at hl
    rwa [Four.get_set_ne _ _ hne]
  · refine h.imp_left (Or.imp_left fun ⟨l, hl⟩ => ⟨l, ?_⟩)
    by_cases hlane : l = j.lane
    · subst hlane
      simp [hl]
    · rwa [Four.get_set_ne _ _ hlane]
  · refine h.imp_left (Or.imp_right fun ⟨y, u, hb⟩ => ⟨y, u, ?_⟩)
    rw [Pair.get_set]
    split_ifs with hyx
    · subst hyx
      rw [Slots.get_set]
      split_ifs with hut
      · subst hut
        exact List.mem_append_left _ hb
      · exact hb
    · exact hb

end Issue

/-- The jobs that come leave no job waiting for an idle lane (R85). -/
theorem State.lanesTaken_of_issue {s u : State} {x : Link} {t : SlotId} {j : Job} {run : EncodeRun}
    (h : s.lanesTaken = true) (hu : u.disp = s.disp.issue x t j run) : u.lanesTaken = true := by
  rw [State.lanesTaken_iff] at h ⊢
  intro l hidle
  have hidle : (s.disp.issue x t j run).lanes.get l = .idle := hu ▸ hidle
  rw [hu]
  unfold Dispatcher.issue at hidle ⊢
  split_ifs at hidle ⊢ with hlane hroom
  · have hne : l ≠ j.lane := by
      rintro rfl
      simp at hidle
    exact h l ((Four.get_set_ne _ _ hne).symm.trans hidle)
  · have hne : l ≠ j.lane := by
      rintro rfl
      exact hlane hidle
    rw [Four.get_set_ne _ _ hne]
    exact h l hidle
  · refine ⟨(h l hidle).1, fun y u b hb => ?_⟩
    rw [Pair.get_set] at hb
    split_ifs at hb with hyx
    · rw [Slots.get_set] at hb
      split_ifs at hb with hut
      · rcases List.mem_append.1 hb with hb | hb
        · exact (h l hidle).2 x t b hb
        · rw [List.mem_singleton.1 hb]
          rintro rfl
          exact hlane hidle
      · exact (h l hidle).2 x u b hb
    · exact (h l hidle).2 y u b hb

/-! ## The jobs of a band (R55, R78) -/

/-- A state that has come from another by ENCODE jobs of a page handed over, at most `n` of them begun: the dispatcher
and the page's work in flight alone have changed, by the same table, and every job there was is still there. -/
structure State.JobsIssued (id n : Nat) (s t : State) : Prop where
  others : t = { s with disp := t.disp, dir := { s.dir with pages := t.dir.pages } }
  page : ∃ m ≤ n, ∀ p, s.page id = some p → t.page id = some { p with work := p.work + m }
  taken : t.lanesTaken = true
  destined : t.disp.destined = s.disp.destined
  keeps : ∀ b, s.disp.holds b = true → t.disp.holds b = true

namespace State.JobsIssued
variable {id m n : Nat} {s t u : State}

theorem refl (id : Nat) (h : s.lanesTaken = true) : s.JobsIssued id 0 s :=
  ⟨rfl, ⟨0, le_rfl, fun _ hp => hp⟩, h, rfl, fun _ hb => hb⟩

theorem trans (h1 : s.JobsIssued id m t) (h2 : t.JobsIssued id n u) : s.JobsIssued id (m + n) u := by
  obtain ⟨m1, hm, page1⟩ := h1.page
  obtain ⟨m2, hn, page2⟩ := h2.page
  refine ⟨?_, ⟨m1 + m2, by omega, fun p hp => ?_⟩, h2.taken, h2.destined.trans h1.destined,
    fun b hb => h2.keeps b (h1.keeps b hb)⟩
  · rw [h2.others, h1.others]
  · rw [page2 _ (page1 p hp), Nat.add_assoc]

end State.JobsIssued

theorem State.dispatchEncode_issued {s : State} (h : s.lanesTaken = true) (p : Page) (band : Nat) (x : Link)
    (t : SlotId) (comp : Nat) : s.JobsIssued p.id 1 (s.dispatchEncode p band x t comp) := by
  rw [State.dispatchEncode_eq h]
  refine ⟨rfl, ?_, State.lanesTaken_of_issue h rfl, ?_, fun b => Dispatcher.issue_keeps⟩
  · by_cases hidle : s.lane (s.encodeJob p band x t comp).lane = .idle
    · refine ⟨1, le_rfl, fun q hq => ?_⟩
      exact State.page_of_pagesWith (s := s) (f := Page.begun) (if_pos hidle) (fun _ => rfl) hq
    · refine ⟨0, Nat.zero_le _, fun q hq => ?_⟩
      exact (congrArg (List.find? _) (if_neg hidle)).trans hq
  · unfold Dispatcher.issue
    dsimp only
    split_ifs <;> rfl

/-- The jobs of some components of a band, handed over one after another. -/
theorem State.jobsIssued_components {s : State} (h : s.lanesTaken = true) (p : Page) (band : Nat) (x : Link)
    (t : SlotId) (l : List Nat) :
    s.JobsIssued p.id l.length (l.foldl (State.dispatchEncode p band x t) s) ∧ ∀ comp ∈ l, ∃ n,
      (l.foldl (State.dispatchEncode p band x t) s).disp.holds
        ⟨p.id, band, comp, p.cls, .slot x t, s.disp.destined p.id band comp, n⟩ = true := by
  induction l generalizing s with
  | nil => exact ⟨.refl _ h, nofun⟩
  | cons comp l ih =>
    have hfirst := State.dispatchEncode_issued h p band x t comp
    obtain ⟨hrest, hheld⟩ := ih hfirst.taken
    refine ⟨?_, List.forall_mem_cons.2 ⟨⟨s.disp.nextArrival, hrest.keeps _ ?_⟩, fun c hc => ?_⟩⟩
    · rw [List.length_cons, Nat.add_comm]
      exact hfirst.trans hrest
    · rw [State.dispatchEncode_eq h]
      exact Dispatcher.issue_holds
    · rw [← hfirst.destined]
      exact hheld c hc

/-- The jobs of the first bands that a frame completes, band by band and component by component (R55, R57). -/
def State.bandsIssued (p : Page) (band : Nat) (x : Link) (slotOf : Nat → SlotId) (bands : Nat) (s : State) : State :=
  (List.range bands).foldl (fun u i => (List.range p.c).foldl (State.dispatchEncode p (band + i) x (slotOf i)) u) s

theorem State.bandsIssued_succ (s : State) (p : Page) (band : Nat) (x : Link) (slotOf : Nat → SlotId) (bands : Nat) :
    s.bandsIssued p band x slotOf (bands + 1) = (List.range p.c).foldl
      (State.dispatchEncode p (band + bands) x (slotOf bands)) (s.bandsIssued p band x slotOf bands) := by
  rw [State.bandsIssued, List.range_succ, List.foldl_append]
  rfl

theorem State.jobsIssued_bands {s : State} (h : s.lanesTaken = true) (p : Page) (band : Nat) (x : Link)
    (slotOf : Nat → SlotId) (bands : Nat) :
    s.JobsIssued p.id (bands * p.c) (s.bandsIssued p band x slotOf bands) ∧ ∀ i j, i < bands → j < p.c → ∃ n,
      (s.bandsIssued p band x slotOf bands).disp.holds
        ⟨p.id, band + i, j, p.cls, .slot x (slotOf i), s.disp.destined p.id (band + i) j, n⟩ = true := by
  induction bands with
  | zero => exact ⟨by rw [Nat.zero_mul]; exact .refl _ h, nofun⟩
  | succ bands ih =>
    obtain ⟨hbefore, hheld⟩ := ih
    obtain ⟨hband, hnew⟩ := State.jobsIssued_components hbefore.taken p (band + bands) x (slotOf bands) (List.range p.c)
    rw [State.bandsIssued_succ]
    refine ⟨?_, fun i j hi hj => ?_⟩
    · rw [Nat.succ_mul]
      rw [List.length_range] at hband
      exact hbefore.trans hband
    · rcases Nat.lt_succ_iff_lt_or_eq.1 hi with hi | rfl
      · obtain ⟨n, hn⟩ := hheld i j hi hj
        exact ⟨n, hband.keeps _ hn⟩
      · rw [← hbefore.destined]
        exact hnew j (List.mem_range.2 hj)

end Sys2Proof.Machine
end

section
/-!
PROOFS. The end of a PIXELS frame's writing (R53 to R57): the frames that wait, the effects of the frame on its page and
its slots, and the bands it completes.
-/

set_option Elab.async false
namespace Sys2Proof.Machine

/-! ## The frames that wait (R48, R53) -/

theorem State.checkWaiting_of_none {t : State} {x : Link} (n : Nat)
    (h : (t.intake x).frame ≠ none ∨ (t.intake x).waiting = []) : t.checkWaiting x n = t := by
  cases n with
  | zero => rfl
  | succ n =>
    unfold State.checkWaiting
    split
    · next w rest hframe hwaiting =>
      rcases h with h | h
      · exact absurd hframe h
      · exact absurd (h.symm.trans hwaiting) nofun
    · rfl

theorem State.checkWaiting_of_some {t : State} {x : Link} {w : WaitingPixels} {rest : List WaitingPixels} (n : Nat)
    (hframe : (t.intake x).frame = none) (hwaiting : (t.intake x).waiting = w :: rest) :
    t.checkWaiting x (n + 1) =
      ((t.modIntake x fun k => { k with waiting := rest }).checkPixels x w.tag w.body).checkWaiting x n := by
  rw [State.checkWaiting, hframe, hwaiting]

/-! ## The command (R53) -/

/-- The controller as the end of a frame's writing leaves it: a last burst that is still being made is made for nobody
(log 39). -/
def State.writingLeft (s : State) (f : FrameWriting) : StoreCtl :=
  if f.writes = [] then s.ctl else { s.ctl with burst := s.ctl.burst.map fun b => { b with live := false } }

/-- The state in which the link's frame is being written no more. -/
def State.frameEnded (s : State) (x : Link) (f : FrameWriting) : State :=
  { s with ctl := s.writingLeft f, intakes := s.intakes.set x { s.intake x with frame := none } }

theorem exec_pixelsWriteEnd {s : State} {x : Link} {f : FrameWriting} (hframe : (s.intake x).frame = some f)
    (hwrites : f.writes = [] ∨ (f.writes.length = 1 ∧ ∃ b, s.ctl.burst = some b ∧ b.req = .intake x ∧ b.live = true)) :
    exec (.pixelsWriteEnd x) s = .next (State.pixelsWritten x f { s with ctl := s.writingLeft f }).arbitrate := by
  have hexec : exec (.pixelsWriteEnd x) s = execPixelsWriteEnd x s := rfl
  simp only [hexec, execPixelsWriteEnd, hframe]
  rcases hwrites with hwrites | ⟨hwrites, b, hburst, hreq, hlive⟩
  · rw [State.writingLeft, if_pos hwrites, hwrites]
    rfl
  · have hne : f.writes ≠ [] := by
      rintro hnil
      rw [hnil] at hwrites
      cases hwrites
    have hlast : s.lastBurst x f = true := by simp [State.lastBurst, hburst, hreq, hlive, hwrites]
    have hdisowned : s.disown (fun b => b.req == .intake x) = { s with ctl := s.writingLeft f } := by
      simp [State.disown, State.modCtl, State.writingLeft, hne, hburst, hreq]
    rw [if_neg (by simpa using hne), if_pos hlast, hdisowned]

/-- The frame's page is no longer the link's FILLING intake page, or the frame is void (R53). -/
theorem State.pixelsWritten_of_void {s : State} {x : Link} {f : FrameWriting}
    (h : f.void = true ∨ s.page f.page = none ∨
      ∃ p, s.page f.page = some p ∧ (p.state ≠ .filling ∨ (s.intake x).page ≠ some p.id)) :
    State.pixelsWritten x f { s with ctl := s.writingLeft f } =
      (s.frameEnded x f).checkWaiting x (s.intake x).waiting.length := by
  have hpage : State.page { s with ctl := s.writingLeft f } f.page = s.page f.page := rfl
  have hintake : State.intake { s with ctl := s.writingLeft f } x = s.intake x := rfl
  have hended : State.modIntake x (fun k => { k with frame := none }) { s with ctl := s.writingLeft f } =
      s.frameEnded x f := rfl
  have hwaiting : ((s.frameEnded x f).intake x).waiting = (s.intake x).waiting := by
    simp [State.intake, State.frameEnded]
  simp only [State.pixelsWritten, hpage, hintake, hended]
  cases hp : s.page f.page with
  | none => rw [hwaiting]
  | some p =>
    have hnot : ¬ (f.void = false ∧ p.state = .filling ∧ (s.intake x).page = some p.id) := by
      rintro ⟨hvoid, hstate, hid⟩
      rcases h with h | h | ⟨q, hq, h⟩
      · exact absurd (hvoid.symm.trans h) nofun
      · exact absurd (h.symm.trans hp) nofun
      · cases hq.symm.trans hp
        exact h.elim (absurd hstate) (absurd hid)
    simp only [if_neg hnot, hwaiting]

theorem State.pixelsWritten_of_filling {s t : State} {x : Link} {f : FrameWriting} {p : Page} (hvoid : f.void = false)
    (hp : s.page f.page = some p) (hstate : p.state = .filling) (hid : (s.intake x).page = some p.id)
    (ht : (s.frameEnded x f).framesEffects x p f = t) (hwaiting : (t.intake x).waiting = (s.intake x).waiting) :
    State.pixelsWritten x f { s with ctl := s.writingLeft f } = t.checkWaiting x (s.intake x).waiting.length := by
  have hpage : State.page { s with ctl := s.writingLeft f } f.page = s.page f.page := rfl
  have hintake : State.intake { s with ctl := s.writingLeft f } x = s.intake x := rfl
  rw [← hwaiting, ← ht]
  simp only [State.pixelsWritten, hpage, hintake, hp, if_pos (And.intro hvoid (And.intro hstate hid))]
  rfl

/-! ## The effects beside the jobs (R52, R53) -/

/-- The record of a page of which one more frame has been written (R52). -/
def Page.advanced (f : FrameWriting) (q : Page) : Page :=
  { q with nextPixel := some (f.offset + f.count), clamped := min 65535 (q.clamped + f.clamped) }

/-- The state with the page's record advanced by a written frame, and a controller, links and intakes given. -/
def State.advanced (s : State) (p : Page) (f : FrameWriting) (c : StoreCtl) (l : Pair LinkCtl) (k : Pair Intake) :
    State :=
  { s with
    ctl := c, dir := { s.dir with pages := pagesWith p.id (Page.advanced f) s.dir.pages }, links := l, intakes := k }

theorem State.newRun_advanced (s : State) (p : Page) (f : FrameWriting) (c : StoreCtl) (l : Pair LinkCtl)
    (k : Pair Intake) {j : Job} (hj : j.page = p.id) : (s.advanced p f c l k).newRun j = s.newRun j := by
  have hpage : (s.advanced p f c l k).page j.page = (s.page j.page).map (Page.advanced f) := by
    rw [hj]
    exact s.page_modPage_self p.id (Page.advanced f) fun _ => rfl
  simp only [State.newRun, hpage]
  cases s.page j.page <;> rfl

/-- The jobs that come are the same whatever a frame does beside them. -/
theorem State.dispatchEncode_advanced {s : State} (h : s.lanesTaken = true) (p : Page) (f : FrameWriting) (c : StoreCtl)
    (l : Pair LinkCtl) (k : Pair Intake) (band : Nat) (x : Link) (t : SlotId) (comp : Nat) :
    (s.advanced p f c l k).dispatchEncode p band x t comp = (s.dispatchEncode p band x t comp).advanced p f c l k := by
  have hcommute : pagesWith p.id Page.begun (pagesWith p.id (Page.advanced f) s.dir.pages) =
      pagesWith p.id (Page.advanced f) (pagesWith p.id Page.begun s.dir.pages) :=
    (pagesWith_pagesWith _ (f := Page.advanced f) _ (fun _ => rfl) _).trans
      (pagesWith_pagesWith _ (f := Page.begun) (Page.advanced f) (fun _ => rfl) _).symm
  rw [State.dispatchEncode_eq h, State.dispatchEncode_eq (s := s.advanced p f c l k) h, s.newRun_advanced p f c l k rfl]
  by_cases hidle : s.lane (s.encodeJob p band x t comp).lane = .idle
  · have hidle' : (s.advanced p f c l k).lane ((s.advanced p f c l k).encodeJob p band x t comp).lane = .idle := hidle
    rw [if_pos hidle, if_pos hidle']
    simp only [State.advanced, hcommute]
    rfl
  · have hbusy : ¬ (s.advanced p f c l k).lane ((s.advanced p f c l k).encodeJob p band x t comp).lane = .idle := hidle
    rw [if_neg hidle, if_neg hbusy]
    rfl

theorem State.bandIssued_advanced {s : State} (h : s.lanesTaken = true) (p : Page) (f : FrameWriting) (c : StoreCtl)
    (l : Pair LinkCtl) (k : Pair Intake) (band : Nat) (x : Link) (t : SlotId) (comps : List Nat) :
    comps.foldl (State.dispatchEncode p band x t) (s.advanced p f c l k) =
      (comps.foldl (State.dispatchEncode p band x t) s).advanced p f c l k := by
  induction comps generalizing s with
  | nil => rfl
  | cons comp comps ih =>
    rw [List.foldl_cons, State.dispatchEncode_advanced h, ih (State.dispatchEncode_issued h p band x t comp).taken,
      List.foldl_cons]

/-! ## One slot (R53 steps 1 to 3, R55, R57) -/

/-- The links after a band has become complete: HOLD goes out where it is raised and not in force (R57). -/
def Intake.holdTold (k : Intake) (x : Link) (raised : Bool) (l : Pair LinkCtl) : Pair LinkCtl :=
  if k.hold = false ∧ raised = true then l.set x ((l.get x).placeNotice .hold) else l

/-- The intake after a slot has taken its whole band: it waits with a job for each component (R55). -/
def Intake.bandWaits (p : Page) (t : SlotId) (band rows : Nat) (k : Intake) : Intake :=
  { k with slots := k.slots.set t ⟨.waiting, some p.id, some band, rows, p.c⟩ }

/-- The intake after a band-complete event: hold is in force if it was raised, and the other slot is filled next (R53,
R57). -/
def Intake.bandTaken (k : Intake) (p : Page) (t : SlotId) (band rows : Nat) (raised : Bool) : Intake :=
  { k.bandWaits p t band rows with fill := t.other, hold := k.hold || raised }

/-- The intake after a slot has taken some whole rows of a band. -/
def Intake.rowsTaken (k : Intake) (p : Page) (t : SlotId) (band rows : Nat) : Intake :=
  { k with slots := k.slots.set t ⟨.filling, some p.id, some band, rows, 0⟩ }

theorem SlotId.other_other (t : SlotId) : t.other.other = t := by
  cases t <;> rfl

/-- HOLD goes out once, where either of two bands raises it. -/
theorem Intake.holdTold_bandTaken (k : Intake) (p : Page) (t : SlotId) (band rows : Nat) (raised raised2 : Bool)
    (x : Link) (l : Pair LinkCtl) :
    (k.bandTaken p t band rows raised).holdTold x raised2 (k.holdTold x raised l) =
      k.holdTold x (raised || raised2) l := by
  cases hhold : k.hold <;> cases raised <;> cases raised2 <;>
    simp [Intake.holdTold, Intake.bandTaken, Intake.bandWaits, hhold]

section Slot
variable {s : State} {x : Link} {p : Page} {f : FrameWriting} {c : StoreCtl} {l : Pair LinkCtl} {k : Pair Intake}
  {hb band next : Nat}

theorem State.slotTakes_rows (t : SlotId) (before : Slot) (h : next < bandEnd p.w p.ht hb band) :
    (s.advanced p f c l k).slotTakes x p hb t band next before =
      s.advanced p f c l (k.set x ((k.get x).rowsTaken p t band (next / p.w - band * hb))) := by
  rw [State.slotTakes, if_neg (not_le.2 h)]
  rfl

theorem State.slotTakes_band (htaken : s.lanesTaken = true) (t : SlotId) (before : Slot)
    (h : bandEnd p.w p.ht hb band ≤ next) :
    (s.advanced p f c l k).slotTakes x p hb t band next before =
      ((List.range p.c).foldl (State.dispatchEncode p band x t) s).advanced p f c
        ((k.get x).holdTold x (decide (before.state ≠ .empty)) l)
        (k.set x ((k.get x).bandTaken p t band (bandRows p.ht hb band) (decide (before.state ≠ .empty)))) := by
  have hjobs := State.bandIssued_advanced htaken p f c l
    (k.set x ((k.get x).bandWaits p t band (bandRows p.ht hb band))) band x t (List.range p.c)
  have hwaits : (s.advanced p f c l k).modIntake x (Intake.bandWaits p t band (bandRows p.ht hb band)) =
      s.advanced p f c l (k.set x ((k.get x).bandWaits p t band (bandRows p.ht hb band))) := rfl
  unfold Intake.bandWaits at hjobs hwaits
  rw [State.slotTakes, if_pos h, State.bandComplete, hwaits, hjobs]
  by_cases hempty : before.state = .empty
  · simp [hempty, Intake.holdTold, Intake.bandTaken, Intake.bandWaits, State.modIntake, State.advanced]
  · cases hhold : (k.get x).hold <;>
      simp [hempty, hhold, Intake.holdTold, Intake.bandTaken, Intake.bandWaits, State.intake, State.modIntake,
        State.modLink, State.advanced, State.notify]

end Slot

/-! ## The whole frame (R53, R57) -/

/-- The record of a page after its last pixel has been written, if it has (R53). -/
def Page.closed (f : FrameWriting) (p q : Page) : Page :=
  if f.offset + f.count = p.w * p.ht then { q with state := .coding, nextPixel := none } else q

theorem pagesWith_self (id : Nat) (l : List Page) : pagesWith id (fun q => q) l = l := by
  simp [pagesWith]

/-- The state after the last pixel of a page has been written, if it has: the page is CODING and the link has no intake
page. -/
def State.closed (s : State) (x : Link) (p : Page) (f : FrameWriting) : State :=
  { s with
    dir := { s.dir with pages := pagesWith p.id (p.closed f) s.dir.pages }
    intakes := s.intakes.set x { s.intake x with
      page := if f.offset + f.count = p.w * p.ht then none else (s.intake x).page } }

theorem State.closed_of_more {p : Page} {f : FrameWriting} (h : f.offset + f.count ≠ p.w * p.ht) (s : State)
    (x : Link) : s.closed x p f = s := by
  have hrecord : p.closed f = fun q => q := funext fun q => if_neg h
  have hintakes : s.intakes.set x { s.intake x with page := (s.intake x).page } = s.intakes := Pair.set_get_self _ _
  rw [State.closed, hrecord, pagesWith_self, if_neg h, hintakes]

theorem State.closed_eq (s : State) (x : Link) (p : Page) (f : FrameWriting) :
    s.closed x p f =
      if f.offset + f.count = p.w * p.ht then
        (s.modPage p.id fun q => { q with state := .coding, nextPixel := none }).modIntake x fun k =>
          { k with page := none }
      else s := by
  split_ifs with hlast
  · have hrecord : p.closed f = fun q => { q with state := .coding, nextPixel := none } := funext fun q => if_pos hlast
    rw [State.closed, hrecord, if_pos hlast]
    rfl
  · exact State.closed_of_more hlast s x

/-- The links after SAMPLES_CLAMPED has been set for a frame of which samples were clamped (R52). -/
def State.clampedFlagged (s : State) (x : Link) (f : FrameWriting) : Pair LinkCtl :=
  if 0 < f.clamped then s.links.set x { s.link x with flags := { (s.link x).flags with clamped := true } } else s.links

theorem State.framesEffects_eq (s : State) (x : Link) (p : Page) (f : FrameWriting) :
    let k := s.intake x
    let hb := (s.profileOf p).hb
    let band := pixelBand p.w hb f.offset
    let next := f.offset + f.count
    let taken := (s.advanced p f (s.writingLeft f) (s.clampedFlagged x f)
      (s.intakes.set x { k with frame := none })).slotTakes x p hb k.fill band next (k.slots.get k.fill.other)
    (s.frameEnded x f).framesEffects x p f = State.closed
      (if bandEnd p.w p.ht hb band < next then taken.slotTakes x p hb k.fill.other (band + 1) next (k.slots.get k.fill)
        else taken) x p f := by
  intro k hb band next taken
  have hintake : (s.frameEnded x f).intake x = { k with frame := none } := Pair.get_set_self _ _ _
  have hflagged : (if 0 < f.clamped then
      State.flagClamped x ((s.frameEnded x f).modPage p.id fun q =>
        { q with nextPixel := some next, clamped := satAdd Config.countMax q.clamped f.clamped })
      else (s.frameEnded x f).modPage p.id fun q =>
        { q with nextPixel := some next, clamped := satAdd Config.countMax q.clamped f.clamped }) =
      s.advanced p f (s.writingLeft f) (s.clampedFlagged x f) (s.intakes.set x { k with frame := none }) := by
    unfold State.clampedFlagged
    split_ifs <;> rfl
  rw [State.closed_eq]
  simp only [State.framesEffects, hintake]
  rw [hflagged]
  rfl

/-- The state after a frame has completed bands: their jobs have been handed over, and beside them the page's record,
the links and the intake are as the frame leaves them. -/
def State.bandsTaken (s : State) (x : Link) (p : Page) (f : FrameWriting) (bands : Nat) (fill : SlotId)
    (slots : Slots Slot) (raised : Bool) : State :=
  let k := s.intake x
  (s.bandsIssued p (pixelBand p.w (s.profileOf p).hb f.offset) x (fun i => if i = 0 then k.fill else k.fill.other)
    bands).advanced p f (s.writingLeft f) (k.holdTold x raised (s.clampedFlagged x f))
    (s.intakes.set x { k with frame := none, fill := fill, slots := slots, hold := k.hold || raised })

section Effects
variable {s : State} {x : Link} {p : Page} {f : FrameWriting}

/-- The frame that ends inside its first band. -/
theorem State.framesEffects_rows
    (h : f.offset + f.count < bandEnd p.w p.ht (s.profileOf p).hb (pixelBand p.w (s.profileOf p).hb f.offset)) :
    let k := s.intake x
    let hb := (s.profileOf p).hb
    let band := pixelBand p.w hb f.offset
    (s.frameEnded x f).framesEffects x p f = (s.advanced p f (s.writingLeft f) (s.clampedFlagged x f)
      (s.intakes.set x (Intake.rowsTaken { k with frame := none } p k.fill band
        ((f.offset + f.count) / p.w - band * hb)))).closed x p f := by
  intro k hb band
  rw [State.framesEffects_eq, if_neg h.not_gt, State.slotTakes_rows _ _ h, Pair.get_set_self, Pair.set_set]

variable (htaken : s.lanesTaken = true)
include htaken

/-- The frame that ends with its first band. -/
theorem State.framesEffects_band
    (h : f.offset + f.count = bandEnd p.w p.ht (s.profileOf p).hb (pixelBand p.w (s.profileOf p).hb f.offset)) :
    let k := s.intake x
    let hb := (s.profileOf p).hb
    let band := pixelBand p.w hb f.offset
    (s.frameEnded x f).framesEffects x p f = (s.bandsTaken x p f 1 k.fill.other
      (k.slots.set k.fill ⟨.waiting, some p.id, some band, bandRows p.ht hb band, p.c⟩)
      (decide ((k.slots.get k.fill.other).state ≠ .empty))).closed x p f := by
  intro k hb band
  rw [State.framesEffects_eq, if_neg h.not_gt, State.slotTakes_band htaken _ _ h.ge, Pair.get_set_self, Pair.set_set]
  rfl

/-- The frame that ends inside its second band. -/
theorem State.framesEffects_band_rows
    (h : bandEnd p.w p.ht (s.profileOf p).hb (pixelBand p.w (s.profileOf p).hb f.offset) < f.offset + f.count)
    (h2 : f.offset + f.count < bandEnd p.w p.ht (s.profileOf p).hb (pixelBand p.w (s.profileOf p).hb f.offset + 1)) :
    let k := s.intake x
    let hb := (s.profileOf p).hb
    let band := pixelBand p.w hb f.offset
    (s.frameEnded x f).framesEffects x p f = (s.bandsTaken x p f 1 k.fill.other
      ((k.slots.set k.fill ⟨.waiting, some p.id, some band, bandRows p.ht hb band, p.c⟩).set k.fill.other
        ⟨.filling, some p.id, some (band + 1), (f.offset + f.count) / p.w - (band + 1) * hb, 0⟩)
      (decide ((k.slots.get k.fill.other).state ≠ .empty))).closed x p f := by
  intro k hb band
  rw [State.framesEffects_eq, if_pos h, State.slotTakes_band htaken _ _ h.le, State.slotTakes_rows _ _ h2]
  simp only [Pair.get_set_self, Pair.set_set]
  rfl

/-- The frame that ends with its second band. -/
theorem State.framesEffects_two_bands
    (h : bandEnd p.w p.ht (s.profileOf p).hb (pixelBand p.w (s.profileOf p).hb f.offset) < f.offset + f.count)
    (h2 : f.offset + f.count = bandEnd p.w p.ht (s.profileOf p).hb (pixelBand p.w (s.profileOf p).hb f.offset + 1)) :
    let k := s.intake x
    let hb := (s.profileOf p).hb
    let band := pixelBand p.w hb f.offset
    (s.frameEnded x f).framesEffects x p f = (s.bandsTaken x p f 2 k.fill
      ((k.slots.set k.fill ⟨.waiting, some p.id, some band, bandRows p.ht hb band, p.c⟩).set k.fill.other
        ⟨.waiting, some p.id, some (band + 1), bandRows p.ht hb (band + 1), p.c⟩)
      (decide ((k.slots.get k.fill.other).state ≠ .empty) || decide ((k.slots.get k.fill).state ≠ .empty))).closed
        x p f := by
  intro k hb band
  have hfirst := (State.jobsIssued_components htaken p band x k.fill (List.range p.c)).1.taken
  rw [State.framesEffects_eq, if_pos h, State.slotTakes_band htaken _ _ h.le, State.slotTakes_band hfirst _ _ h2.ge]
  simp only [Pair.get_set_self, Pair.set_set, Intake.holdTold_bandTaken]
  simp only [Intake.bandTaken, Intake.bandWaits, SlotId.other_other, Bool.or_assoc]
  rfl

end Effects

/-- A frame that ends inside its first band does not end with the page (R50). -/
theorem not_last_of_lt_bandEnd {w ht hb offset next : Nat} (hfrom : offset ≤ next)
    (h : next < bandEnd w ht hb (pixelBand w hb offset)) : next ≠ w * ht := by
  have hstart : pixelBand w hb offset * hb * w ≤ offset :=
    (Nat.mul_le_mul_right w (Nat.div_mul_le_self _ hb)).trans (Nat.div_mul_le_self _ w)
  rw [bandEnd_eq, bandRows] at h
  generalize pixelBand w hb offset * hb = first at hstart h
  rcases Nat.le_total ht first with hpast | hinside
  · rw [Nat.sub_eq_zero_of_le hpast, Nat.min_zero, Nat.add_zero] at h
    omega
  · have hend : (first + min hb (ht - first)) * w ≤ ht * w := Nat.mul_le_mul_right w (by omega)
    rw [Nat.mul_comm w ht]
    omega

/-! ## What a frame that completes bands leaves -/

section Completed
variable {s : State} {x : Link} {p : Page} {f : FrameWriting} {bands : Nat} {fill : SlotId} {slots : Slots Slot}
  {raised : Bool}

theorem State.completed_intake :
    ((s.bandsTaken x p f bands fill slots raised).closed x p f).intake x = { s.intake x with
      page := if f.offset + f.count = p.w * p.ht then none else (s.intake x).page
      frame := none, fill := fill, slots := slots, hold := (s.intake x).hold || raised } := by
  simp [State.closed, State.bandsTaken, State.advanced, State.intake]

theorem State.completed_intake_other :
    ((s.bandsTaken x p f bands fill slots raised).closed x p f).intake (otherLink x) = s.intake (otherLink x) := by
  simp [State.closed, State.bandsTaken, State.advanced, State.intake]

/-- What stays as it was, whatever jobs have come. -/
theorem State.completed_kept (htaken : s.lanesTaken = true) :
    let t := (s.bandsTaken x p f bands fill slots raised).closed x p f
    t.map = s.map ∧ t.adm = s.adm ∧ t.arb = s.arb ∧ t.press = s.press ∧ t.ctl = s.writingLeft f ∧
      t.dir.profiles = s.dir.profiles ∧ t.still = s.still := by
  have hissued := (State.jobsIssued_bands htaken p (pixelBand p.w (s.profileOf p).hb f.offset) x
    (fun i => if i = 0 then (s.intake x).fill else (s.intake x).fill.other) bands).1.others
  have howed : (s.writingLeft f).owed = s.ctl.owed := by
    unfold State.writingLeft
    split_ifs <;> rfl
  refine ⟨(congrArg State.map hissued :), (congrArg State.adm hissued :), (congrArg State.arb hissued :),
    (congrArg State.press hissued :), rfl, (congrArg (fun t : State => t.dir.profiles) hissued :),
    (congrArg (fun t : State => (t.store, t.powerOns, t.size, t.pending, (s.writingLeft f).owed)) hissued).trans ?_⟩
  rw [howed]
  rfl

/-- The page's record: its next pixel, its clamped count and, after its last pixel, its state, and the jobs begun. -/
theorem State.completed_page {u : State} (c : StoreCtl) (l : Pair LinkCtl) (k : Pair Intake) {work : Nat}
    (hstate : p.state = .filling) (hu : u.page p.id = some { p with work := work }) :
    ((u.advanced p f c l k).closed x p f).page p.id = some { p with
      nextPixel := if f.offset + f.count = p.w * p.ht then none else some (f.offset + f.count)
      state := if f.offset + f.count = p.w * p.ht then .coding else .filling
      clamped := min 65535 (p.clamped + f.clamped), work := work } := by
  have hadvanced : (u.advanced p f c l k).page p.id = some (Page.advanced f { p with work := work }) :=
    State.page_of_pagesWith (s := u) rfl (fun _ => rfl) hu
  have hid : ∀ q, (p.closed f q).id = q.id := by
    intro q
    unfold Page.closed
    split_ifs <;> rfl
  rw [State.page_of_pagesWith (s := u.advanced p f c l k) rfl hid hadvanced]
  unfold Page.closed Page.advanced
  split_ifs
  · rfl
  · rw [← hstate]

end Completed

/-- Settles O42: the frames that wait by the recursion of their check, and the effects by where the frame ends, in its
first band, with it, in its second band or with that. -/
theorem writtenFramesTakeEffect : Obligations.WrittenFramesTakeEffect := by
  refine ⟨fun x t n => ⟨State.checkWaiting_of_none n, fun w rest hframe hwaiting => ?_⟩, ?_⟩
  · exact State.checkWaiting_of_some n hframe hwaiting
  intro x s f hframe hwrites k ctl leaves
  have hleaves : ∀ t, State.pixelsWritten x f { s with ctl := s.writingLeft f } =
      t.checkWaiting x (s.intake x).waiting.length → leaves t := by
    intro t ht
    exact (exec_pixelsWriteEnd hframe hwrites).trans (congrArg (fun u : State => Host.Outcome.next u.arbitrate) ht)
  refine ⟨fun hvoid => hleaves _ (State.pixelsWritten_of_void hvoid), fun p hvoid hp hstate hid => ?_⟩
  intro hb band rows rows2 next stop stop2 clamped flagged held held2 first slotOf issued completes
  have heffects : ∀ t, (s.frameEnded x f).framesEffects x p f = t → (t.intake x).waiting = (s.intake x).waiting →
      leaves t :=
    fun t ht hwaiting => hleaves t (State.pixelsWritten_of_filling hvoid hp hstate hid ht hwaiting)
  have hstop : stop = bandEnd p.w p.ht hb band := (bandEnd_eq _ _ _ _).symm
  have hstop2 : stop2 = bandEnd p.w p.ht hb (band + 1) := (bandEnd_eq _ _ _ _).symm
  refine ⟨fun hrows => ?_, fun htaken => ?_⟩
  · refine heffects _ ?_ ?_
    · rw [State.framesEffects_rows (hstop ▸ hrows), State.closed_of_more
        (not_last_of_lt_bandEnd (Nat.le_add_right _ _) (hstop ▸ hrows))]
      rfl
    · rw [State.intake, Pair.get_set_self]
  · have hcompletes : ∀ bands fill slots raised,
        (s.frameEnded x f).framesEffects x p f = (s.bandsTaken x p f bands fill slots raised).closed x p f →
        completes bands fill slots raised := by
      intro bands fill slots raised heq
      have hintake := State.completed_intake (s := s) (x := x) (p := p) (f := f) (bands := bands) (fill := fill)
        (slots := slots) (raised := raised)
      obtain ⟨hissued, hjobs⟩ := State.jobsIssued_bands htaken p band x slotOf bands
      obtain ⟨m, hm, hrecord⟩ := hissued.page
      have hbegun := hrecord p (by rwa [State.id_of_page hp])
      refine ⟨_, p.work + m, heffects _ heq (by rw [hintake]), State.completed_page _ _ _ hstate hbegun,
        Nat.le_add_right _ _, Nat.add_le_add_left hm _, rfl, fun q hq => ?_, by rw [hintake, ← hid], by rw [hintake],
        by rw [hintake], by rw [hintake], by rw [hintake], by rw [hintake], State.completed_intake_other,
        fun i j hi hj => ?_, hissued.keeps, rfl, State.completed_kept htaken⟩
      · cases hbegun.symm.trans hq
        rfl
      · obtain ⟨n, hn⟩ := hjobs i j hi hj
        exact ⟨_, hn, rfl, rfl, rfl, rfl, rfl, rfl⟩
    refine ⟨fun h => hcompletes _ _ _ _ ?_, fun h h2 => hcompletes _ _ _ _ ?_, fun h h2 => hcompletes _ _ _ _ ?_⟩
    · exact State.framesEffects_band htaken (hstop ▸ h)
    · exact State.framesEffects_band_rows htaken (hstop ▸ h) (hstop2 ▸ h2)
    · exact State.framesEffects_two_bands htaken (hstop ▸ h) (hstop2 ▸ h2)

end Sys2Proof.Machine
end

section
/-!
PROOFS. The evaluation of the rules (R66 to R68): the groups of a list of rules, read from where each begins, and the
rule that decides.
-/

set_option Elab.async false
namespace Sys2Proof.Machine

/-! ## Groups (R67) -/

theorem ruleGroups_cons_of_more {r : Rule} (h : r.andNext = true) (ms rest : List Rule) :
    ruleGroups ms (r :: rest) = ruleGroups (r :: ms) rest := by
  cases ms <;> simp [ruleGroups, h]

theorem ruleGroups_cons_of_last {r : Rule} (h : r.andNext = false) (ms rest : List Rule) :
    ruleGroups ms (r :: rest) = (ms.reverse ++ [r]) :: ruleGroups [] rest := by
  cases ms <;> simp [ruleGroups, h]

/-- The group that the first of these rules begins. -/
def groupFrom : List Rule → List Rule
  | [] => []
  | r :: rest => r :: if r.andNext then groupFrom rest else []

theorem groupFrom_cons_of_more {r : Rule} (h : r.andNext = true) (rest : List Rule) :
    groupFrom (r :: rest) = r :: groupFrom rest := by
  rw [groupFrom, if_pos h]

theorem groupFrom_cons_of_last {r : Rule} (h : r.andNext = false) (rest : List Rule) :
    groupFrom (r :: rest) = [r] := by
  simp [groupFrom, h]

/-- What holds of a group's members holds of each rule that and-with-next joins to the first. -/
theorem all_groupFrom {p : Rule → Bool} {l : List Rule} :
    (groupFrom l).all p = true ↔
      ∀ j (hj : j < l.length), (∀ k (hk : k < j), l[k].andNext = true) → p l[j] = true := by
  induction l with
  | nil => simp [groupFrom]
  | cons r rest ih =>
    cases hnext : r.andNext with
    | false =>
      rw [groupFrom_cons_of_last hnext]
      refine ⟨fun hall j hj hjoined => ?_, fun hall => ?_⟩
      · cases j with
        | zero => simpa using hall
        | succ j => cases hnext.symm.trans (hjoined 0 (Nat.succ_pos j))
      · simpa using hall 0 (Nat.succ_pos _)
    | true =>
      rw [groupFrom_cons_of_more hnext, List.all_cons, Bool.and_eq_true, ih]
      refine ⟨fun ⟨hfirst, hlater⟩ j hj hjoined => ?_, fun hall =>
        ⟨hall 0 (Nat.succ_pos _) (fun _ hk => absurd hk (Nat.not_lt_zero _)), fun j hj hjoined => ?_⟩⟩
      · cases j with
        | zero => exact hfirst
        | succ j => exact hlater j (Nat.lt_of_succ_lt_succ hj) fun k hk => hjoined (k + 1) (Nat.succ_lt_succ hk)
      · refine hall (j + 1) (Nat.succ_lt_succ hj) fun k hk => ?_
        cases k with
        | zero => exact hnext
        | succ k => exact hjoined k (Nat.lt_of_succ_lt_succ hk)

/-! ## The leader of the first group that matches (R68) -/

/-- The leader of the first of these groups that matches. -/
def leaderAmong (matching : List Rule → Bool) (groups : List (List Rule)) : Option Rule :=
  (groups.find? matching).bind List.head?

theorem leaderAmong_cons (matching : List Rule → Bool) (g : List Rule) (groups : List (List Rule)) :
    leaderAmong matching (g :: groups) = if matching g = true then g.head? else leaderAmong matching groups := by
  cases h : matching g <;> simp [leaderAmong, h]

/-- The same, from the rules: the first of them leads a group if `leads`. -/
def leaderFrom (matching : List Rule → Bool) : Bool → List Rule → Option Rule
  | _, [] => none
  | leads, r :: rest =>
    if leads && matching (groupFrom (r :: rest)) then some r else leaderFrom matching (!r.andNext) rest

theorem leaderFrom_true (matching : List Rule → Bool) (l : List Rule) :
    leaderFrom matching true l =
      if matching (groupFrom l) = true then (groupFrom l).head? else leaderFrom matching false l := by
  cases l with
  | nil => exact (ite_self none).symm
  | cons r rest => simp [leaderFrom, groupFrom]

/-- The members of a group begun go before those that the rules ahead add to it; the groups after it begin where it
ends. -/
theorem leaderAmong_ruleGroups_begun (matching : List Rule → Bool) (ms l : List Rule) :
    leaderAmong matching (ruleGroups ms l) =
      if matching (ms.reverse ++ groupFrom l) = true then (ms.reverse ++ groupFrom l).head?
      else leaderFrom matching false l := by
  induction l generalizing ms with
  | nil =>
    cases ms with
    | nil => simp [ruleGroups, leaderAmong, groupFrom, leaderFrom]
    | cons m ms =>
      rw [ruleGroups, leaderAmong_cons, groupFrom, List.append_nil]
      rfl
  | cons r rest ih =>
    have hpast : leaderFrom matching false (r :: rest) = leaderFrom matching (!r.andNext) rest := by simp [leaderFrom]
    cases hnext : r.andNext with
    | true =>
      rw [ruleGroups_cons_of_more hnext, ih, groupFrom_cons_of_more hnext, hpast, hnext, List.reverse_cons,
        List.append_assoc]
      rfl
    | false =>
      rw [ruleGroups_cons_of_last hnext, leaderAmong_cons, ih, groupFrom_cons_of_last hnext, hpast, hnext,
        Bool.not_false, leaderFrom_true]
      rfl

theorem leaderAmong_ruleGroups (matching : List Rule → Bool) (l : List Rule) :
    leaderAmong matching (ruleGroups [] l) = leaderFrom matching true l :=
  (leaderAmong_ruleGroups_begun matching [] l).trans (leaderFrom_true matching l).symm

/-- The rule at a position leads a group: the first rule if `leads`, a later one where and-with-next does not join it
to the rule before (R67). -/
def leadsAt (leads : Bool) (l : List Rule) : Nat → Bool
  | 0 => leads
  | i + 1 => l[i]?.all fun r => !r.andNext

theorem leadsAt_cons_succ (leads : Bool) (r : Rule) (rest : List Rule) (i : Nat) :
    leadsAt leads (r :: rest) (i + 1) = leadsAt (!r.andNext) rest i := by
  cases i <;> rfl

/-- The leader stands at the first position that leads a group that matches. -/
theorem leaderFrom_eq_find? (matching : List Rule → Bool) (leads : Bool) (l : List Rule) :
    leaderFrom matching leads l =
      ((List.range l.length).find? fun i => leadsAt leads l i && matching (groupFrom (l.drop i))).bind (l[·]?) := by
  induction l generalizing leads with
  | nil => rfl
  | cons r rest ih =>
    rw [List.length_cons, List.range_succ_eq_map, List.find?_cons, leaderFrom]
    cases h : leads && matching (groupFrom (r :: rest)) with
    | true => simp [leadsAt, h]
    | false =>
      have hhead : (leadsAt leads (r :: rest) 0 && matching (groupFrom ((r :: rest).drop 0))) = false := h
      simp only [hhead, Bool.false_eq_true, if_false, List.find?_map, ih (!r.andNext), Function.comp_def,
        leadsAt_cons_succ, List.drop_succ_cons, Option.bind_map, List.getElem?_cons_succ]

/-! ## The rules of the admission block (R66 to R68) -/

/-- The comparison an operator makes (R66). -/
def RuleOp.relates : RuleOp → Nat → Nat → Prop
  | .eq, p, v => p = v
  | .ne, p, v => p ≠ v
  | .gt, p, v => v < p
  | .lt, p, v => p < v

theorem Rule.compares_iff (r : Rule) (x : Link) (q : OpenFields) :
    r.compares x q = true ↔
      r.op.relates (BitVec.ofNat 16 (r.field.number x q) &&& r.mask).toNat (r.value &&& r.mask).toNat := by
  unfold Rule.compares
  cases r.op with
  | eq => exact beq_iff_eq.trans BitVec.toNat_inj.symm
  | ne => exact bne_iff_ne.trans BitVec.toNat_inj.symm.not
  | gt => exact decide_eq_true_iff
  | lt => exact decide_eq_true_iff

/-- A disabled leader skips its group; a disabled later member counts as matching (R67). -/
theorem groupMatches_groupFrom (x : Link) (q : OpenFields) (r : Rule) (rest : List Rule) :
    groupMatches x q (groupFrom (r :: rest)) =
      (r.enabled && (groupFrom (r :: rest)).all fun m => !m.enabled || m.compares x q) := by
  cases h : r.enabled <;> simp [groupFrom, groupMatches, h]

/-- A rule leads a group where and-with-next of the rule before it, if there is one, is no. -/
theorem Admission.leadsAt_iff (a : Admission) (i : Fin 8) :
    leadsAt true a.rules.toList i = true ↔ ∀ j : Fin 8, j.val + 1 = i.val → a.rules[j].andNext = false := by
  obtain ⟨_ | i, hi⟩ := i
  · simp [leadsAt]
  · have hbefore : i < a.rules.toList.length := by simp; omega
    simp only [leadsAt, List.getElem?_eq_getElem hbefore, Option.all_some, Vector.getElem_toList, Bool.not_eq_true']
    refine ⟨fun h j hj => ?_, fun h => h ⟨i, by omega⟩ rfl⟩
    obtain rfl : j.val = i := Nat.succ.inj hj
    exact h

/-- A group matches by its leader's enabling and the comparisons of its enabled members, the leader among them. -/
theorem Admission.groupMatches_iff (a : Admission) (x : Link) (q : OpenFields) (i : Fin 8) :
    groupMatches x q (groupFrom (a.rules.toList.drop i)) = true ↔
      a.rules[i].enabled = true ∧ ∀ j : Fin 8, i ≤ j → (∀ k : Fin 8, i ≤ k → k < j → a.rules[k].andNext = true) →
        a.rules[j].enabled = true → a.rules[j].compares x q = true := by
  have hlen : a.rules.toList.length = 8 := Vector.length_toList
  have hleader : a.rules.toList.drop i = a.rules[i] :: a.rules.toList.drop (i + 1) := by
    rw [List.drop_eq_getElem_cons (by omega), Vector.getElem_toList]
    rfl
  have hmembers := all_groupFrom (p := fun m => !m.enabled || m.compares x q) (l := a.rules.toList.drop i)
  rw [hleader, groupMatches_groupFrom, Bool.and_eq_true, ← hleader, hmembers]
  simp only [List.length_drop, hlen, List.getElem_drop, Vector.getElem_toList, Bool.or_eq_true, Bool.not_eq_true',
    ← Bool.not_eq_true, ← imp_iff_not_or]
  refine and_congr_right fun _ => ⟨fun h j hij hjoined => ?_, fun h j hj hjoined => ?_⟩
  · have hat : i.val + (j.val - i.val) = j.val := by omega
    have hmember := h (j - i) (by omega) fun k hk =>
      hjoined ⟨i + k, by omega⟩ (by simp [Fin.le_def]) (by simp [Fin.lt_def]; omega)
    simp only [hat] at hmember
    exact hmember
  · refine h ⟨i + j, by omega⟩ (by simp [Fin.le_def]) fun k hik hkj => ?_
    have hat : i.val + (k.val - i.val) = k.val := by omega
    have hnext := hjoined (k - i) (by simp [Fin.lt_def] at hkj; omega)
    simp only [hat] at hnext
    exact hnext

theorem Admission.classify_of_leader {a : Admission} {x : Link} {q : OpenFields} {r : Rule}
    (h : leaderFrom (groupMatches x q) true a.rules.toList = some r) :
    (r.action = .refuse → a.classify x q = .refuse) ∧
      ∀ n, r.action = .cls n → a.classify x q = .accept n r.copyTarget := by
  obtain ⟨g, hfound, hhead⟩ := Option.bind_eq_some_iff.1 ((leaderAmong_ruleGroups _ _).trans h)
  obtain ⟨later, rfl⟩ := List.head?_eq_some_iff.1 hhead
  simp only [Admission.classify, hfound]
  exact ⟨fun hr => by rw [hr], fun n hn => by rw [hn]⟩

theorem Admission.classify_of_none {a : Admission} {x : Link} {q : OpenFields}
    (h : leaderFrom (groupMatches x q) true a.rules.toList = none) :
    a.classify x q = if a.defaultClass = 0 then .refuse else .accept a.defaultClass none := by
  have hnone := (leaderAmong_ruleGroups _ _).trans h
  unfold Admission.classify
  split
  · next r later hfound => simp [leaderAmong, hfound] at hnone
  · rfl

/-- The first position that leads a group that matches holds the leader that decides. -/
theorem Admission.leaderFrom_eq_some {a : Admission} {matching : List Rule → Bool} {i : Fin 8}
    (hleads : leadsAt true a.rules.toList i = true) (hmatch : matching (groupFrom (a.rules.toList.drop i)) = true)
    (hfirst : ∀ j : Fin 8, j < i → leadsAt true a.rules.toList j = true →
      ¬ matching (groupFrom (a.rules.toList.drop j)) = true) :
    leaderFrom matching true a.rules.toList = some a.rules[i] := by
  have hlen : a.rules.toList.length = 8 := Vector.length_toList
  have hfind : ((List.range a.rules.toList.length).find? fun j =>
      leadsAt true a.rules.toList j && matching (groupFrom (a.rules.toList.drop j))) = some i.val := by
    rw [List.find?_range_eq_some]
    refine ⟨by rw [hleads, hmatch]; rfl, by simp, fun j hj => ?_⟩
    have hnot := hfirst ⟨j, by omega⟩ hj
    rw [Bool.not_eq_true', Bool.and_eq_false_imp]
    exact fun hlead => Bool.eq_false_iff.2 (hnot hlead)
  rw [leaderFrom_eq_find?, hfind]
  simp

theorem Admission.leaderFrom_eq_none {a : Admission} {matching : List Rule → Bool}
    (hnone : ∀ j : Fin 8, leadsAt true a.rules.toList j = true →
      ¬ matching (groupFrom (a.rules.toList.drop j)) = true) :
    leaderFrom matching true a.rules.toList = none := by
  have hlen : a.rules.toList.length = 8 := Vector.length_toList
  rw [leaderFrom_eq_find?, Option.bind_eq_none_iff]
  intro j hj
  have hmem := List.mem_of_find?_eq_some hj
  have hp := List.find?_some hj
  simp only [List.mem_range, Bool.and_eq_true] at hmem hp
  exact absurd hp.2 (hnone ⟨j, by omega⟩ hp.1)

/-! ## The obligation -/

/-- Settles O27: the statement's leaders and hits are the positions that lead a group and the groups that match. -/
theorem firstMatchingGroupDecides : Obligations.FirstMatchingGroupDecides := by
  intro a x q compares leads hits
  have hcompares : ∀ r : Rule, r.compares x q = true ↔ compares r := by
    rintro ⟨_, property, op, _, _, _, _, _⟩
    rw [Rule.compares_iff]
    cases property with
    | origin => cases x <;> cases op <;> rfl
    | _ => cases op <;> rfl
  have hleads : ∀ i : Fin 8, leadsAt true a.rules.toList i = true ↔ leads i := a.leadsAt_iff
  have hhits : ∀ i : Fin 8, groupMatches x q (groupFrom (a.rules.toList.drop i)) = true ↔ hits i := by
    intro i
    rw [a.groupMatches_iff]
    simp only [hcompares]
    refine and_congr_right fun henabled => ⟨fun h => ?_, fun ⟨hi, hlater⟩ j hij => ?_⟩
    · exact ⟨h i le_rfl (fun k hik hki => absurd hki (not_lt.2 hik)) henabled, fun j hij => h j hij.le⟩
    · rcases hij.eq_or_lt with rfl | hlt
      · exact fun _ _ => hi
      · exact hlater j hlt
  refine ⟨fun i hi hhit hfirst => ?_, fun hnone => ?_⟩
  · refine Admission.classify_of_leader (Admission.leaderFrom_eq_some ((hleads i).2 hi) ((hhits i).2 hhit) ?_)
    exact fun j hj hlead hmatch => hfirst j hj ((hleads j).1 hlead) ((hhits j).1 hmatch)
  · refine Admission.classify_of_none (Admission.leaderFrom_eq_none ?_)
    exact fun j hlead hmatch => hnone j ((hleads j).1 hlead) ((hhits j).1 hmatch)

end Sys2Proof.Machine
end

section
/-!
PROOFS. SET RULE (R65), SET DEFAULT CLASS (R69) and SET STORE (R136).
-/

set_option Elab.async false
namespace Sys2Proof.Machine

/-! ## The codes of a rule's fields (R65) -/

theorem boolOfCode_eq_none {n : Nat} : boolOfCode n = none ↔ 1 < n := by
  match n with
  | 0 | 1 => decide
  | n + 2 => simp [boolOfCode]

theorem boolOfCode_of_le {n : Nat} (h : n ≤ 1) : boolOfCode n = some (n == 1) := by
  interval_cases n <;> rfl

theorem RuleField.ofCode_eq_none {n : Nat} : RuleField.ofCode n = none ↔ 6 < n := by
  match n with
  | 0 | 1 | 2 | 3 | 4 | 5 | 6 => decide
  | n + 7 => simp [RuleField.ofCode]

theorem RuleOp.ofCode_eq_none {n : Nat} : RuleOp.ofCode n = none ↔ 3 < n := by
  match n with
  | 0 | 1 | 2 | 3 => decide
  | n + 4 => simp [RuleOp.ofCode]

theorem RuleAction.ofCode_eq_none {n : Nat} : RuleAction.ofCode n = none ↔ 4 < n := by
  match n with
  | 0 | 1 | 2 | 3 | 4 => decide
  | n + 5 => simp [RuleAction.ofCode]

theorem RuleAction.ofCode_of_le {n : Nat} (h : n ≤ 4) :
    RuleAction.ofCode n = some (if n = 0 then .refuse else .cls n) := by
  interval_cases n <;> rfl

theorem targetOfCode_eq_none {n : Nat} : targetOfCode n = none ↔ 2 < n := by
  match n with
  | 0 | 1 | 2 => decide
  | n + 3 => simp [targetOfCode]

theorem targetOfCode_of_le {n : Nat} (h : n ≤ 2) :
    targetOfCode n = some (if n = 0 then none else if n = 1 then some .a else some .b) := by
  interval_cases n <;> rfl

/-- A field outside its set gives no rule record. -/
theorem ruleOf_eq_none {body : List Byte}
    (h : 1 < field 1 1 body ∨ 6 < field 2 1 body ∨ 3 < field 3 1 body ∨ 1 < field 8 1 body ∨ 4 < field 9 1 body ∨
      2 < field 10 1 body) : ruleOf body = none := by
  simp only [← boolOfCode_eq_none, ← RuleField.ofCode_eq_none, ← RuleOp.ofCode_eq_none, ← RuleAction.ofCode_eq_none,
    ← targetOfCode_eq_none] at h
  unfold ruleOf
  split
  · next hen hfl hop han hac htg => simp [hen, hfl, hop, han, hac, htg] at h
  · rfl

theorem ruleOf_eq_some {body : List Byte} {enabled andNext : Bool} {property : RuleField} {op : RuleOp}
    {action : RuleAction} {target : Option Link} (hen : boolOfCode (field 1 1 body) = some enabled)
    (hfl : RuleField.ofCode (field 2 1 body) = some property) (hop : RuleOp.ofCode (field 3 1 body) = some op)
    (han : boolOfCode (field 8 1 body) = some andNext) (hac : RuleAction.ofCode (field 9 1 body) = some action)
    (htg : targetOfCode (field 10 1 body) = some target) :
    ruleOf body = some (field 0 1 body, ⟨enabled, property, op, BitVec.ofNat 16 (field 4 2 body),
      BitVec.ofNat 16 (field 6 2 body), andNext, action, target⟩) := by
  simp only [ruleOf, hen, hfl, hop, han, hac, htg]

/-! ## SET RULE (R65) -/

theorem exec_setRule {s : State} {x : Link} {f : Frame} (h : s.offers x 11 f = true) (hlen : f.body.length = 11) :
    exec (.setRule x) s = .next ((s.tookAt x).serveSetRule x f) :=
  congrArg _ (State.serveShort_served h (by simp [Frame.hasLength, hlen]))

theorem ruleOf_number {body : List Byte} {n : Nat} {r : Rule} (h : ruleOf body = some (n, r)) : n = field 0 1 body := by
  unfold ruleOf at h
  split at h
  · simp only [Option.some.injEq, Prod.mk.injEq] at h
    exact h.1.symm
  · cases h

theorem setRule_refused {s : State} {x : Link} {f : Frame} (h : s.offers x 11 f = true) (hlen : f.body.length = 11)
    (hbad : ruleOf f.body = none ∨ 7 < field 0 1 f.body) :
    exec (.setRule x) s = .next (s.answeredAt x f (.refused .badRequest)) := by
  rw [exec_setRule h hlen, ← State.reply_tookAt]
  unfold State.serveSetRule
  split
  · next n r hrule =>
    have hnum : ¬ n < 8 := by
      rcases hbad with hnone | hnum
      · cases hrule.symm.trans hnone
      · rw [ruleOf_number hrule]
        omega
    rw [dif_neg hnum]
  · rfl

theorem setRule_given {s : State} {x : Link} {f : Frame} {r : Rule} (h : s.offers x 11 f = true)
    (hlen : f.body.length = 11) (hn : field 0 1 f.body < 8) (hrule : ruleOf f.body = some (field 0 1 f.body, r)) :
    exec (.setRule x) s = .next { s with
      adm := { s.adm with rules := s.adm.rules.set (field 0 1 f.body) r }
      links := s.links.set x ((s.link x).answered f (.done .none)) } := by
  rw [exec_setRule h hlen]
  simp only [State.serveSetRule, hrule, dif_pos hn]
  cases x <;> rfl

/-- Settles O26: the number and the fields tested, then the record from the fields' codes. -/
theorem setRuleReplacesARule : Obligations.SetRuleReplacesARule := by
  refine fun x s f h hlen => ⟨fun hbad => setRule_refused h hlen ?_, fun hn hen hfl hop han hac htg => ?_⟩
  · exact hbad.symm.imp_left ruleOf_eq_none
  · refine setRule_given h hlen hn (ruleOf_eq_some (boolOfCode_of_le hen) ?_ ?_ (boolOfCode_of_le han)
      (RuleAction.ofCode_of_le hac) (targetOfCode_of_le htg))
    · interval_cases field 2 1 f.body <;> rfl
    · interval_cases field 3 1 f.body <;> rfl

/-! ## SET DEFAULT CLASS and SET STORE (R69, R136) -/

theorem exec_setDefaultClass {s : State} {x : Link} {f : Frame} (h : s.offers x 12 f = true)
    (hlen : f.body.length = 1) : exec (.setDefaultClass x) s = .next ((s.tookAt x).serveSetDefaultClass x f) :=
  congrArg _ (State.serveShort_served h (by simp [Frame.hasLength, hlen]))

theorem exec_setStore {s : State} {x : Link} {f : Frame} (h : s.offers x 16 f = true) (hlen : f.body.length = 1) :
    exec (.setStore x) s = .next ((s.tookAt x).serveSetStore x f) :=
  congrArg _ (State.serveShort_served h (by simp [Frame.hasLength, hlen]))

theorem State.serveSetDefaultClass_of_le {x : Link} {f : Frame} (s : State) (hn : field 0 1 f.body ≤ 4) :
    (s.tookAt x).serveSetDefaultClass x f = { s with
      adm := { s.adm with defaultClass := field 0 1 f.body }
      links := s.links.set x ((s.link x).answered f (.done .none)) } := by
  rw [State.serveSetDefaultClass]
  refine (if_pos hn).trans ?_
  cases x <;> rfl

theorem State.serveSetDefaultClass_of_gt {x : Link} {f : Frame} (s : State) (hn : 4 < field 0 1 f.body) :
    (s.tookAt x).serveSetDefaultClass x f = s.answeredAt x f (.refused .badRequest) := by
  have hnot : ¬ field 0 1 f.body ≤ 4 := by omega
  exact (if_neg hnot).trans (State.reply_tookAt s x f _)

/-- Settles O28: the default class by its bound, the run limit by its three ranges. -/
theorem defaultClassAndRunLimitAreSet : Obligations.DefaultClassAndRunLimitAreSet := by
  refine fun x s f hlen => ⟨fun h => ⟨fun hn => ?_, fun hn => ?_⟩, fun h => ?_⟩
  · rw [exec_setDefaultClass h hlen, State.serveSetDefaultClass_of_le s hn]
  · rw [exec_setDefaultClass h hlen, State.serveSetDefaultClass_of_gt s hn]
  · intro m
    have hlimit : max 1 (min 32 (field 0 1 f.body)) = m := by
      simp only [m]
      split_ifs <;> omega
    rw [exec_setStore h hlen, State.serveSetStore, hlimit]
    cases x <;> rfl

end Sys2Proof.Machine
end

section
/-!
PROOFS. Reports and admissions (R70 to R73) and SET WATERMARKS (R75, R76): what each move of the admission mode leaves.
-/

set_option Elab.async false
namespace Sys2Proof.Machine

/-! ## Moves of the admission mode (R71 to R73) -/

theorem State.closeAdmission_eq (s : State) :
    s.closeAdmission = { s with
      adm := { s.adm with mode := .closed, admits := 0 }
      links := ⟨s.links.a.placeNotice (.storeLow s.adm.freeCount),
        s.links.b.placeNotice (.storeLow s.adm.freeCount)⟩ } := rfl

theorem State.leaveNormal_of_pos {s : State} (h : 0 < s.adm.k) :
    s.leaveNormal = { s with adm := { s.adm with mode := .low, admits := s.adm.k } } := if_pos h

theorem State.leaveNormal_of_zero {s : State} (h : s.adm.k = 0) : s.leaveNormal = s.closeAdmission :=
  if_neg (by omega)

theorem State.openAdmission_of_closed {s : State} (h : s.adm.mode = .closed) :
    s.openAdmission = { s with
      adm := { s.adm with mode := .normal, admits := 0 }
      links := ⟨s.links.a.placeNotice (.storeOpen s.adm.freeCount),
        s.links.b.placeNotice (.storeOpen s.adm.freeCount)⟩ } := if_pos h

theorem State.openAdmission_of_not_closed {s : State} (h : s.adm.mode ≠ .closed) :
    s.openAdmission = { s with adm := { s.adm with mode := .normal, admits := 0 } } := if_neg h

/-! ## Reports (R71, R72) and admissions in LOW (R70) -/

/-- The state with the free count of a report. -/
def State.counted (n : Nat) (s : State) : State := { s with adm := { s.adm with freeCount := n } }

theorem State.reportFall_below {s : State} {n : Nat} (hmode : s.adm.mode = .normal) (hn : n < s.adm.lw) :
    s.reportFall n = (s.counted n).leaveNormal := if_pos ⟨hmode, hn⟩

theorem State.reportFall_kept {s : State} {n : Nat} (h : s.adm.mode ≠ .normal ∨ s.adm.lw ≤ n) :
    s.reportFall n = s.counted n := if_neg fun ⟨hmode, hn⟩ => h.elim (· hmode) (by omega)

theorem State.reportRise_above {s : State} {n : Nat} (hmode : s.adm.mode ≠ .normal) (hn : s.adm.hw ≤ n) :
    s.reportRise n = (s.counted n).openAdmission := if_pos ⟨hmode, hn⟩

theorem State.reportRise_kept {s : State} {n : Nat} (h : s.adm.mode = .normal ∨ n < s.adm.hw) :
    s.reportRise n = s.counted n := if_neg fun ⟨hmode, hn⟩ => h.elim hmode (by omega)

theorem State.useAdmit_of_not_low {s : State} (h : s.adm.mode ≠ .low) : s.useAdmit = s := if_neg h

/-- An admission in LOW that leaves admits. -/
theorem State.useAdmit_of_more {s : State} (hmode : s.adm.mode = .low) (h : 1 < s.adm.admits) :
    s.useAdmit = { s with adm := { s.adm with admits := s.adm.admits - 1 } } := by
  have hleft : ¬ s.adm.admits - 1 = 0 := by omega
  exact (if_pos hmode).trans (if_neg hleft)

/-- The last admission in LOW closes. -/
theorem State.useAdmit_of_last {s : State} (hmode : s.adm.mode = .low) (h : s.adm.admits = 1) :
    s.useAdmit = s.closeAdmission := by
  have hnone : s.adm.admits - 1 = 0 := by omega
  exact (if_pos hmode).trans (if_pos hnone)

/-- Settles O30: each report and each admission by the move it makes, and what that move leaves. -/
theorem reportsMoveTheAdmissionMode : Obligations.ReportsMoveTheAdmissionMode := by
  intro s n told
  refine ⟨fun hmode hn hk => ?_, fun hmode hn hk => ?_, State.reportFall_kept, fun hmode hn => ?_,
    fun hmode hn => ?_, State.reportRise_kept, State.useAdmit_of_not_low, State.useAdmit_of_more,
    State.useAdmit_of_last⟩
  · exact (State.reportFall_below hmode hn).trans (State.leaveNormal_of_pos hk)
  · exact (State.reportFall_below hmode hn).trans (State.leaveNormal_of_zero hk)
  · have hnot : s.adm.mode ≠ .normal ∧ s.adm.mode ≠ .closed := by simp [hmode]
    exact (State.reportRise_above hnot.1 hn).trans (State.openAdmission_of_not_closed hnot.2)
  · have hnot : s.adm.mode ≠ .normal := by simp [hmode]
    exact (State.reportRise_above hnot hn).trans (State.openAdmission_of_closed hmode)

/-! ## SET WATERMARKS (R75, R76) -/

theorem State.reevaluate_of_open {s : State} (h : s.adm.hw ≤ s.adm.freeCount) : s.reevaluate = s.openAdmission :=
  if_pos h

theorem State.reevaluate_of_below {s : State} (hhw : s.adm.freeCount < s.adm.hw) (hmode : s.adm.mode = .normal)
    (hlw : s.adm.freeCount < s.adm.lw) : s.reevaluate = s.leaveNormal :=
  (if_neg (by omega)).trans (if_pos ⟨hmode, hlw⟩)

theorem State.reevaluate_kept {s : State} (hhw : s.adm.freeCount < s.adm.hw)
    (h : s.adm.mode ≠ .normal ∨ s.adm.lw ≤ s.adm.freeCount) : s.reevaluate = s :=
  (if_neg (by omega)).trans (if_neg fun ⟨hmode, hlw⟩ => h.elim (· hmode) (by omega))

theorem exec_setWatermarks {s : State} {x : Link} {f : Frame} (h : s.offers x 14 f = true) (hlen : f.body.length = 5) :
    exec (.setWatermarks x) s = .next ((s.tookAt x).serveSetWatermarks x f) :=
  congrArg _ (State.serveShort_served h (by simp [Frame.hasLength, hlen]))

theorem setWatermarks_refused {s : State} {x : Link} {f : Frame} (h : s.offers x 14 f = true)
    (hlen : f.body.length = 5) (hk : 15 < field 4 1 f.body) :
    exec (.setWatermarks x) s = .next (s.answeredAt x f (.refused .badRequest)) := by
  have hnot : ¬ field 4 1 f.body ≤ 15 := by omega
  rw [exec_setWatermarks h hlen, ← State.reply_tookAt]
  exact congrArg _ (if_neg hnot)

/-- The state with the settings of a SET WATERMARKS, clamped, its frame taken from the link. -/
def State.remarked (x : Link) (f : Frame) (s : State) : State :=
  (s.tookAt x).modAdm fun a => { a with
    lw := min (field 0 2 f.body) (s.size.extents - 256)
    hw := max (min (field 2 2 f.body) (s.size.extents - 256)) (min (field 0 2 f.body) (s.size.extents - 256))
    k := field 4 1 f.body }

/-- The settings are answered with the mode that the re-evaluation leaves. -/
theorem setWatermarks_taken {s t : State} {x : Link} {f : Frame} (h : s.offers x 14 f = true)
    (hlen : f.body.length = 5) (hk : field 4 1 f.body ≤ 15) (ht : (s.remarked x f).reevaluate = t) :
    exec (.setWatermarks x) s = .next { t with
      links := t.links.set x ((t.links.get x).place (.reply 14 f.tag (.done
        (.watermarks (min (field 0 2 f.body) (s.size.extents - 256))
          (max (min (field 2 2 f.body) (s.size.extents - 256)) (min (field 0 2 f.body) (s.size.extents - 256)))
          (field 4 1 f.body) t.adm.mode)))) } := by
  rw [exec_setWatermarks h hlen, ← State.kind_of_offers h, ← ht]
  exact congrArg _ (if_pos hk)

/-- Settles O29: the count K tested, then the re-evaluation by its cases. -/
theorem setWatermarksClampsAndReevaluates : Obligations.SetWatermarksClampsAndReevaluates := by
  refine fun x s f h hlen => ⟨setWatermarks_refused h hlen, fun hk => ?_⟩
  intro lw hw k F took result
  have htaken := fun t => setWatermarks_taken (t := t) h hlen hk
  refine ⟨fun hopen => ?_, fun hhw hmode hlw hpos => ?_, fun hhw hmode hlw hzero => ?_, fun hhw hkept => ?_⟩
  · have heval := State.reevaluate_of_open (s := s.remarked x f) hopen
    by_cases hclosed : s.adm.mode = .closed
    · rw [if_pos hclosed]
      exact htaken _ (heval.trans (State.openAdmission_of_closed hclosed))
    · rw [if_neg hclosed]
      exact htaken _ (heval.trans (State.openAdmission_of_not_closed hclosed))
  · exact htaken _ ((State.reevaluate_of_below (s := s.remarked x f) hhw hmode hlw).trans
      (State.leaveNormal_of_pos hpos))
  · exact htaken _ ((State.reevaluate_of_below (s := s.remarked x f) hhw hmode hlw).trans
      ((State.leaveNormal_of_zero hzero).trans (State.closeAdmission_eq _)))
  · exact htaken _ (State.reevaluate_kept (s := s.remarked x f) hhw hkept)

end Sys2Proof.Machine
end

section
/-!
PROOFS. SET LANE TABLE (R81) and READ BAND in decoded form (R83, R85): what gives the lanes their table and a PROOF job.
-/

set_option Elab.async false
namespace Sys2Proof.Machine

/-! ## SET LANE TABLE (R81) -/

/-- A field of one byte is that byte. -/
theorem field_one {body : List Byte} {i : Nat} (h : i < body.length) : field i 1 body = body[i].toNat := by
  rw [field, List.drop_eq_getElem_cons h, List.take_succ_cons, List.take_zero]
  simp [beNat]

/-- The 32 entries are the fields after the table bits (R186). -/
theorem laneEntries_getElem? {body : List Byte} (hlen : body.length = 33) {i : Nat} (hi : i < 32) :
    (laneEntries body)[i]? = some (field (1 + i) 1 body) := by
  have hbyte : 1 + i < body.length := by omega
  rw [laneEntries, List.getElem?_map, List.getElem?_take_of_lt hi, List.getElem?_drop, List.getElem?_eq_getElem hbyte,
    field_one hbyte]
  rfl

theorem mem_laneEntries {body : List Byte} (hlen : body.length = 33) {n : Nat} :
    n ∈ laneEntries body ↔ ∃ i, i < 32 ∧ field (1 + i) 1 body = n := by
  have hentries : (laneEntries body).length = 32 := by simp [laneEntries, hlen]
  rw [List.mem_iff_getElem?]
  refine exists_congr fun i => ?_
  rcases Nat.lt_or_ge i 32 with hi | hi
  · simp [laneEntries_getElem? hlen hi, hi]
  · simp [List.getElem?_eq_none (hentries.trans_le hi), not_lt.2 hi]

theorem laneTableOf_eq_none {ns : List Nat} {n : Nat} (hn : n ∈ ns) (h : 3 < n) : laneTableOf ns = none :=
  if_neg fun hall => absurd (of_decide_eq_true (List.all_eq_true.1 hall n hn)) (not_le.2 h)

theorem laneTableOf_laneEntries {body : List Byte} (hlen : body.length = 33)
    (h : ∀ i, i < 32 → field (1 + i) 1 body ≤ 3) :
    laneTableOf (laneEntries body) = some (Vector.ofFn fun i : Fin 32 => Lane.ofNat (field (1 + i.val) 1 body)) := by
  have hall : (laneEntries body).all (fun n => decide (n ≤ 3)) = true := by
    refine List.all_eq_true.2 fun n hn => ?_
    obtain ⟨i, hi, rfl⟩ := (mem_laneEntries hlen).1 hn
    exact decide_eq_true (h i hi)
  rw [laneTableOf, if_pos hall]
  simp only [List.getD_eq_getElem?_getD, laneEntries_getElem? hlen (Fin.isLt _), Option.getD_some]

theorem exec_setLaneTable {s : State} {x : Link} {f : Frame} (h : s.offers x 13 f = true) (hlen : f.body.length = 33) :
    exec (.setLaneTable x) s = .next ((s.tookAt x).serveSetLaneTable x f) :=
  congrArg _ (State.serveShort_served h (by simp [Frame.hasLength, hlen]))

theorem setLaneTable_refused {s : State} {x : Link} {f : Frame} (h : s.offers x 13 f = true)
    (hlen : f.body.length = 33)
    (hbad : laneTableOf (laneEntries f.body) = none ∨ 5 < max 1 (field 0 1 f.body)) :
    exec (.setLaneTable x) s = .next (s.answeredAt x f (.refused .badRequest)) := by
  rw [exec_setLaneTable h hlen, ← State.reply_tookAt]
  unfold State.serveSetLaneTable
  dsimp only
  split
  · next t ht =>
    rcases hbad with hnone | hbits
    · cases ht.symm.trans hnone
    · rw [if_neg (not_le.2 hbits)]
  · rfl

theorem setLaneTable_given {s : State} {x : Link} {f : Frame} {t : Vector Lane 32} (h : s.offers x 13 f = true)
    (hlen : f.body.length = 33) (ht : laneTableOf (laneEntries f.body) = some t)
    (hbits : max 1 (field 0 1 f.body) ≤ 5) :
    exec (.setLaneTable x) s = .next { s with
      disp := { s.disp with tableBits := max 1 (field 0 1 f.body), table := t }
      links := s.links.set x ((s.link x).answered f (.done (.laneTable (max 1 (field 0 1 f.body))))) } := by
  rw [exec_setLaneTable h hlen]
  simp only [State.serveSetLaneTable, ht, if_pos hbits]
  cases x <;> rfl

/-- Settles O31: the entries and the bits tested, then the table read off the entries. -/
theorem setLaneTableReplacesTheTable : Obligations.SetLaneTableReplacesTheTable := by
  intro x s f h hlen b
  have hb : max 1 (field 0 1 f.body) = b := by
    show _ = if _ then _ else _
    split <;> omega
  refine ⟨fun hbad => setLaneTable_refused h hlen ?_, fun hbits hentries => ?_⟩
  · rcases hbad with hbits | ⟨i, hi, hentry⟩
    · exact .inr (hb ▸ hbits)
    · exact .inl (laneTableOf_eq_none ((mem_laneEntries hlen).2 ⟨i, hi, rfl⟩) hentry)
  · rw [← hb]
    refine setLaneTable_given h hlen ((laneTableOf_laneEntries hlen hentries).trans ?_) (hb.trans_le hbits)
    refine congrArg (fun lanes => some (Vector.ofFn lanes)) (funext fun i => ?_)
    have hentry := hentries i i.isLt
    interval_cases field (1 + i.val) 1 f.body <;> rfl

/-! ## READ BAND in decoded form (R83, R85) -/

/-- An idle lane begins the PROOF job that comes to its empty queue: its record read is placed (R84, R85, R92). -/
theorem State.laneTake_jobQueued_proof {s : State} {l : Lane} {j : Job} {p : Page} {x : Link} {n : Nat} {g : Byte}
    (hidle : s.lane l = .idle) (hempty : s.disp.queues.get l = [])
    (hpending : ∀ k ∈ s.disp.allPending, k.lane ≠ l) (hp : s.page j.page = some p)
    (hsource : j.source = .request x n g) :
    (s.jobQueued l j).laneTake l = { s with
      disp := { s.disp with
        nextArrival := s.disp.nextArrival + 1, lanes := s.disp.lanes.set l (.decoding j .recordRead) }
      dir := { s.dir with pages := pagesWith j.page Page.begun s.dir.pages }
      arb := s.opPlaced ⟨.lane l, recordBurst p.header (j.band * p.c + j.comp),
        .read (recordMask (j.band * p.c + j.comp) 1) true⟩ } := by
  have hqueue : (s.jobQueued l j).disp.queues.get l = [j] := by
    simp [State.jobQueued, hempty]
  have hqueues : s.disp.queues.set l [] = s.disp.queues := by
    rw [← hempty, Four.set_get_self]
  have hfirst : firstJob Job.ahead ((s.jobQueued l j).disp.queues.get l) = some j := by
    rw [hqueue]
    rfl
  have hmoved : ∀ a : Arbiter,
      State.movePending l { (s.jobQueued l j).jobBegun l j (.decoding j .recordRead) with arb := a } =
        { (s.jobQueued l j).jobBegun l j (.decoding j .recordRead) with arb := a } :=
    fun _ => State.movePending_of_none hpending
  rw [State.laneTake_of_first (s := s.jobQueued l j) hidle hfirst,
    State.startJob_proof (s := s.jobQueued l j) l hp hsource, hmoved, State.jobBegun, hqueue]
  simp only [State.jobQueued, Four.set_set, List.filter_cons, List.filter_nil, bne_self_eq_false, Bool.false_eq_true,
    if_false, hqueues]
  rfl

/-- No PROOF job of the band-component is queued or running. -/
theorem Dispatcher.proving_eq_false {s : State} {page band comp : Nat}
    (h : ∀ j, (j ∈ s.disp.waiting ∨ ∃ l, (s.lane l).job = some j) → (∃ y k g, j.source = .request y k g) →
      j.page = page → j.band = band → j.comp ≠ comp) : s.disp.proving page band comp = false := by
  rw [Bool.eq_false_iff]
  intro hproving
  obtain ⟨j, hj, hproves⟩ : ∃ j, (j ∈ s.disp.waiting ∨ ∃ l, (s.lane l).job = some j) ∧
      j.proves page band comp = true := by
    simp only [Dispatcher.proving, Bool.or_eq_true, List.any_eq_true] at hproving
    rcases hproving with ⟨j, hj, hproves⟩ | ⟨l, -, hruns⟩
    · exact ⟨j, .inl hj, hproves⟩
    · cases hjob : (s.disp.lanes.get l).job with
      | none => simp [hjob] at hruns
      | some j => exact ⟨j, .inr ⟨l, hjob⟩, by simpa [hjob] using hruns⟩
  obtain ⟨hsource, hpage, hband, hcomp⟩ := (j.proves_iff page band comp).1 hproves
  exact h j hj hsource hpage hband hcomp

/-- The PROOF job of a READ BAND, as the dispatcher takes it under the next ticket (R78). -/
def State.proofJob (s : State) (p : Page) (x : Link) (f : Frame) : Job :=
  ⟨p.id, field 2 2 f.body, field 4 1 f.body, p.cls, .request x s.nextTicket f.tag,
    s.disp.destined p.id (field 2 2 f.body) (field 4 1 f.body), s.disp.nextArrival⟩

/-- A READ BAND that passes its checks joins the queue of its destined lane, which takes it if it is idle. -/
theorem readBandDecoded_queued {s : State} {x : Link} {f : Frame} {p : Page} (h : s.offersLong x 6 f = true)
    (h0 : field 5 1 f.body = 0) (hp : s.page (field 0 2 f.body) = some p)
    (hnone : p.readBandRefusal (field 2 2 f.body) (field 4 1 f.body) = none)
    (hfree : s.disp.proving p.id (field 2 2 f.body) (field 4 1 f.body) = false)
    (hroom : (s.disp.queues.get (s.proofJob p x f).lane).length < 8) :
    exec (.readBandDecoded x) s = .next (State.arbitrate (State.laneTake (s.proofJob p x f).lane
      ((s.madeLong x f).jobQueued (s.proofJob p x f).lane (s.proofJob p x f)))) := by
  obtain ⟨hretiring, hopening, hband, hcomp⟩ := p.readBandRefusal_eq_none.1 hnone
  have hplace : ¬ (p.b ≤ field 2 2 f.body ∨ p.c ≤ field 4 1 f.body) := by omega
  have hdisp : (s.madeLong x f).disp = s.disp := rfl
  have hplaces : ¬ Config.laneQueuePlaces ≤
    (s.disp.queues.get (s.disp.destined p.id (field 2 2 f.body) (field 4 1 f.body))).length := not_le.2 hroom
  rw [exec_readBandDecoded h h0]
  simp only [State.serveReadBandDecoded, BandFields.of, State.madeLong_page, hp, hdisp, hretiring, hopening, hplace,
    hfree, hplaces, if_false, Bool.false_eq_true]
  rfl

/-- Settles O33: the request passes its checks, and its lane is busy or takes the job from its empty queue. -/
theorem readBandDecodedQueuesAProofJob : Obligations.ReadBandDecodedQueuesAProofJob := by
  intro x s f p i hi h h0 hp hretiring hopening hband hcomp hother hlane
  rw [← s.disp.destined_eq hi hlane]
  intro l j
  have hqueued := readBandDecoded_queued h h0 hp
    (p.readBandRefusal_eq_none.2 ⟨hretiring, hopening, hband, hcomp⟩) (Dispatcher.proving_eq_false hother)
  refine ⟨fun hbusy hroom => ?_, fun hidle hempty hpending => ?_⟩
  · rw [hqueued hroom, State.laneTake_of_busy]
    · rfl
    · exact hbusy
  · have hroom : (s.disp.queues.get l).length < 8 := (congrArg List.length hempty).trans_lt (by decide)
    have hpage : (s.madeLong x f).page p.id = some p := by rwa [State.madeLong_page, State.id_of_page hp]
    refine (hqueued hroom).trans (congrArg (fun t : State => Host.Outcome.next t.arbitrate) ?_)
    exact State.laneTake_jobQueued_proof (s := s.madeLong x f) (j := s.proofJob p x f) hidle hempty
      hpending hpage rfl

end Sys2Proof.Machine
end

section
/-!
PROOFS. The PROOF job (R85, R92 to R94, R163, R165, R175, R188): how it ends, what its record read decides, and its rows
as they are decoded and placed.
-/

set_option Elab.async false
namespace Sys2Proof.Machine

/-! ## The end of a job (R85, R92, R94) -/

/-- The state in which a PROOF job has been answered and is over and its lane free, before the lane takes its next job:
the record of its page changed by `f`, and the arbiter as `a` but for a release that begins. -/
def State.proofEnded (s : State) (l : Lane) (p : Page) (x : Link) (n : Nat) (r : ReplyResult) (f : Page → Page)
    (a : Arbiter) : State :=
  { s with
    links := longReplied x n r s.links
    disp := { s.disp with lanes := s.disp.lanes.set l .idle }
    dir := { s.dir with
      pages := pagesWith p.id (fun q => { f q with work := q.work - 1 }) s.dir.pages
      releases := releasesAfterWork p s.dir.releases }
    arb := { a with tableQueue := queueAfterWork p a.tableQueue } }

section Job
variable {s : State} {j : Job} {p : Page} {x : Link} {n : Nat} {g : Byte}

theorem Job.link_of_request (hsource : j.source = .request x n g) : j.link = x := by
  simp only [Job.link, hsource]

theorem State.proofOver_answered (l : Lane) (r : ReplyResult) (hp : s.page j.page = some p)
    (hsource : j.source = .request x n g) :
    (s.proofReply j r).proofOver l j = State.laneTake l (s.proofEnded l p x n r id s.arb) := by
  simp only [State.proofOver, State.proofReply, hsource, State.answer_eq, State.laneFree]
  rw [State.endWork_eq (p := p), ← State.id_of_page hp]
  · rfl
  · exact hp

/-- A PROOF job that a damage event ends: the event and the fall of the work are one change of the page's record. -/
theorem State.proofOver_damaged (l : Lane) (r : ReplyResult) (a : Arbiter) (hp : s.page j.page = some p)
    (hsource : j.source = .request x n g) :
    (State.proofReply j r { s with
      dir := { s.dir with pages := pagesWith j.page Page.damagedOnce s.dir.pages }, arb := a }).proofOver l j =
      State.laneTake l (s.proofEnded l p x n r Page.damagedOnce a) := by
  have hdamaged := State.page_of_pagesWith (f := Page.damagedOnce) (s := s) (t := { s with
    dir := { s.dir with pages := pagesWith j.page Page.damagedOnce s.dir.pages }, arb := a }) rfl (fun _ => rfl) hp
  have hfused : pagesWith p.damagedOnce.id (fun q => { id q with work := q.work - 1 })
      (pagesWith j.page Page.damagedOnce s.dir.pages) =
      pagesWith p.id (fun q => { q.damagedOnce with work := q.work - 1 }) s.dir.pages := by
    rw [← State.id_of_page hp]
    exact pagesWith_pagesWith p.id (f := Page.damagedOnce) (fun q => { q with work := q.work - 1 }) (fun _ => rfl) _
  rw [State.proofOver_answered l r hdamaged hsource]
  simp only [State.proofEnded, hfused]
  rfl

/-- The job is complete (R94). -/
theorem State.proofDone_eq (l : Lane) (r : BandRecord) (hr : Nat) (hp : s.page j.page = some p)
    (hsource : j.source = .request x n g) :
    s.proofDone l j r hr = State.laneTake l
      (s.proofEnded l p x n (.done (.proofDone j.page j.band j.comp r.mode r.words hr)) id s.arb) :=
  State.proofOver_answered l _ hp hsource

/-- A decoding failure (R94, R165). -/
theorem State.proofFail_eq (l : Lane) (r : BandRecord) (cause : Detail) (row : Nat) (hp : s.page j.page = some p)
    (hsource : j.source = .request x n g) :
    s.proofFail l j r cause row = State.laneTake l (s.proofEnded l p x n (.damaged cause row) Page.damagedOnce
      (s.markPlaced p (j.band * p.c + j.comp) r false)) := by
  rw [State.proofFail, State.jobIndex_eq hp, State.payloadDamage_eq hp, State.proofOver_damaged l _ _ hp hsource]

end Job

/-! ## Decoding without bits, and the rows of a band (R17, R20, R22) -/

/-- A sample needs bits. -/
theorem Context.decode_nil {c : Context} (hd : 0 < c.d) : c.decode [] = .short := by
  by_cases hraw : c.form = .raw
  · exact (Context.decode_raw_cut (begun := []) hraw hd).1
  · exact Context.decode_coded_short hraw rfl

/-- A decoding with no bits at hand waits for words, or fails where none can be read. -/
theorem Decoder.runRow_of_empty {k : Decoder} (hbuf : k.buf = []) (hd : 0 < k.ctx.d)
    (hw : k.ctx.cur.length < k.ctx.w) : k.runRow = (k, if k.canRead then .needWords else .failed .stream) := by
  obtain ⟨m, hm⟩ : ∃ m, k.ctx.w - k.ctx.cur.length = m + 1 := ⟨k.ctx.w - k.ctx.cur.length - 1, by omega⟩
  rw [Decoder.runRow, hm, Decoder.samples_of_short]
  rw [hbuf, Context.decode_nil hd]

@[simp] theorem Context.push_hr (c : Context) (y : Nat) : (c.push y).hr = c.hr :=
  congrArg (·.hr) (c.push_frame y)

@[simp] theorem Context.pushCoded_hr (c : Context) (q : Int) (y : Nat) : (c.pushCoded q y).hr = c.hr := by
  simp [Context.pushCoded]

theorem Context.decode_hr {c c2 : Context} {buf rest : List (Option Bool)} (h : c.decode buf = .got c2 rest) :
    c2.hr = c.hr := by
  by_cases hraw : c.form = .raw
  · rw [Context.decode_raw hraw] at h
    split at h
    · cases h
      simp
    · cases h
    · cases h
  · obtain ⟨m, -, rfl⟩ := Context.decode_coded_got hraw h
    simp

theorem Decoder.samples_hr (n : Nat) (k : Decoder) : (k.samples n).1.ctx.hr = k.ctx.hr := by
  induction n generalizing k with
  | zero => rfl
  | succ n ih =>
    cases hgot : k.ctx.decode k.buf with
    | got c rest => rw [Decoder.samples_of_got n hgot, ih, Context.decode_hr hgot]
    | short => rw [Decoder.samples_of_short n hgot]
    | stop cause => rw [Decoder.samples_of_stop n hgot]

/-- Decoding keeps the row count of the band. -/
theorem Decoder.runRow_hr {k k2 : Decoder} {stop : RowStop} (hrun : k.runRow = (k2, stop)) : k2.ctx.hr = k.ctx.hr := by
  have hkept := Decoder.samples_hr (k.ctx.w - k.ctx.cur.length) k
  rwa [← Decoder.runRow, hrun] at hkept

/-! ## The DATA frames of a row (R93, R188) -/

/-- One frame for every 8,000 samples or part of them, in rising first column. -/
theorem rowFrames_eq (tag : Byte) (page band comp row : Nat) (o : ContainerOrder) (n col : Nat) (xs : List Nat)
    (hn : xs.length ≤ 8000 * n) :
    rowFrames tag page band comp row o n col xs = (List.range ((xs.length + 7999) / 8000)).map fun i =>
      .proofRow tag page band comp row (col + 8000 * i) o ((xs.drop (8000 * i)).take 8000) := by
  induction n generalizing col xs with
  | zero =>
    obtain rfl : xs = [] := List.length_eq_zero_iff.1 (by omega)
    rfl
  | succ n ih =>
    cases xs with
    | nil => rfl
    | cons y ys =>
      have hrest : ((y :: ys).drop 8000).length ≤ 8000 * n := by
        rw [List.length_drop]
        omega
      have hcount : ((y :: ys).length + 7999) / 8000 = (((y :: ys).drop 8000).length + 7999) / 8000 + 1 := by
        simp only [List.length_drop, List.length_cons]
        omega
      have hcol : ∀ i, col + 8000 + 8000 * i = col + 8000 * (i + 1) := fun i => by omega
      have hdrop : ∀ i, ((y :: ys).drop 8000).drop (8000 * i) = (y :: ys).drop (8000 * (i + 1)) := fun i => by
        rw [List.drop_drop, Nat.mul_succ, Nat.add_comm]
      rw [rowFrames, show Config.frameSamples = 8000 from rfl, ih _ _ hrest, hcount, List.range_succ_eq_map]
      simp only [List.map_cons, List.map_map, Function.comp_def, hcol, hdrop]
      rfl

/-- A row of at most 8,000 samples is one frame. -/
theorem oneFrame_of_length_le {ys : List Nat} (hne : ys ≠ []) (hlen : ys.length ≤ 8000)
    (frame : Nat → List Nat → OutFrame) :
    ((List.range ((ys.length + 7999) / 8000)).map fun i => frame (8000 * i) ((ys.drop (8000 * i)).take 8000)) =
      [frame 0 ys] := by
  have hpos := List.length_pos_iff.2 hne
  have hone : (ys.length + 7999) / 8000 = 1 := by omega
  simp [hone, List.take_of_length_le hlen]

/-! ## Frames placed (R93, R175) -/

section Rows
variable {l : Lane} {c : LinkCtl} {f : OutFrame} {rest : List OutFrame}

theorem LinkCtl.placeRows_of_free (hwaiters : c.waiters = []) (hplace : c.hasPlace = true) :
    LinkCtl.placeRows l (f :: rest) c = LinkCtl.placeRows l rest (c.place f) := by
  simp [LinkCtl.placeRows, hwaiters, hplace]

theorem LinkCtl.placeRows_of_waiting (h : c.waiters ≠ [] ∨ c.hasPlace = false) :
    LinkCtl.placeRows l (f :: rest) c = (f :: rest, { c with waiters := c.waiters ++ [.lane l] }) := by
  have hnot : ¬ (c.waiters.isEmpty && c.hasPlace) = true := by
    rcases h with h | h <;> simp [h]
  rw [LinkCtl.placeRows, if_neg hnot]

end Rows

theorem State.placeRows_eq {s : State} {l : Lane} {x : Link} {fs left : List OutFrame} {c : LinkCtl}
    (h : LinkCtl.placeRows l fs (s.link x) = (left, c)) :
    s.placeRows l x fs = (left, { s with links := s.links.set x c }) := by
  have hlink : LinkCtl.placeRows l fs (s.links.get x) = (left, c) := h
  simp only [State.placeRows, State.modLink, h, hlink]

/-! ## A row decoded (R93, R94) -/

section Run
variable {s : State} {l : Lane} {j : Job} {r : BandRecord} {k k2 : Decoder} {p : Page} {x : Link} {n : Nat} {g : Byte}

theorem State.proofRun_of_last (h : k.ctx.hr ≤ k.ctx.row) : s.proofRun l j r k = s.proofDone l j r k.ctx.hr := by
  rw [State.proofRun, State.proofAdvance, if_pos h]

theorem State.proofRun_of_needWords (h : k.ctx.row < k.ctx.hr) (hrun : k.runRow = (k2, .needWords)) :
    s.proofRun l j r k = s.setLane l (.decoding j (.rows r k2 [])) := by
  simp only [State.proofRun, State.proofAdvance, if_neg (not_le.2 h), hrun]

theorem State.proofRun_of_failed {cause : Detail} (h : k.ctx.row < k.ctx.hr) (hrun : k.runRow = (k2, .failed cause)) :
    s.proofRun l j r k = s.proofFail l j r cause k2.ctx.row := by
  simp only [State.proofRun, State.proofAdvance, if_neg (not_le.2 h), hrun]

/-- The frames of the row a decoding has delivered. -/
theorem State.proofFrames_eq {ys : List Nat} (hp : s.page j.page = some p) (hsource : j.source = .request x n g)
    (hys : k.lastRow = some ys) :
    s.proofFrames j k = (List.range ((ys.length + 7999) / 8000)).map fun i =>
      .proofRow g j.page j.band j.comp (k.ctx.row - 1) (8000 * i) p.order ((ys.drop (8000 * i)).take 8000) := by
  simp only [State.proofFrames, hsource, hp, hys, Option.getD_some]
  rw [rowFrames_eq _ _ _ _ _ _ _ _ _ (by simp only [show Config.frameSamples = 8000 from rfl]; omega)]
  simp only [Nat.zero_add]

/-- The row is out: the lane decodes on. -/
theorem State.proofRun_of_placed {c : LinkCtl} (h : k.ctx.row < k.ctx.hr) (hrun : k.runRow = (k2, .rowDone))
    (hsource : j.source = .request x n g) (hplaced : LinkCtl.placeRows l (s.proofFrames j k2) (s.link x) = ([], c)) :
    s.proofRun l j r k =
      State.proofAdvance l j r (k.ctx.hr - k.ctx.row) k2 { s with links := s.links.set x c } := by
  simp only [State.proofRun, State.proofAdvance, if_neg (not_le.2 h), hrun, Job.link_of_request hsource,
    State.placeRows_eq hplaced]

/-- Frames of the row are left: the lane waits with them. -/
theorem State.proofRun_of_left {c : LinkCtl} {left : List OutFrame} (h : k.ctx.row < k.ctx.hr)
    (hrun : k.runRow = (k2, .rowDone)) (hsource : j.source = .request x n g)
    (hplaced : LinkCtl.placeRows l (s.proofFrames j k2) (s.link x) = (left, c)) (hleft : left ≠ []) :
    s.proofRun l j r k = { s with
      links := s.links.set x c
      disp := { s.disp with lanes := s.disp.lanes.set l (.decoding j (.rows r k2 left)) } } := by
  obtain ⟨f, rest, rfl⟩ := List.exists_cons_of_ne_nil hleft
  simp only [State.proofRun, State.proofAdvance, if_neg (not_le.2 h), hrun, Job.link_of_request hsource,
    State.placeRows_eq hplaced]
  rfl

/-- The bound on the rows left is that of the decoding as it stands after a row. -/
theorem State.proofAdvance_of_next {stop : RowStop} (h : k.ctx.row < k.ctx.hr) (hrun : k.runRow = (k2, stop))
    (hnext : k2.ctx.row = k.ctx.row + 1) :
    s.proofAdvance l j r (k.ctx.hr - k.ctx.row) k2 = s.proofRun l j r k2 := by
  have hbound : k.ctx.hr - k.ctx.row = k2.ctx.hr - k2.ctx.row + 1 := by
    rw [Decoder.runRow_hr hrun]
    omega
  rw [State.proofRun, hbound]

end Run

/-! ## The band record read (R92, R163) -/

/-- An ended operation taken changes nothing of where the next operation is placed. -/
theorem State.opPlaced_endTaken (s : State) (e : TableEnd) (op : TableOp) :
    (s.endTaken e).opPlaced op = { s.opPlaced op with tableEnds := s.arb.tableEnds.erase e } := by
  have hmade : (s.endTaken e).stillMade op.client = s.stillMade op.client := rfl
  unfold State.opPlaced
  rw [hmade]
  split <;> rfl

theorem State.markPlaced_endTaken (s : State) (e : TableEnd) (p : Page) (index : Nat) (r : BandRecord)
    (byPress : Bool) :
    (s.endTaken e).markPlaced p index r byPress =
      { s.markPlaced p index r byPress with tableEnds := s.arb.tableEnds.erase e } := by
  unfold State.markPlaced
  split
  · exact s.opPlaced_endTaken e _
  · rfl

section Record
variable {s : State} {l : Lane} {j : Job} {e : TableEnd} {r : BandRecord} {p : Page} {x : Link} {n : Nat} {g : Byte}

theorem exec_proofRecordReadEnd (hlane : s.lane l = .decoding j .recordRead)
    (he : s.arb.tableEnds.find? (fun e => e.op.client == .lane l) = some e) :
    exec (.proofRecordReadEnd l) s =
      .next ((s.endTaken e).proofRecord l j e).arbitrate := by
  have hexec : exec (.proofRecordReadEnd l) s = execProofRecordReadEnd l s := rfl
  simp only [hexec, execProofRecordReadEnd, hlane, State.takeEnd_of_find (mine := (· == .lane l)) he]
  rfl

theorem State.proofRecord_of_bad (hr : readRecord (s.jobIndex j) e.words = (r, true)) :
    s.proofRecord l j e = ((s.damageEvent j.page).proofReply j (.damaged .record 0)).proofOver l j := by
  simp only [State.proofRecord, hr, if_true]

theorem State.proofRecord_of_pending (hr : readRecord (s.jobIndex j) e.words = (r, false))
    (hstate : r.state = .pending) : s.proofRecord l j e = (s.proofReply j (.refused .notCoded)).proofOver l j := by
  simp only [State.proofRecord, hr, Bool.false_eq_true, if_false, if_pos hstate]

/-- The decoding of a band-component as its record begins it (R92). -/
def State.proofDecoder (s : State) (j : Job) (p : Page) (r : BandRecord) : Decoder :=
  ⟨Context.fresh (s.profileOf p) p.w (s.rowsOf p j.band) (if r.mode = .raw then .raw else .coded), r.words, 0,
    s.map.openChain p.id (j.band * p.c + j.comp) r.first, []⟩

theorem State.proofRecord_of_good (hr : readRecord (s.jobIndex j) e.words = (r, false)) (hstate : r.state ≠ .pending)
    (hp : s.page j.page = some p) : s.proofRecord l j e = s.proofRun l j r (s.proofDecoder j p r) := by
  simp only [State.proofRecord, hr, Bool.false_eq_true, if_false, if_neg hstate, hp]
  rw [State.jobIndex_eq hp]
  rfl

/-- A decoding that its record begins has no bits: it waits for the first words, or fails where none can be read. -/
theorem State.proofDecoder_runRow (hw : 0 < p.w) (hd : 0 < (s.profileOf p).d) :
    (s.proofDecoder j p r).runRow =
      (s.proofDecoder j p r, if (s.proofDecoder j p r).canRead then .needWords else .failed .stream) :=
  Decoder.runRow_of_empty rfl hd hw

/-- A record that names words and a chain: decoding begins, and waits for the first words. -/
theorem State.proofRecord_reads {first : Nat} (hr : readRecord (s.jobIndex j) e.words = (r, false))
    (hstate : r.state ≠ .pending) (hp : s.page j.page = some p) (hw : 0 < p.w) (hrows : 0 < s.rowsOf p j.band)
    (hd : 0 < (s.profileOf p).d) (hwords : 0 < r.words)
    (hfirst : s.map.openChain p.id (j.band * p.c + j.comp) r.first = some first) :
    s.proofRecord l j e = s.setLane l (.decoding j (.rows r (s.proofDecoder j p r) [])) := by
  have hread : (s.proofDecoder j p r).canRead = true :=
    (Decoder.canRead_iff _).2 ⟨hwords, fun hnone => nomatch hfirst.symm.trans hnone⟩
  rw [State.proofRecord_of_good hr hstate hp]
  exact State.proofRun_of_needWords hrows (by rw [State.proofDecoder_runRow hw hd, if_pos hread])

/-- A record of no words, or one whose chain does not open: the decoding fails in row 0. -/
theorem State.proofRecord_ended (hr : readRecord (s.jobIndex j) e.words = (r, false)) (hstate : r.state ≠ .pending)
    (hp : s.page j.page = some p) (hw : 0 < p.w) (hrows : 0 < s.rowsOf p j.band) (hd : 0 < (s.profileOf p).d)
    (hended : r.words = 0 ∨ s.map.openChain p.id (j.band * p.c + j.comp) r.first = none) :
    s.proofRecord l j e = s.proofFail l j r .stream 0 := by
  have hread : ¬ (s.proofDecoder j p r).canRead = true := fun hread => by
    obtain ⟨hmore, hopen⟩ := (Decoder.canRead_iff _).1 hread
    exact hended.elim hmore.ne' hopen
  rw [State.proofRecord_of_good hr hstate hp]
  exact State.proofRun_of_failed (k2 := s.proofDecoder j p r) hrows
    (by rw [State.proofDecoder_runRow hw hd, if_neg hread])

end Record

/-- Settles O37: the record by its parity and its state, then its decoding by whether it can read a word. -/
theorem proofRecordDecidesTheJob : Obligations.ProofRecordDecidesTheJob := by
  intro l s j p e x k g hlane hsource hp he index record bad ended
  have hexec := exec_proofRecordReadEnd hlane he
  have hpage : (s.endTaken e).page j.page = some p := hp
  have hread : ∀ b, bad = b → readRecord ((s.endTaken e).jobIndex j) e.words = (record, b) := by
    rintro b rfl
    rw [State.jobIndex_eq hpage]
    rfl
  refine ⟨fun hbad => ?_, fun hgood hstate => ?_, fun hgood hstate hw hrows hd hwords first hfirst => ?_,
    fun hgood hstate hw hrows hd hended => ?_⟩
  · rw [hexec, State.proofRecord_of_bad (hread true hbad), State.damageEvent_eq,
      State.proofOver_damaged l _ _ hpage hsource]
    rfl
  · rw [hexec, State.proofRecord_of_pending (hread false hgood) hstate, State.proofOver_answered l _ hpage hsource]
    rfl
  · rw [hexec, State.proofRecord_reads (hread false hgood) hstate hpage hw hrows hd hwords hfirst, ← hfirst]
    rfl
  · intro marked
    rw [hexec, State.proofRecord_ended (hread false hgood) hstate hpage hw hrows hd hended,
      State.proofFail_eq l _ _ _ hpage hsource, State.markPlaced_endTaken]
    rfl

/-! ## A row placed in turn (R93, R175) -/

/-- The link on which the lane that has waited longest has placed the frame it holds. -/
def LinkCtl.turnTaken (c : LinkCtl) (f : OutFrame) : LinkCtl := LinkCtl.place f { c with waiters := c.waiters.tail }

section Turn
variable {s : State} {l : Lane} {j : Job} {r : BandRecord} {k : Decoder} {f : OutFrame} {rest left : List OutFrame}
  {x : Link} {n : Nat} {g : Byte} {c : LinkCtl}

/-- The frames after the first find the link as the first has left it. -/
theorem State.placeRows_turnTaken (h : LinkCtl.placeRows l rest ((s.link x).turnTaken f) = (left, c)) :
    (s.modLink x fun c => c.turnTaken f).placeRows l x rest = (left, { s with links := s.links.set x c }) := by
  rw [State.placeRows_eq ((congrArg _ (State.link_modLink_self s x _)).trans h)]
  simp only [State.modLink, Pair.set_set]

theorem State.proofPlace_of_placed (hsource : j.source = .request x n g)
    (h : LinkCtl.placeRows l rest ((s.link x).turnTaken f) = ([], c)) :
    s.proofPlace l j r k f rest = State.proofRun l j r k { s with links := s.links.set x c } := by
  have hrows := State.placeRows_turnTaken h
  simp only [LinkCtl.turnTaken] at hrows
  simp only [State.proofPlace, Job.link_of_request hsource, hrows]

theorem State.proofPlace_of_left (hsource : j.source = .request x n g)
    (h : LinkCtl.placeRows l rest ((s.link x).turnTaken f) = (left, c)) (hleft : left ≠ []) :
    s.proofPlace l j r k f rest = { s with
      links := s.links.set x c
      disp := { s.disp with lanes := s.disp.lanes.set l (.decoding j (.rows r k left)) } } := by
  obtain ⟨f2, more, rfl⟩ := List.exists_cons_of_ne_nil hleft
  have hrows := State.placeRows_turnTaken h
  simp only [LinkCtl.turnTaken] at hrows
  simp only [State.proofPlace, Job.link_of_request hsource, hrows]
  rfl

theorem exec_proofRowPlace (hlane : s.lane l = .decoding j (.rows r k (f :: rest)))
    (hsource : j.source = .request x n g) (hplace : (s.link x).hasPlace = true)
    (hturn : (s.link x).waiters.head? = some (.lane l)) :
    exec (.proofRowPlace l) s = .next (s.proofPlace l j r k f rest).arbitrate := by
  have hexec : exec (.proofRowPlace l) s = execProofRowPlace l s := rfl
  simp only [hexec, execProofRowPlace, hlane, Job.link_of_request hsource, hplace, hturn, beq_self_eq_true,
    Bool.and_self, if_true]

end Turn

/-- Settles O38: the frame placed in turn by what is left of the row, and the decoding by what its row comes to. -/
theorem proofRowsArePlacedInTurn : Obligations.ProofRowsArePlacedInTurn := by
  intro l s j r k x n g hsource lane released
  refine ⟨fun c f rest => ⟨rfl, LinkCtl.placeRows_of_free, LinkCtl.placeRows_of_waiting⟩,
    fun f rest hlane hplace hturn => ?_, fun p hlast hp => ?_, fun k2 p hrow hp =>
      ⟨fun hrun => ?_, fun cause hrun => ?_, fun ys hrun hys hne =>
        ⟨fun left c hplaced => ?_, fun hlen => ?_⟩⟩⟩
  · intro placed
    have hexec := exec_proofRowPlace hlane hsource hplace hturn
    have hout : ∀ c, LinkCtl.placeRows l rest placed = ([], c) → exec (.proofRowPlace l) s =
        .next (State.arbitrate (State.proofRun l j r k { s with links := s.links.set x c })) := fun c h => by
      rw [hexec, State.proofPlace_of_placed hsource h]
    refine ⟨fun left c h => ⟨fun hleft => ?_, ?_⟩, ?_, ?_, ?_, ?_⟩
    · rw [hexec, State.proofPlace_of_left hsource h hleft]
    · rintro rfl
      exact hout c h
    · rintro h more rfl hwaits
      rw [hexec, State.proofPlace_of_left hsource (LinkCtl.placeRows_of_waiting hwaits) (List.cons_ne_nil _ _)]
      rfl
    · rintro rfl hrow k2 hrun
      rw [hout placed rfl, State.proofRun_of_needWords hrow hrun]
      rfl
    · rintro rfl - k2 cause -
      exact hout placed rfl
    · rintro rfl hlast p hp
      rw [hout placed rfl, State.proofRun_of_last hlast, State.proofDone_eq l r _ (p := p) (by exact hp) hsource]
      rfl
  · rw [State.proofRun_of_last hlast, State.proofDone_eq l r _ hp hsource]
    rfl
  · rw [State.proofRun_of_needWords hrow hrun]
    rfl
  · rw [State.proofRun_of_failed hrow hrun, State.proofFail_eq l r _ _ hp hsource]
    rfl
  · rw [← State.proofFrames_eq hp hsource hys] at hplaced
    refine ⟨?_, ?_, State.proofRun_of_left hrow hrun hsource hplaced⟩
    · rintro rfl
      exact State.proofRun_of_placed hrow hrun hsource hplaced
    · rintro rfl hnext
      rw [State.proofRun_of_placed hrow hrun hsource hplaced, State.proofAdvance_of_next hrow hrun hnext]
  · exact oneFrame_of_length_le hne hlen
      fun col samples => .proofRow g j.page j.band j.comp (k2.ctx.row - 1) col p.order samples

end Sys2Proof.Machine
end

section
/-!
PROOFS. What every step keeps: the store in its canonical form, the owed refresh count (R117), the settings in their
ranges (R69, R75, R81, R136, R143), the soundness of counts and tickets, and the places (R175, R24, R82, R139, R145).
-/

set_option Elab.async false
namespace Sys2Proof.Machine

/-! ## The settings in force -/

/-- The settings that have ranges: admission, lane table, run limit, press. -/
def State.settings (s : State) : (Nat × Nat × Nat × Nat) × Nat × Nat × PressSettings :=
  ((s.adm.defaultClass, s.adm.lw, s.adm.hw, s.adm.k), s.disp.tableBits, s.arb.runLimit, s.press.settings)

theorem State.settingsLegal_iff (s : State) : s.settingsLegal = true ↔
    (s.adm.defaultClass ≤ 4 ∧ s.adm.lw ≤ s.adm.hw ∧ s.adm.k ≤ 15) ∧
      (1 ≤ s.disp.tableBits ∧ s.disp.tableBits ≤ 5) ∧ (1 ≤ s.arb.runLimit ∧ s.arb.runLimit ≤ 32) ∧
      1 ≤ s.press.settings.u ∧ s.press.settings.u ≤ s.press.settings.p ∧ s.press.settings.p ≤ 64 := by
  simp only [State.settingsLegal, Bool.and_eq_true, decide_eq_true_eq, and_assoc]

theorem State.settingsLegal_congr {s t : State} (h : t.settings = s.settings) : t.settingsLegal = s.settingsLegal := by
  simp only [State.settings, Prod.mk.injEq] at h
  obtain ⟨⟨hclass, hlw, hhw, hk⟩, hbits, hrun, hpress⟩ := h
  simp only [State.settingsLegal, hclass, hlw, hhw, hk, hbits, hrun, hpress]

theorem State.settings_of_tuned {s t : State} (h : t.tuned = s.tuned) : t.settings = s.settings :=
  congrArg (fun q => ((q.1.2.1, q.1.2.2.1, q.1.2.2.2.1, q.1.2.2.2.2), q.2.1.1, q.2.2.1, q.2.2.2.1)) h

theorem State.settings_frameIn (s : State) (x : Link) (f : Frame) : (s.frameIn x f).settings = s.settings := by
  unfold State.frameIn
  repeat' split
  · exact State.settings_of_tuned (State.tuned_takeHold s x f)
  · exact State.settings_of_tuned (State.tuned_takeResume s x)
  · rfl
  · rfl

theorem State.settings_serveWake (s : State) (w : Option WakeCause) (held : Bool) :
    (s.serveWake w held).settings = s.settings := by
  unfold State.serveWake
  match w with
  | none => rfl
  | some .sheetStart => exact State.settings_of_tuned (State.tuned_takeSheetStart s)
  | some .pressReset => exact State.settings_of_tuned (State.tuned_pressResetNow s)
  | some (.frame x) =>
    dsimp only
    repeat' split
    · exact (State.settings_of_tuned (State.tuned_takeHold _ x _) :)
    · exact (State.settings_of_tuned (State.tuned_takeResume _ x) :)
    · rfl
    · rfl

theorem State.settings_resetLink (s : State) (x : Link) : (s.resetLink x).settings = s.settings := by
  have hparts : ∀ t : State, (((t.resetWake x).resetIntake x).resetProofs x |>.resetListings x).settings = t.settings :=
    fun t => State.settings_of_tuned (by simp)
  exact (hparts _).trans (State.settings_of_tuned (State.tuned_abortStreams s x) :)

/-! ## What a step keeps, as one relation -/

/-- The second state meets each of the five invariants that the first meets. -/
structure State.Keeps (s t : State) : Prop where
  store : s.store.wf = true → t.store.wf = true
  owed : s.ctl.owed ≤ 8 → t.ctl.owed ≤ 8
  legal : s.settingsLegal = true → t.settingsLegal = true
  sound : s.sound = true → t.sound = true
  places : s.withinPlaces = true → t.withinPlaces = true

namespace State.Keeps
variable {s t u : State}

theorem refl (s : State) : s.Keeps s := ⟨id, id, id, id, id⟩

theorem trans (h1 : s.Keeps t) (h2 : t.Keeps u) : s.Keeps u :=
  ⟨h2.store ∘ h1.store, h2.owed ∘ h1.owed, h2.legal ∘ h1.legal, h2.sound ∘ h1.sound, h2.places ∘ h1.places⟩

theorem of_legal (hstill : t.still = s.still) (hlegal : s.settingsLegal = true → t.settingsLegal = true)
    (hsound : s.sound = true → t.sound = true) (hplaces : s.withinPlaces = true → t.withinPlaces = true) : s.Keeps t :=
  ⟨fun h => State.still_store hstill ▸ h, fun h => State.still_owed hstill ▸ h, hlegal, hsound, hplaces⟩

theorem of_settings (hstill : t.still = s.still) (hsettings : t.settings = s.settings)
    (hsound : s.sound = true → t.sound = true) (hplaces : s.withinPlaces = true → t.withinPlaces = true) : s.Keeps t :=
  of_legal hstill (fun h => State.settingsLegal_congr hsettings ▸ h) hsound hplaces

/-- An operation for which Laws/Still, Laws/Tuned, Laws/Sound and Laws/Places have their lemmas. -/
theorem of_laws (hstill : t.still = s.still := by simp) (htuned : t.tuned = s.tuned := by simp)
    (hsound : s.sound = true → t.sound = true := by intro h; simp (maxDischargeDepth := 5) [h])
    (hplaces : s.withinPlaces = true → t.withinPlaces = true := by intro h; simp (maxDischargeDepth := 5) [h]) :
    s.Keeps t :=
  of_settings hstill (State.settings_of_tuned htuned) hsound hplaces

theorem arbitrate (h : s.Keeps t) : s.Keeps t.arbitrate := h.trans .of_laws

/-- A change of the controller that leaves the owed count within its bound. -/
theorem modCtl (f : StoreCtl → StoreCtl) (h : s.ctl.owed ≤ 8 → (f s.ctl).owed ≤ 8) : s.Keeps (s.modCtl f) :=
  ⟨id, h, id, id, id⟩

/-- A change of a link that leaves the counts sound and the places within their bounds. -/
theorem modLink (x : Link) (f : LinkCtl → LinkCtl)
    (hsound : ∀ n (c : LinkCtl), c.sound n = true → (f c).sound n = true)
    (hroomy : ∀ c : LinkCtl, c.roomy = true → (f c).roomy = true) : s.Keeps (s.modLink x f) :=
  ⟨id, id, id, fun h => State.sound_modLink s x f h (hsound _), fun h => State.within_modLink s x f h (hroomy _)⟩

end State.Keeps

/-- Every next state that the outcome gives keeps the invariants. -/
def State.KeptBy (s : State) (r : Result) : Prop := ∀ t, r = .next t → s.Keeps t

theorem State.Keeps.next {s t : State} (h : s.Keeps t) : s.KeptBy (.next t) := by
  rintro _ ⟨⟩
  exact h

/-! ## Taking a request (R173) -/

section Requests
variable {s t : State} {x : Link} {m ok : Frame → Bool} {f : Frame}

theorem State.keeps_takeHead (h : s.takeHead x m = some (f, t)) : s.Keeps t := by
  refine .of_settings (State.still_takeHead h) ?_ (State.sound_takeHead h) (State.within_takeHead h)
  unfold State.takeHead at h
  split at h
  · cases h
  · split at h
    · cases h
      rfl
    · cases h

theorem State.keeps_serveShort {g : Frame → State → State} (hg : ∀ f (t : State), t.Keeps (g f t)) :
    s.Keeps (s.serveShort x m ok g) := by
  unfold State.serveShort
  split
  · exact .refl s
  · next hhead =>
    refine (State.keeps_takeHead hhead).trans ?_
    repeat' split
    · exact .of_laws
    · exact hg _ _
    · exact .of_laws

theorem State.keeps_addLong (f : Frame) (hroom : (s.link x).long.length < Config.longSlots) :
    s.Keeps (s.addLong x f) :=
  .of_laws (by simp) (by simp) (State.sound_addLong s x f · hroom) (State.within_addLong s x f)

theorem State.keeps_serveLong {g : Frame → Nat → State → State} (hg : ∀ f n (t : State), t.Keeps (g f n t)) :
    s.Keeps (s.serveLong x m ok g) := by
  unfold State.serveLong
  split
  · exact .refl s
  · next hhead =>
    refine (State.keeps_takeHead hhead).trans ?_
    repeat' split
    · exact .of_laws
    · exact .of_laws
    · next hroom => exact (State.keeps_addLong _ (Nat.lt_of_not_le hroom)).trans (hg _ _ _)
    · exact .of_laws

theorem State.keeps_takeEnd {mine : Client → Bool} {e : TableEnd} (h : s.takeEnd mine = some (e, t)) : s.Keeps t :=
  .of_laws (State.still_takeEnd h) (State.tuned_takeEnd h) (State.sound_takeEnd h) (State.within_takeEnd h)

end Requests

/-! ## The SET requests (R65, R69, R75, R81, R136, R143) -/

section Settings
variable {s : State} (x : Link) (f : Frame)

theorem State.settingsLegal_reply (s : State) (r : ReplyResult) :
    (s.reply x f r).settingsLegal = s.settingsLegal := rfl

theorem State.keeps_serveSetRule : s.Keeps (s.serveSetRule x f) := by
  refine .of_settings (by simp) ?_ (State.sound_serveSetRule s x f) (State.within_serveSetRule s x f)
  unfold State.serveSetRule
  repeat' split
  all_goals rfl

theorem State.keeps_serveSetDefaultClass : s.Keeps (s.serveSetDefaultClass x f) := by
  refine .of_legal (by simp) (fun h => ?_) (State.sound_serveSetDefaultClass s x f)
    (State.within_serveSetDefaultClass s x f)
  unfold State.serveSetDefaultClass
  dsimp only
  split
  · next hclass =>
    rw [State.settingsLegal_reply, State.settingsLegal_iff]
    obtain ⟨⟨-, hmarks⟩, hrest⟩ := s.settingsLegal_iff.1 h
    exact ⟨⟨hclass, hmarks⟩, hrest⟩
  · exact h

/-- The clamped marks are in order (R75). -/
theorem clampWatermarks_le (pool lw hw : Nat) : (clampWatermarks pool lw hw).1 ≤ (clampWatermarks pool lw hw).2 :=
  le_max_right _ _

theorem State.keeps_serveSetWatermarks : s.Keeps (s.serveSetWatermarks x f) := by
  refine .of_legal (by simp) (fun h => ?_) (State.sound_serveSetWatermarks s x f)
    (State.within_serveSetWatermarks s x f)
  unfold State.serveSetWatermarks
  dsimp only
  split
  · next hk =>
    rw [State.settingsLegal_reply, State.settingsLegal_congr (State.settings_of_tuned (State.tuned_reevaluate _)),
      State.settingsLegal_iff]
    obtain ⟨⟨hclass, -⟩, hrest⟩ := s.settingsLegal_iff.1 h
    exact ⟨⟨hclass, clampWatermarks_le _ _ _, hk⟩, hrest⟩
  · exact h

theorem State.keeps_serveSetLaneTable : s.Keeps (s.serveSetLaneTable x f) := by
  refine .of_legal (by simp) (fun h => ?_) (State.sound_serveSetLaneTable s x f)
    (State.within_serveSetLaneTable s x f)
  unfold State.serveSetLaneTable
  dsimp only
  repeat' split
  · next hbits =>
    rw [State.settingsLegal_reply, State.settingsLegal_iff]
    obtain ⟨hadm, -, hrest⟩ := s.settingsLegal_iff.1 h
    exact ⟨hadm, ⟨le_max_left _ _, hbits⟩, hrest⟩
  · exact h
  · exact h

theorem State.keeps_serveSetStore : s.Keeps (s.serveSetStore x f) := by
  refine .of_legal (by simp) (fun h => ?_) (State.sound_serveSetStore s x f) (State.within_serveSetStore s x f)
  unfold State.serveSetStore
  rw [State.settingsLegal_reply, State.settingsLegal_iff]
  obtain ⟨hadm, hbits, -, hpress⟩ := s.settingsLegal_iff.1 h
  exact ⟨hadm, hbits, ⟨le_max_left _ _, max_le (by decide) (min_le_left _ _)⟩, hpress⟩

/-- The settings that a SET PRESS gives lie in their ranges, the urgent level at most the preroll (R143). -/
theorem pressOf_legal {body : List Byte} {p : PressSettings} (h : pressOf body = some p) :
    1 ≤ p.u ∧ p.u ≤ p.p ∧ p.p ≤ 64 := by
  unfold pressOf at h
  split at h
  · dsimp only at h
    split at h
    · next hranges =>
      obtain ⟨hp, hp64, hu, -⟩ := hranges
      cases h
      exact ⟨le_min hu hp, min_le_right _ _, hp64⟩
    · cases h
  · cases h

theorem State.keeps_serveSetPress : s.Keeps (s.serveSetPress x f) := by
  refine .of_legal (by simp) (fun h => ?_) (State.sound_serveSetPress s x f) (State.within_serveSetPress s x f)
  unfold State.serveSetPress
  split
  · next hp =>
    rw [State.settingsLegal_reply, State.settingsLegal_iff]
    obtain ⟨hadm, hbits, hrun, -⟩ := s.settingsLegal_iff.1 h
    exact ⟨hadm, hbits, hrun, pressOf_legal hp⟩
  · exact h

end Settings

/-! ## The store controller (R109, R111, R117, R118, R122, R124) -/

theorem StoreCtl.owed_startSteps (k : Nat) (c : StoreCtl) : (c.startSteps k).owed ≤ c.owed := by
  induction k generalizing c with
  | zero => exact le_rfl
  | succ k ih =>
    unfold StoreCtl.startSteps
    split
    · exact ih _
    · exact (ih _).trans (Nat.sub_le _ _)
    · exact (ih _).trans (Nat.sub_le _ _)
    · exact le_rfl

theorem StoreCtl.owed_wakeSteps (k : Nat) (c : StoreCtl) : (c.wakeSteps k).owed ≤ c.owed := by
  induction k generalizing c with
  | zero => exact le_rfl
  | succ k ih =>
    unfold StoreCtl.wakeSteps
    repeat' split
    · exact (ih _).trans (Nat.sub_le _ _)
    · exact le_rfl
    · exact le_rfl

theorem StoreCtl.owed_duePoint (c : StoreCtl) : c.duePoint.owed ≤ 8 := min_le_left _ _

theorem State.powerOn_settingsLegal (n : Nat) (z : StoreSize) : (State.powerOn n z).settingsLegal = true := rfl

theorem State.powerOn_sound (n : Nat) (z : StoreSize) : (State.powerOn n z).sound = true := by
  have hcount : (State.powerOn n z).adm.freeCount = (State.powerOn n z).map.pool.length := by
    simp [State.powerOn, Admission.initial, ExtentMap.initial]
  exact (State.sound_iff _).2 ⟨hcount, rfl, rfl⟩

theorem State.powerOn_withinPlaces (n : Nat) (z : StoreSize) : (State.powerOn n z).withinPlaces = true := rfl

theorem execPowerOnReset_keeps (sz1 sz0 : Bool) (s : State) : s.KeptBy (execPowerOnReset sz1 sz0 s) :=
  have hreset : ∀ n z, s.Keeps (State.powerOn n z) := fun n z =>
    ⟨fun _ => State.powerOn_store_wf n z, fun _ => Nat.zero_le 8, fun _ => State.powerOn_settingsLegal n z,
      fun _ => State.powerOn_sound n z, fun _ => State.powerOn_withinPlaces n z⟩
  .next ((hreset (s.powerOns + 1) _).trans ⟨id, id, id, id, id⟩)

theorem execSettleTimerExpiry_keeps (s : State) : s.KeptBy (execSettleTimerExpiry s) := by
  unfold execSettleTimerExpiry
  split
  · exact .next (.modCtl _ id)
  · exact .next (.refl s)

theorem execStartSequenceComplete_keeps (s : State) : s.KeptBy (execStartSequenceComplete s) := by
  unfold execStartSequenceComplete
  split
  · exact .next (.arbitrate (.modCtl _ (StoreCtl.owed_startSteps 3 s.ctl).trans))
  · exact .next (.refl s)

theorem execRefreshDuePoint_keeps (steps : Nat) (s : State) : s.KeptBy (execRefreshDuePoint steps s) := by
  unfold execRefreshDuePoint
  repeat' split
  · exact .next (.refl s)
  · exact .next (.modCtl _ fun _ => StoreCtl.owed_duePoint _)
  · exact .next (.modCtl _ fun _ => StoreCtl.owed_duePoint _)
  · exact .next (.arbitrate (.modCtl _ fun _ => StoreCtl.owed_duePoint _))

theorem execRefreshMade_keeps (s : State) : s.KeptBy (execRefreshMade s) := by
  unfold execRefreshMade
  split
  · exact .next (.arbitrate (.modCtl _ (Nat.sub_le s.ctl.owed 1).trans))
  · exact .next (.refl s)

/-- The state in which the end of a burst is delivered: its bytes moved, its row closed after a TABLE operation, its
parity failure flagged (R115, R116, R120). -/
def State.burstMoved (b : Burst) (us : List Upset) (s : State) : State :=
  State.flagIf (b.signals (s.transfer b us).2) (({ s with store := (s.transfer b us).1 } : State).modCtl fun c =>
    { c with burst := none, banks := if b.req = .table then c.banks.set (bankOf b.addr) .idle else c.banks })

theorem State.endBurst_eq (s : State) (b : Burst) (us : List Upset) :
    s.endBurst b us =
      if b.live then (s.burstMoved b us).deliver b (s.transfer b us).2 else (s.burstMoved b us).placeDeferred := rfl

theorem State.keeps_flagIf (s : State) (bad : Bool) : s.Keeps (s.flagIf bad) := .of_laws

theorem State.keeps_burstMoved (s : State) (b : Burst) (us : List Upset) : s.Keeps (s.burstMoved b us) := by
  have htransfer : s.Keeps { s with store := (s.transfer b us).1 } := ⟨State.transfer_wf s b us, id, id, id, id⟩
  exact (htransfer.trans (.modCtl _ id)).trans (State.keeps_flagIf _ _)

theorem State.keeps_burstEnded (s : State) (b : Burst) (us : List Upset) : s.Keeps (s.burstEnded b us) := by
  have hend : s.Keeps (s.endBurst b us) := by
    rw [State.endBurst_eq]
    refine (s.keeps_burstMoved b us).trans ?_
    split
    all_goals exact .of_laws
  have hdue : (s.endBurst b us).Keeps (s.endBurst b us).pressDue := .of_laws
  exact hend.trans hdue

theorem execBurstEnd_keeps (us : List Upset) (s : State) : s.KeptBy (execBurstEnd us s) := by
  unfold execBurstEnd
  repeat' split
  · exact .next (.refl s)
  · exact .next (s.keeps_burstEnded _ us).arbitrate
  · rintro _ ⟨⟩

theorem State.keeps_foldl {α : Type} (g : State → α → State) (hg : ∀ (s : State) a, s.Keeps (g s a)) (l : List α)
    (s : State) : s.Keeps (l.foldl g s) := by
  induction l generalizing s with
  | nil => exact .refl s
  | cons a l ih => exact (hg s a).trans (ih _)

theorem State.keeps_answer (s : State) (x : Link) (n : Nat) (r : ReplyResult) : s.Keeps (s.answer x n r) := .of_laws

theorem State.keeps_acceptRest (s : State) (first : Link) : s.Keeps (s.acceptRest first) := by
  have hanswers : s.Keeps (s.ctl.restWaiting.foldl (fun t q => t.answer q.link q.ticket (.done .none))
      ((s.modCtl StoreCtl.enterRest).modArb fun a => { a with grant := .free, count := 0 })) :=
    ((State.Keeps.modCtl StoreCtl.enterRest fun _ => Nat.zero_le 8).trans .of_laws).trans
      (State.keeps_foldl _ (fun t _ => t.keeps_answer _ _ _) _ _)
  have hwake : ∀ t : State, t.Keeps (t.wakeIfFrame first) := by
    intro t
    unfold State.wakeIfFrame
    repeat' split
    all_goals exact .of_laws
  exact hanswers.trans (hwake _)

theorem execRestTest_keeps (first : Link) (s : State) : s.KeptBy (execRestTest first s) := by
  unfold execRestTest
  repeat' split
  · exact .next (.refl s)
  · exact .next (s.keeps_acceptRest first)
  · exact .next (State.Keeps.trans (.modCtl _ id) (State.keeps_answer _ _ _ _))
  · exact .next (.refl s)

theorem State.keeps_serveWake (s : State) (w : Option WakeCause) (held : Bool) : s.Keeps (s.serveWake w held) :=
  .of_settings (by simp) (s.settings_serveWake w held) (State.sound_serveWake s w held)
    (State.within_serveWake s w held)

theorem execWakeComplete_keeps (s : State) : s.KeptBy (execWakeComplete s) := by
  unfold execWakeComplete
  split
  · refine .next (.arbitrate (State.Keeps.trans (.modCtl _ ?_) (State.keeps_serveWake _ _ _)))
    exact ((Nat.sub_le _ 1).trans (StoreCtl.owed_wakeSteps 7 s.ctl)).trans
  · exact .next (.refl s)

/-! ## The links (R171, R174, R176, R182) -/

theorem LinkCtl.sound_noteFrameCheck {n : Nat} {c : LinkCtl} (h : c.sound n = true) :
    c.noteFrameCheck.sound n = true := by
  simp only [LinkCtl.sound, LinkCtl.bounded, Bool.and_eq_true, decide_eq_true_eq] at h ⊢
  obtain ⟨⟨⟨hplaces, -⟩, hnotices⟩, htickets⟩ := h
  exact ⟨⟨⟨hplaces, min_le_left _ _⟩, hnotices⟩, htickets⟩

theorem execFrameArrival_keeps (x : Link) (bytes : List Byte) (s : State) : s.KeptBy (execFrameArrival x bytes s) := by
  have hin : ∀ (t : State) (f : Frame), t.Keeps (t.frameIn x f) := fun t f =>
    .of_settings (by simp) (t.settings_frameIn x f) (State.sound_frameIn t x f) (State.within_frameIn t x f)
  unfold execFrameArrival
  dsimp only
  have hwoken : ∀ held, s.Keeps (if s.ctl.state = .resting then s.wake (.frame x) held else s) := by
    intro held
    split
    · exact .of_laws
    · exact .refl s
  split
  · exact .next (.refl s)
  · split
    · exact .next ((hwoken _).trans (hin _ _))
    · exact .next ((hwoken _).trans (.modLink x _ (fun _ _ => LinkCtl.sound_noteFrameCheck) fun _ hc =>
        LinkCtl.roomy_of_same hc rfl rfl rfl rfl))

theorem execReadStatus_keeps (x : Link) (s : State) : s.KeptBy (execReadStatus x s) := by
  unfold execReadStatus
  split
  · exact .next (.refl s)
  · next hhead =>
    split
    · exact .next ((State.keeps_takeHead hhead).trans .of_laws)
    · exact .next ((State.keeps_takeHead hhead).trans .of_laws)

theorem execHoldTimerExpiry_keeps (x : Link) (s : State) : s.KeptBy (execHoldTimerExpiry x s) := by
  have hresume : s.Keeps (s.takeResume x) := .of_laws
  unfold execHoldTimerExpiry
  split
  · exact .next hresume
  · exact .next (.refl s)

theorem execOutboundFrameSent_keeps (x : Link) (s : State) : s.KeptBy (execOutboundFrameSent x s) := by
  unfold execOutboundFrameSent
  split
  · next f _ =>
    exact .next (.modLink x _ (fun _ _ hc => LinkCtl.sound_of_fields hc (by simp) (by simp) (by simp) (by simp))
      fun _ => LinkCtl.roomy_sent f)
  · exact .next (.refl s)

theorem execLinkReset_keeps (x : Link) (s : State) : s.KeptBy (execLinkReset x s) := by
  unfold execLinkReset
  split
  · exact .next (.refl s)
  · exact .next (.arbitrate (.of_settings (by simp) (s.settings_resetLink x) (State.sound_resetLink s x)
      (State.within_resetLink s x)))

theorem execLinkResetSequenceEnd_keeps (x : Link) (s : State) : s.KeptBy (execLinkResetSequenceEnd x s) :=
  .next (.modLink x _ (fun _ _ hc => LinkCtl.sound_of_fields hc rfl rfl rfl rfl)
    fun _ hc => LinkCtl.roomy_of_same hc rfl rfl rfl rfl)

/-! ## Pages (R34, R36, R42, R44) -/

theorem State.keeps_takeOpenPage (s : State) (x : Link) (met : Bool) : s.Keeps (s.takeOpenPage x met) :=
  State.keeps_serveLong fun _ _ _ => .of_laws

theorem execOpenPage_keeps (x : Link) (met : Option (List Upset)) (s : State) : s.KeptBy (execOpenPage x s met) := by
  unfold execOpenPage
  repeat' split
  · exact .next (s.keeps_takeOpenPage x false)
  · exact .next (.refl s)
  · exact .next (.refl s)
  · next hmeets _ _ _ =>
    obtain ⟨b, -, -, rfl, -⟩ := State.fallThatMeets_eq_some.1 hmeets
    exact .next (.arbitrate ((s.keeps_burstEnded b _).trans (State.keeps_takeOpenPage _ x true)))

theorem execHeaderInitComplete_keeps (page : Nat) (s : State) : s.KeptBy (execHeaderInitComplete page s) := by
  unfold execHeaderInitComplete
  repeat' split
  all_goals exact .next .of_laws

theorem execReleaseRecordRead_keeps (page : Nat) (s : State) : s.KeptBy (execReleaseRecordRead page s) := by
  unfold execReleaseRecordRead
  split
  · next hend _ _ => exact .next (.arbitrate ((State.keeps_takeEnd hend).trans .of_laws))
  · exact .next (.refl s)

theorem execListPageReadEnd_keeps (x : Link) (s : State) : s.KeptBy (execListPageReadEnd x s) := by
  unfold execListPageReadEnd
  split
  · exact .next (.refl s)
  · next hend =>
    split
    · exact .next (.arbitrate ((State.keeps_takeEnd hend).trans .of_laws))
    · exact .next (State.keeps_takeEnd hend)

theorem execDamagedMarkWriteEnd_keeps (s : State) : s.KeptBy (execDamagedMarkWriteEnd s) := by
  unfold execDamagedMarkWriteEnd
  split
  · next hend => exact .next (State.keeps_takeEnd hend)
  · exact .next (.refl s)

/-! ## Intake and lanes (R53, R89, R92, R93) -/

theorem execPixelsWriteEnd_keeps (x : Link) (s : State) : s.KeptBy (execPixelsWriteEnd x s) := by
  unfold execPixelsWriteEnd
  repeat' split
  all_goals exact .next .of_laws

theorem execEncodeEnd_keeps (l : Lane) (s : State) : s.KeptBy (execEncodeEnd l s) := by
  unfold execEncodeEnd
  repeat' split
  all_goals exact .next .of_laws

theorem execBandRecordWriteEnd_keeps (l : Lane) (s : State) : s.KeptBy (execBandRecordWriteEnd l s) := by
  unfold execBandRecordWriteEnd
  split
  · next hend =>
    split
    · exact .next (.arbitrate ((State.keeps_takeEnd hend).trans .of_laws))
    · exact .next (.refl s)
  · exact .next (.refl s)

theorem execProofRecordReadEnd_keeps (l : Lane) (s : State) : s.KeptBy (execProofRecordReadEnd l s) := by
  unfold execProofRecordReadEnd
  split
  · next hend => exact .next (.arbitrate ((State.keeps_takeEnd hend).trans .of_laws))
  · exact .next (.refl s)

theorem execProofRowPlace_keeps (l : Lane) (s : State) : s.KeptBy (execProofRowPlace l s) := by
  unfold execProofRowPlace
  split
  · split
    · next hturn =>
      rw [Bool.and_eq_true] at hturn
      exact .next (.arbitrate (.of_laws (hplaces := fun h => State.within_proofPlace _ _ _ _ _ _ _ h hturn.1)))
    · exact .next (.refl s)
  · exact .next (.refl s)

/-! ## Streams (R168, R178 to R180) -/

theorem execReadBandRecordReadEnd_keeps (x : Link) (s : State) : s.KeptBy (execReadBandRecordReadEnd x s) := by
  unfold execReadBandRecordReadEnd
  split
  · exact .next (.refl s)
  · next hend =>
    split
    · exact .next (.arbitrate ((State.keeps_takeEnd hend).trans .of_laws))
    · exact .next (State.keeps_takeEnd hend)

theorem LinkCtl.hasPlace_of_engineMay {c : LinkCtl} (h : c.engineMay = true) : c.hasPlace = true :=
  (Bool.and_eq_true_iff.1 h).1

theorem execStreamPlaceClaim_keeps (x : Link) (s : State) : s.KeptBy (execStreamPlaceClaim x s) := by
  unfold execStreamPlaceClaim
  split
  · next hmay =>
    simp only [Bool.and_eq_true, Option.isNone_iff_eq_none] at hmay
    obtain ⟨hfree, hturn⟩ := hmay
    exact .next (.arbitrate (.of_laws (hplaces := fun h =>
      State.within_streamClaim s x h (LinkCtl.hasPlace_of_engineMay hturn) hfree)))
  · exact .next (.refl s)

/-- A copy stream whose record read has ended holds the place it has claimed (R179, log 54). -/
theorem LinkCtl.filling_of_copyOf {c : LinkCtl} {k : Client} {st : Stream} (h : c.copyOf k = some st) :
    c.filling.isSome = true := by
  unfold LinkCtl.copyOf at h
  split at h
  · split at h
    · next hserial => exact Option.isSome_map.symm.trans (congrArg Option.isSome hserial)
    · cases h
  · cases h

theorem execCopyRecordReadEnd_keeps (x : Link) (s : State) : s.KeptBy (execCopyRecordReadEnd x s) := by
  unfold execCopyRecordReadEnd
  split
  · exact .next (.refl s)
  · next hend =>
    split
    · next hcopy =>
      exact .next (.arbitrate ((State.keeps_takeEnd hend).trans (.of_laws (hplaces := fun h =>
        State.within_copyRecord _ x _ _ h (LinkCtl.filling_of_copyOf hcopy)))))
    · exact .next (State.keeps_takeEnd hend)

theorem LinkCtl.filling_of_filled {c : LinkCtl} {p : Stream × List Word} (h : c.filled = some p) :
    c.filling.isSome = true := by
  unfold LinkCtl.filled at h
  split at h
  · cases h
  · next hfilling => rw [hfilling]; rfl

theorem execStreamFramePlaced_keeps (x : Link) (s : State) : s.KeptBy (execStreamFramePlaced x s) := by
  unfold execStreamFramePlaced
  split
  · next hfilled =>
    exact .next (.of_laws (hplaces := fun h =>
      State.within_streamPlaced s x _ _ h (LinkCtl.filling_of_filled hfilled)))
  · exact .next (.refl s)

theorem execCopyDone_keeps (x : Link) (s : State) : s.KeptBy (execCopyDone x s) := by
  unfold execCopyDone
  repeat' split
  · next hmay =>
    exact .next (.of_laws (hplaces := fun h => State.within_copyFinish s x _ h (LinkCtl.hasPlace_of_engineMay hmay)))
  · exact .next (.refl s)
  · exact .next (.refl s)

/-! ## The press (R147, R148, R151, R157) -/

theorem execPressRecordReadEnd_keeps (s : State) : s.KeptBy (execPressRecordReadEnd s) := by
  unfold execPressRecordReadEnd
  split
  all_goals exact .next .of_laws

theorem execPressLineFinish_keeps (s : State) : s.KeptBy (execPressLineFinish s) := by
  unfold execPressLineFinish
  split
  all_goals exact .next .of_laws

theorem execPressAnswerEnd_keeps (s : State) : s.KeptBy (execPressAnswerEnd s) := by
  unfold execPressAnswerEnd
  split
  all_goals exact .next .of_laws

theorem execPressReset_keeps (s : State) : s.KeptBy (execPressReset s) := by
  unfold execPressReset
  split
  all_goals exact .next .of_laws

/-! ## The obligation -/

/-- A command keeps the invariants: its own lemma where it has steps of its own, and for a request the law of what
serves it. -/
theorem exec_keeps (c : Instr) (s : State) : s.KeptBy (exec c s) := by
  cases c with
  | powerOnReset sz1 sz0 => exact execPowerOnReset_keeps sz1 sz0 s
  | settleTimerExpiry => exact execSettleTimerExpiry_keeps s
  | startSequenceComplete => exact execStartSequenceComplete_keeps s
  | refreshDuePoint steps => exact execRefreshDuePoint_keeps steps s
  | refreshMade => exact execRefreshMade_keeps s
  | burstEnd us => exact execBurstEnd_keeps us s
  | frameArrival x bytes => exact execFrameArrival_keeps x bytes s
  | wakeComplete => exact execWakeComplete_keeps s
  | badKindRequest x => exact .next (State.keeps_serveShort fun _ t => .refl t)
  | openPage x met => exact execOpenPage_keeps x met s
  | headerInitComplete page => exact execHeaderInitComplete_keeps page s
  | pixels x => exact .next (.arbitrate (State.keeps_serveShort fun _ _ => .of_laws))
  | pixelsWriteEnd x => exact execPixelsWriteEnd_keeps x s
  | encodeEnd l => exact execEncodeEnd_keeps l s
  | bandRecordWriteEnd l => exact execBandRecordWriteEnd_keeps l s
  | readBandDecoded x => exact .next (State.keeps_serveLong fun _ _ _ => .of_laws)
  | proofRecordReadEnd l => exact execProofRecordReadEnd_keeps l s
  | proofRowPlace l => exact execProofRowPlace_keeps l s
  | damagedMarkWriteEnd => exact execDamagedMarkWriteEnd_keeps s
  | retirePage x => exact .next (State.keeps_serveLong fun _ _ _ => .of_laws)
  | releaseRecordRead page => exact execReleaseRecordRead_keeps page s
  | listPage x => exact .next (State.keeps_serveLong fun _ _ _ => .of_laws)
  | listPageReadEnd x => exact execListPageReadEnd_keeps x s
  | setProfile x => exact .next (State.keeps_serveShort fun _ _ => .of_laws)
  | setRule x => exact .next (State.keeps_serveShort fun f _ => State.keeps_serveSetRule x f)
  | setDefaultClass x => exact .next (State.keeps_serveShort fun f _ => State.keeps_serveSetDefaultClass x f)
  | setWatermarks x => exact .next (State.keeps_serveShort fun f _ => State.keeps_serveSetWatermarks x f)
  | setLaneTable x => exact .next (State.keeps_serveShort fun f _ => State.keeps_serveSetLaneTable x f)
  | setPress x => exact .next (State.keeps_serveShort fun f _ => State.keeps_serveSetPress x f)
  | setStore x => exact .next (State.keeps_serveShort fun f _ => State.keeps_serveSetStore x f)
  | readStatus x => exact execReadStatus_keeps x s
  | clearStatus x => exact .next (State.keeps_serveShort fun _ _ => .of_laws)
  | rest x => exact .next (State.keeps_serveLong fun _ _ _ => .of_laws)
  | restTest first => exact execRestTest_keeps first s
  | hold x => exact .next (State.keeps_serveShort fun _ _ => .of_laws)
  | resume x => exact .next (State.keeps_serveShort fun _ _ => .of_laws)
  | holdTimerExpiry x => exact execHoldTimerExpiry_keeps x s
  | outboundFrameSent x => exact execOutboundFrameSent_keeps x s
  | linkReset x => exact execLinkReset_keeps x s
  | readBandCompressed x => exact .next (State.keeps_serveLong fun _ _ _ => .of_laws)
  | readBandRecordReadEnd x => exact execReadBandRecordReadEnd_keeps x s
  | streamPlaceClaim x => exact execStreamPlaceClaim_keeps x s
  | copyRecordReadEnd x => exact execCopyRecordReadEnd_keeps x s
  | streamFramePlaced x => exact execStreamFramePlaced_keeps x s
  | copyDone x => exact execCopyDone_keeps x s
  | print x => exact .next (State.keeps_serveShort fun _ _ => .of_laws)
  | cancelPrint x => exact .next (State.keeps_serveShort fun _ _ => .of_laws)
  | pressRecordReadEnd => exact execPressRecordReadEnd_keeps s
  | pressLineFinish => exact execPressLineFinish_keeps s
  | sheetStart => exact .next (.arbitrate .of_laws)
  | lineRequest => exact .next (.arbitrate .of_laws)
  | pressAnswerEnd => exact execPressAnswerEnd_keeps s
  | sheetAbort => exact .next (.arbitrate .of_laws)
  | pressReset => exact execPressReset_keeps s
  | linkResetSequenceEnd x => exact execLinkResetSequenceEnd_keeps x s

/-- Settles O60: a step on an empty queue changes nothing, and any other is a command on the rest of the queue. -/
theorem everyStepKeepsTheInvariants : Obligations.EveryStepKeepsTheInvariants := by
  intro s t h
  have hkeeps : s.Keeps t := by
    unfold step at h
    split at h
    · exact State.Keeps.next (.refl s) t h
    · next c rest _ =>
      have hrest : s.Keeps (s.withPending rest) := ⟨id, id, id, id, id⟩
      exact hrest.trans (exec_keeps c _ t h)
  exact ⟨hkeeps.store, hkeeps.owed, hkeeps.legal, hkeeps.sound, hkeeps.places⟩

end Sys2Proof.Machine
end

section
/-!
PROOFS. Power-on reset (R109), frames that wake the part (R124) and requests before READY (R112).
-/

set_option Elab.async false
namespace Sys2Proof.Machine

/-! ## Power-on reset (R109) -/

theorem exec_powerOnReset (sz1 sz0 : Bool) (s : State) : exec (.powerOnReset sz1 sz0) s =
    .next { State.powerOn (s.powerOns + 1) (StoreSize.ofStraps sz1 sz0) with pending := s.pending } := rfl

@[simp] theorem laneNo_ofNat (n : Nat) : laneNo (Lane.ofNat n) = n % 4 := by
  have hlt : n % 4 < 4 := Nat.mod_lt n (by decide)
  unfold Lane.ofNat
  interval_cases n % 4 <;> rfl

/-- Settles O59: each item is the one `State.powerOn` gives it, and the invariants hold of that state. -/
theorem powerOnResetSetsEveryItem : Obligations.PowerOnResetSetsEveryItem := by
  refine ⟨fun sz1 sz0 s => ⟨_, exec_powerOnReset sz1 sz0 s, ?size, rfl, rfl, rfl, rfl, rfl, rfl, rfl, rfl, rfl,
      ?intakes, rfl, ?table, rfl, ?lanes, rfl, ?links, State.powerOn_store_wf (s.powerOns + 1) (StoreSize.ofStraps sz1 sz0),
      Nat.zero_le 8, State.powerOn_settingsLegal (s.powerOns + 1) (StoreSize.ofStraps sz1 sz0),
      State.powerOn_sound (s.powerOns + 1) (StoreSize.ofStraps sz1 sz0),
      State.powerOn_withinPlaces (s.powerOns + 1) (StoreSize.ofStraps sz1 sz0)⟩,
    fun s => exec_powerOnReset false false s, State.powerOn_store_wf 0 .mib128, Nat.zero_le 8,
    State.powerOn_settingsLegal 0 .mib128, State.powerOn_sound 0 .mib128, State.powerOn_withinPlaces 0 .mib128⟩
  case size => cases sz1 <;> cases sz0 <;> rfl
  case intakes => intro x; cases x <;> rfl
  case table =>
    intro i hi
    have hentry : (State.powerOn (s.powerOns + 1) (StoreSize.ofStraps sz1 sz0)).disp.table[i] = Lane.ofNat i :=
      Vector.getElem_ofFn hi
    exact (congrArg laneNo hentry).trans (laneNo_ofNat i)
  case lanes => intro l; cases l <;> rfl
  case links => intro x; cases x <;> rfl

/-! ## A frame in RESTING (R124) -/

/-- Settles O11: the part is WAKING when the frame is taken in, so a HOLD or RESUME too enters the buffer. -/
theorem framesWakeTheRestingPart : Obligations.FramesWakeTheRestingPart := by
  intro x bytes s hreset hrest
  have hexec : exec (.frameArrival x bytes) s = execFrameArrival x bytes s := rfl
  rw [hexec, execFrameArrival, if_neg (by simp [hreset])]
  simp only [if_pos hrest]
  cases hf : parseFrame bytes with
  | none => rfl
  | some f =>
    have hpart : ∀ held, (s.wake (.frame x) held).part ≠ .ready := fun held h => nomatch h
    simp only [State.frameIn, hpart, false_and, if_false]
    split
    · next hroom =>
      have hroom : (s.link x).rx.length < 4 := hroom
      simp only [if_pos hroom]
      rfl
    · next hfull =>
      have hfull : ¬ (s.link x).rx.length < 4 := hfull
      simp only [if_neg hfull]
      rfl

/-! ## Requests before READY (R112, R173) -/

section Starting
variable {s : State} {x : Link} {m ok : Frame → Bool} {f : Frame}

theorem State.notServing_iff : s.notServing = true ↔ s.part = .starting ∨ s.part = .waking := by
  unfold State.notServing
  cases s.part <;> simp

/-- Before READY the head of a buffer may be taken, unless it is held as the wake cause (R125). -/
theorem State.canTake_of_notServing (hserving : s.notServing = true) (hplace : (s.link x).replyUse < 8)
    (hheld : ¬ (s.ctl.wakeFrameHeld = true ∧ s.ctl.wakeCause = some (.frame x))) : s.canTake x = true := by
  have hfree : s.rxHeld x = false := by
    unfold State.rxHeld
    split
    · next hrest => simp [State.notServing, State.part, hrest] at hserving
    · simpa using hheld
    · rfl
  simp only [State.canTake, hfree, Bool.not_false, Bool.and_true, decide_eq_true_eq]
  exact hplace

theorem State.serveShort_starting (g : Frame → State → State) (hserving : s.notServing = true)
    (hhead : (s.link x).rx.head? = some f) (htake : s.canTake x = true) (hmine : m f = true) :
    s.serveShort x m ok g = s.answeredAt x f (.refused .starting) := by
  have hstill : (s.tookAt x).notServing = true := hserving
  simp only [State.serveShort, State.takeHead_head hhead htake hmine, hstill, if_true, State.reply_tookAt]

theorem State.serveLong_starting (g : Frame → Nat → State → State) (hserving : s.notServing = true)
    (hhead : (s.link x).rx.head? = some f) (htake : s.canTake x = true) (hmine : m f = true) :
    s.serveLong x m ok g = s.answeredAt x f (.refused .starting) := by
  have hstill : (s.tookAt x).notServing = true := hserving
  simp only [State.serveLong, State.takeHead_head hhead htake hmine, hstill, if_true, State.reply_tookAt]

end Starting

/-- What the commands that take a request come to: the request is served as a short or as a long one, and PIXELS makes
a grant decision after it. -/
theorem exec_requestOf {c : Instr} {x : Link} {m : Frame → Bool} (hc : requestOf c = some (x, m))
    (hstatus : c ≠ .readStatus x) (s : State) :
    (∃ ok g, exec c s = .next (s.serveShort x m ok g)) ∨ (∃ ok g, exec c s = .next (s.serveLong x m ok g)) ∨
      ∃ ok g, exec c s = .next (s.serveShort x m ok g).arbitrate := by
  cases c with
  | openPage y met =>
    cases met with
    | none => cases hc; exact .inr (.inl ⟨_, _, rfl⟩)
    | some us => cases hc
  | pixels y => cases hc; exact .inr (.inr ⟨_, _, rfl⟩)
  | readStatus y => cases hc; exact absurd rfl hstatus
  | retirePage y | readBandDecoded y | readBandCompressed y | listPage y | rest y =>
    cases hc; exact .inr (.inl ⟨_, _, rfl⟩)
  | badKindRequest y | print y | cancelPrint y | clearStatus y | setProfile y | setRule y | setDefaultClass y
  | setLaneTable y | setWatermarks y | setPress y | setStore y | hold y | resume y =>
    cases hc; exact .inl ⟨_, _, rfl⟩
  | _ => cases hc

/-- Settles O12: the request is taken and refused before any test of its own; no decision follows before READY. -/
theorem requestsAreAnsweredStartingUntilReady : Obligations.RequestsAreAnsweredStartingUntilReady := by
  intro c s x mine f hc hstatus hhead hmine hplace hpart hheld
  have hserving := State.notServing_iff.2 hpart
  have htake := State.canTake_of_notServing hserving hplace hheld
  obtain ⟨ok, g, hexec⟩ | ⟨ok, g, hexec⟩ | ⟨ok, g, hexec⟩ := exec_requestOf hc hstatus s
  · rw [hexec, State.serveShort_starting g hserving hhead htake hmine]
  · rw [hexec, State.serveLong_starting g hserving hhead htake hmine]
  · have hstate : (s.answeredAt x f (.refused .starting)).ctl.state ≠ .ready := fun hready => by
      have hready : s.ctl.state = .ready := hready
      simp [State.part, hready] at hpart
    rw [hexec, State.serveShort_starting g hserving hhead htake hmine, State.arbitrate_of_not_ready hstate]

end Sys2Proof.Machine
end

section
/-!
PROOFS. Start-up, refresh and wake (R111, R117, R118, R124, R125), and rest (R122, R123).
-/

set_option Elab.async false
namespace Sys2Proof.Machine

/-! ## The steps of the start-up sequence (R111) and the wake refreshes (R124) -/

section Steps
variable {c : StoreCtl} {n k : Nat}

/-- Step 1 precharges all banks, steps 2 and 3 make a refresh each. -/
theorem StoreCtl.startSteps_eq (hstep : c.startStep = some n) (hn : 1 ≤ n) (hk : n + k ≤ 4) :
    c.startSteps k = { c with
      startStep := some (n + k), banks := if n = 1 ∧ 0 < k then banksIdle else c.banks
      owed := c.owed - ((n + k - 2) - (n - 2)) } := by
  induction k generalizing c n with
  | zero => simp [StoreCtl.startSteps, ← hstep]
  | succ k ih =>
    have hnext : n + 1 + k = n + (k + 1) := by omega
    obtain rfl | rfl | rfl : n = 1 ∨ n = 2 ∨ n = 3 := by omega
    all_goals
      simp only [StoreCtl.startSteps, hstep]
      rw [ih rfl (by decide) (by omega)]
      simp [hnext, banksIdle]
    all_goals omega

/-- The three steps short of the mode set, or what is left of them. -/
theorem StoreCtl.startSteps_all (hstep : c.startStep = some n) (hn : 1 ≤ n) (hle : n ≤ 4) :
    c.startSteps 3 = { c with
      startStep := some 4, banks := if n = 1 then banksIdle else c.banks, owed := c.owed - (2 - (n - 2)) } := by
  interval_cases n
  all_goals simp [StoreCtl.startSteps, hstep, banksIdle, Nat.sub_sub]
  all_goals rw [← hstep]

/-- Each step makes one refresh, up to the eighth step. -/
theorem StoreCtl.wakeSteps_eq (hstep : c.startStep = some n) (hn : n ≤ 8) :
    c.wakeSteps k = { c with startStep := some (min 8 (n + k)), owed := c.owed - (min 8 (n + k) - n) } := by
  induction k generalizing c n with
  | zero => simp [StoreCtl.wakeSteps, ← hstep, hn]
  | succ k ih =>
    by_cases hlt : n < 8
    · have hnext : n + 1 + k = n + (k + 1) := by omega
      simp only [StoreCtl.wakeSteps, hstep, if_pos hlt]
      rw [ih rfl hlt]
      simp [hnext]
      omega
    · obtain rfl : n = 8 := by omega
      simp only [StoreCtl.wakeSteps, hstep, if_neg hlt]
      simp [← hstep]

end Steps

/-! ## Settling, refreshes and due points (R111, R117, R118) -/

section Refresh
variable {s : State}

theorem exec_settleTimerExpiry (h : s.ctl.state = .settle) :
    exec .settleTimerExpiry s = .next { s with ctl := { s.ctl with
      state := .start, settleTimer := none, refreshTimer := some 78, startStep := some 1 } } := by
  have hexec : exec .settleTimerExpiry s = execSettleTimerExpiry s := rfl
  rw [hexec, execSettleTimerExpiry, if_pos h]
  rfl

theorem exec_startSequenceComplete {n : Nat} (h : s.ctl.state = .start) (hstep : s.ctl.startStep = some n) (hn : 1 ≤ n)
    (hle : n ≤ 4) :
    exec .startSequenceComplete s = .next (State.arbitrate { s with ctl := { s.ctl with
      state := .ready, startStep := none, banks := banksIdle, owed := s.ctl.owed - (2 - (n - 2)) } }) := by
  have hexec : exec .startSequenceComplete s = execStartSequenceComplete s := rfl
  rw [hexec, execStartSequenceComplete, if_pos h]
  simp only [State.modCtl, StoreCtl.startSteps_all hstep hn hle]

theorem exec_refreshDuePoint_start (k : Nat) (h : s.ctl.state = .start) (htimer : s.ctl.refreshTimer.isSome = true) :
    exec (.refreshDuePoint k) s = .next { s with ctl := (s.ctl.startSteps k).duePoint } := by
  have hexec : exec (.refreshDuePoint k) s = execRefreshDuePoint k s := rfl
  obtain ⟨n, hn⟩ := Option.isSome_iff_exists.1 htimer
  simp only [hexec, execRefreshDuePoint, hn, h]
  rfl

theorem exec_refreshDuePoint_waking (k : Nat) (h : s.ctl.state = .waking) (htimer : s.ctl.refreshTimer.isSome = true) :
    exec (.refreshDuePoint k) s = .next { s with ctl := (s.ctl.wakeSteps k).duePoint } := by
  have hexec : exec (.refreshDuePoint k) s = execRefreshDuePoint k s := rfl
  obtain ⟨n, hn⟩ := Option.isSome_iff_exists.1 htimer
  simp only [hexec, execRefreshDuePoint, hn, h]
  rfl

theorem exec_refreshDuePoint_running (k : Nat) (hstart : s.ctl.state ≠ .start) (hwaking : s.ctl.state ≠ .waking)
    (htimer : s.ctl.refreshTimer.isSome = true) :
    exec (.refreshDuePoint k) s = .next (State.arbitrate { s with ctl := s.ctl.duePoint }) := by
  have hexec : exec (.refreshDuePoint k) s = execRefreshDuePoint k s := rfl
  obtain ⟨n, hn⟩ := Option.isSome_iff_exists.1 htimer
  simp only [hexec, execRefreshDuePoint, hn]
  rfl

theorem exec_refreshMade (h : s.ctl.state = .refreshing) :
    exec .refreshMade s = .next (State.arbitrate { s with ctl := { s.ctl with
      state := .ready, owed := s.ctl.owed - 1 } }) := by
  have hexec : exec .refreshMade s = execRefreshMade s := rfl
  rw [hexec, execRefreshMade, if_pos h]
  rfl

/-! ## The end of a wake (R124, R125) -/

/-- The part READY after a wake of which `n - 1` refreshes had been made. -/
def State.awake (n : Nat) (s : State) : State := { s with ctl := { s.ctl with
  state := .ready, startStep := none, banks := banksIdle, owed := s.ctl.owed - (9 - n), wakeCause := none
  wakeFrameHeld := false } }

/-- The end of a wake, by what serving its cause leaves. -/
theorem exec_wakeComplete {n : Nat} {t : State} (h : s.ctl.state = .waking)
    (hstep : s.ctl.startStep = some n) (hn : 1 ≤ n) (hle : n ≤ 8)
    (hserve : (s.awake n).serveWake s.ctl.wakeCause s.ctl.wakeFrameHeld = t) :
    exec .wakeComplete s = .next t.arbitrate := by
  have hexec : exec .wakeComplete s = execWakeComplete s := rfl
  have howed : s.ctl.owed - (min 8 (n + 7) - n) - 1 = s.ctl.owed - (9 - n) := by omega
  rw [hexec, execWakeComplete, if_pos h, ← hserve]
  simp only [State.modCtl, StoreCtl.wakeSteps_eq hstep hle, howed]
  rfl

theorem State.takeSheetStart_notReady (hctl : s.ctl.state ≠ .resting) (h : s.press.state ≠ .ready) :
    s.takeSheetStart = s.answerPress [.notReady] := by
  unfold State.takeSheetStart
  rw [if_neg hctl]
  split
  · rfl
  · split
    · next hready _ => exact absurd hready h
    · rfl

theorem exec_pressReset (h : s.ctl.state ≠ .resting) : exec .pressReset s = .next s.pressResetNow.arbitrate := by
  have hexec : exec .pressReset s = execPressReset s := rfl
  rw [hexec, execPressReset, if_neg h]

section WakeFrame
variable {x : Link} {f : Frame} {rest : List Frame}

theorem Frame.isHold_iff : f.isHold = true ↔ f.k = 18 ∧ f.body.length = 2 := by
  simp [Frame.isHold, Frame.isKind, Frame.hasLength, ReqKind.hold]

theorem Frame.isResume_iff : f.isResume = true ↔ f.k = 19 ∧ f.body.length = 0 := by
  simp [Frame.isResume, Frame.isKind, Frame.hasLength, ReqKind.resume]

/-- A frame that is not held, or for which no reply place is free, is left to its own step. -/
theorem State.serveWake_left {held : Bool} (h : held = false ∨ 8 ≤ (s.link x).replyUse) :
    s.serveWake (some (.frame x)) held = s := by
  have hguard : (held && s.canTake x) = false := by
    rcases h with rfl | hfull
    · rfl
    · have hplace : decide ((s.link x).replyUse < Config.replyPlaces) = false := decide_eq_false (Nat.not_lt.2 hfull)
      simp only [State.canTake, hplace, Bool.false_and, Bool.and_false]
  simp only [State.serveWake]
  split
  · simp [hguard]
  · rfl

/-- The frame held, once the part is READY and a reply place is free: HOLD and RESUME have their effect. -/
theorem State.serveWake_head (hready : s.ctl.state = .ready) (hrx : (s.link x).rx = f :: rest)
    (hplace : (s.link x).replyUse < 8) :
    s.serveWake (some (.frame x)) true =
      if f.isHold || f.isResume then
        if f.isHold then (s.modLink x fun c => { c with rx := rest }).takeHold x f
        else (s.modLink x fun c => { c with rx := rest }).takeResume x
      else s := by
  have htake : s.canTake x = true := by
    have hfree : s.rxHeld x = false := by simp only [State.rxHeld, hready]
    simp only [State.canTake, hfree, Bool.not_false, Bool.and_true, decide_eq_true_eq]
    exact hplace
  simp only [State.serveWake, hrx, htake, Bool.true_and]

theorem State.takeHold_eq (s : State) (x : Link) (f : Frame) :
    s.takeHold x f = { s with links := s.links.set x { s.link x with
      hold := true, holdTimer := some (max 1 (field 0 2 f.body)) } } := rfl

theorem State.takeResume_of_hold (h : (s.link x).hold = true) :
    s.takeResume x = { s with
      links := s.links.set x (LinkCtl.startSend { s.link x with hold := false, holdTimer := none }) } := by
  have hend : LinkCtl.endHold (s.links.get x) =
      LinkCtl.startSend { s.link x with hold := false, holdTimer := none } := if_pos h
  simp only [State.takeResume, State.modLink, hend]

theorem State.takeResume_of_none (h : (s.link x).hold = false) : s.takeResume x = s := by
  have hend : LinkCtl.endHold (s.links.get x) = s.links.get x := if_neg (Bool.eq_false_iff.1 h)
  simp only [State.takeResume, State.modLink, hend, Pair.set_get_self]

/-- The state with the frame held out of its buffer. -/
def State.headDropped (x : Link) (rest : List Frame) (s : State) : State := s.modLink x fun c => { c with rx := rest }

section Head
variable (hready : s.ctl.state = .ready) (hrx : (s.link x).rx = f :: rest) (hplace : (s.link x).replyUse < 8)
include hready hrx hplace

theorem State.serveWake_hold (hkind : f.k = 18) (hlen : f.body.length = 2) :
    s.serveWake (some (.frame x)) true = (s.headDropped x rest).takeHold x f := by
  have hhold := Frame.isHold_iff.2 ⟨hkind, hlen⟩
  rw [State.serveWake_head hready hrx hplace, if_pos (by rw [hhold]; rfl), if_pos hhold]
  rfl

theorem State.serveWake_resume (hkind : f.k = 19) (hlen : f.body.length = 0) :
    s.serveWake (some (.frame x)) true = (s.headDropped x rest).takeResume x := by
  have hresume := Frame.isResume_iff.2 ⟨hkind, hlen⟩
  have hhold : ¬ f.isHold = true := fun h => by
    rw [Frame.isHold_iff, hkind] at h
    exact absurd h.1 (by decide)
  rw [State.serveWake_head hready hrx hplace, if_pos (by rw [hresume, Bool.or_true]), if_neg hhold]
  rfl

theorem State.serveWake_other (hhold : ¬ (f.k = 18 ∧ f.body.length = 2)) (hresume : ¬ (f.k = 19 ∧ f.body.length = 0)) :
    s.serveWake (some (.frame x)) true = s := by
  rw [← Frame.isHold_iff, Bool.not_eq_true] at hhold
  rw [← Frame.isResume_iff, Bool.not_eq_true] at hresume
  rw [State.serveWake_head hready hrx hplace, hhold, hresume]
  rfl

end Head

end WakeFrame
end Refresh

/-- Settles O57: each command by the state it is given in; a wake is then served by its cause. -/
theorem startRefreshAndWakeRunTheirCourse : Obligations.StartRefreshAndWakeRunTheirCourse := by
  intro s idle
  refine ⟨exec_settleTimerExpiry, fun n hstart hstep hn hle =>
      ⟨exec_startSequenceComplete hstart hstep hn hle, fun k hk htimer => ?start⟩,
    fun n k hwaking hstep hn hk htimer => ?waking, fun k hstart hwaking htimer => ?running, exec_refreshMade,
    fun n hwaking hstep hn hle => ?woken⟩
  case start =>
    rw [exec_refreshDuePoint_start k hstart htimer, StoreCtl.startSteps_eq hstep hn hk]
    rfl
  case waking =>
    rw [exec_refreshDuePoint_waking k hwaking htimer, StoreCtl.wakeSteps_eq hstep (by omega), min_eq_right hk,
      Nat.add_sub_cancel_left]
    rfl
  case running => exact exec_refreshDuePoint_running k hstart hwaking htimer
  case woken =>
    intro ready woken
    have hserved : ∀ {t : State}, ready.serveWake s.ctl.wakeCause s.ctl.wakeFrameHeld = t → woken t :=
      exec_wakeComplete hwaking hstep hn hle
    refine ⟨fun hcause hpress => ?_, fun hcause => ?_, fun x hcause => ?_⟩
    all_goals rw [hcause] at hserved
    · exact hserved (State.takeSheetStart_notReady (fun h => nomatch h) hpress)
    · exact (hserved rfl).trans (exec_pressReset (s := ready) fun h => nomatch h).symm
    refine ⟨fun hleft => hserved (State.serveWake_left hleft), fun f rest hheld hrx hplace => ?_⟩
    rw [hheld] at hserved
    have hready : ready.ctl.state = .ready := rfl
    have hlink : (ready.headDropped x rest).link x = { s.link x with rx := rest } := Pair.get_set_self ..
    have hlinks : ∀ c, (ready.headDropped x rest).links.set x c = s.links.set x c := Pair.set_set _ x _
    refine ⟨fun hhold hresume => ?_, fun hkind hlen => ?_, fun hkind hlen hoff => ?_, fun hkind hlen hon => ?_⟩
    · exact hserved (State.serveWake_other hready hrx hplace hhold hresume)
    · refine hserved ((State.serveWake_hold hready hrx hplace hkind hlen).trans ?_)
      rw [State.takeHold_eq, hlink, hlinks]
      rfl
    · refine hserved ((State.serveWake_resume hready hrx hplace hkind hlen).trans ?_)
      exact State.takeResume_of_none (by rw [hlink]; exact hoff)
    · refine hserved ((State.serveWake_resume hready hrx hplace hkind hlen).trans ?_)
      rw [State.takeResume_of_hold (by rw [hlink]; exact hon), hlink, hlinks]
      rfl

/-! ## The seven conditions of rest (R122) -/

theorem Page.restful_iff (p : Page) :
    (!p.canFail && p.state != .retiring && p.work == 0) = true ↔
      (p.state = .sealed ∨ p.state = .failed) ∧ p.work = 0 := by
  unfold Page.canFail
  cases p.state <;> simp

theorem Directory.restful_iff (d : Directory) :
    d.restful = true ↔ ∀ p ∈ d.pages, (p.state = .sealed ∨ p.state = .failed) ∧ p.work = 0 := by
  simp only [Directory.restful, List.all_eq_true, Page.restful_iff]

theorem Dispatcher.waiting_eq_nil (d : Dispatcher) :
    d.waiting = [] ↔ (∀ l, d.queues.get l = []) ∧ ∀ y t, d.pending y t = [] := by
  simp only [List.eq_nil_iff_forall_not_mem, Dispatcher.mem_waiting, Dispatcher.pending, not_or, not_exists]
  exact ⟨fun h => ⟨fun l j => (h j).1 l, fun y t j => (h j).2 y t⟩, fun h j => ⟨fun l => h.1 l j, fun y t => h.2 y t j⟩⟩

theorem Dispatcher.restful_iff (d : Dispatcher) :
    d.restful = true ↔ (∀ l, d.lanes.get l = .idle ∧ d.queues.get l = []) ∧ ∀ y t, d.pending y t = [] := by
  have hlanes : (allLanes.all fun l => d.lanes.get l == .idle) = true ↔ ∀ l, d.lanes.get l = .idle := by
    simp only [List.all_eq_true, beq_iff_eq]
    exact ⟨fun h l => h l (by cases l <;> decide), fun h l _ => h l⟩
  simp only [Dispatcher.restful, Bool.and_eq_true, hlanes, List.isEmpty_iff, Dispatcher.waiting_eq_nil, forall_and,
    and_assoc]

theorem Intake.restful_iff (k : Intake) : k.restful = true ↔ k.frame = none ∧ k.waiting = [] := by
  simp [Intake.restful]

theorem PressFeed.restful_iff (f : PressFeed) :
    f.restful = true ↔ f.state = .idle ∧ f.schedule = [] ∧ f.decState = .stopped := by
  simp [PressFeed.restful, and_assoc]

theorem LinkCtl.restful_iff (c : LinkCtl) : c.restful = true ↔ c.streams = [] ∧ c.recordReads = [] := by
  simp [LinkCtl.restful]

/-- What holds of both links holds of every link. -/
theorem Link.forall_iff {p : Link → Prop} : (∀ x, p x) ↔ p .a ∧ p .b :=
  ⟨fun h => ⟨h .a, h .b⟩, fun h x => by cases x; exacts [h.1, h.2]⟩

theorem State.mayRest_iff (s : State) : s.mayRest = true ↔
    (∀ p ∈ s.dir.pages, (p.state = .sealed ∨ p.state = .failed) ∧ p.work = 0) ∧
      (∀ l, s.lane l = .idle ∧ s.disp.queues.get l = []) ∧ (∀ y t, s.disp.pending y t = []) ∧
      (∀ y, (s.intake y).frame = none ∧ (s.intake y).waiting = []) ∧
      s.press.state = .idle ∧ s.press.schedule = [] ∧ s.press.decState = .stopped ∧
      (∀ y, (s.link y).streams = [] ∧ (s.link y).recordReads = []) ∧ s.arb.tableQueue = [] := by
  simp only [State.mayRest, Bool.and_eq_true, Directory.restful_iff, Dispatcher.restful_iff, Intake.restful_iff,
    PressFeed.restful_iff, LinkCtl.restful_iff, List.isEmpty_iff, Link.forall_iff, State.lane, and_assoc]

/-! ## Rest accepted (R123) -/

theorem longReplied_rx (x y : Link) (k : Nat) (r : ReplyResult) (l : Pair LinkCtl) :
    ((longReplied x k r l).get y).rx = (l.get y).rx := by
  unfold longReplied
  split
  · rfl
  · rw [Pair.get_set]
    split
    · next hyx => simp [hyx, LinkCtl.repliedLong]
    · rfl

/-- The links after every REST of a list has been answered. -/
def restsReplied (r : ReplyResult) (qs : List RestReq) (l : Pair LinkCtl) : Pair LinkCtl :=
  qs.foldl (fun l q => longReplied q.link q.ticket r l) l

theorem restsReplied_rx (r : ReplyResult) (qs : List RestReq) (l : Pair LinkCtl) (y : Link) :
    ((restsReplied r qs l).get y).rx = (l.get y).rx := by
  unfold restsReplied
  induction qs generalizing l with
  | nil => rfl
  | cons q qs ih => exact (ih _).trans (longReplied_rx ..)

theorem State.foldl_answer (r : ReplyResult) (qs : List RestReq) (s : State) :
    qs.foldl (fun t q => t.answer q.link q.ticket r) s = { s with links := restsReplied r qs s.links } := by
  unfold restsReplied
  induction qs generalizing s with
  | nil => rfl
  | cons q qs ih =>
    rw [List.foldl_cons, ih, State.answer_eq]
    rfl

/-- The part at rest, before a waiting frame wakes it: every REST that waited is answered. -/
def State.atRest (s : State) : State := { s with
  ctl := s.ctl.enterRest
  arb := { s.arb with grant := .free, count := 0 }
  links := restsReplied (.done .none) s.ctl.restWaiting s.links }

theorem State.atRest_rx (s : State) (y : Link) : (s.atRest.link y).rx = (s.link y).rx := restsReplied_rx ..

theorem State.acceptRest_eq (s : State) (first : Link) : s.acceptRest first = s.atRest.wakeIfFrame first :=
  congrArg (State.wakeIfFrame first) (State.foldl_answer ..)

theorem Link.eq_otherLink {x y : Link} (h : y ≠ x) : y = otherLink x :=
  match x, y, h with
  | .a, .b, _ | .b, .a, _ => rfl
  | .a, .a, h | .b, .b, h => absurd rfl h

theorem State.wakeIfFrame_of_none {s : State} {first : Link} (h : ∀ y, (s.link y).rx = []) :
    s.wakeIfFrame first = s := by
  simp [State.wakeIfFrame, h]

theorem State.wakeIfFrame_of_frame {s : State} {first y : Link} (hframe : (s.link y).rx ≠ [])
    (hfirst : y = first ∨ (s.link first).rx = []) : s.wakeIfFrame first = s.wake (.frame y) true := by
  have hwaits : (!(s.link y).rx.isEmpty) = true := by simpa using hframe
  unfold State.wakeIfFrame
  rcases hfirst with rfl | hempty
  · rw [if_pos hwaits]
  · obtain rfl : y = otherLink first := Link.eq_otherLink fun h => hframe (h ▸ hempty)
    rw [if_neg (by simp [hempty]), if_pos hwaits]

section RestTest
variable {s : State} {q : RestReq} {rest : List RestReq} (first : Link) (hwaits : s.ctl.restWaiting = q :: rest)
  (hready : s.ctl.state = .ready) (hburst : s.ctl.burst = none)
include hwaits hready hburst

theorem exec_restTest_refused (h : ¬ s.mayRest = true) : exec (.restTest first) s = .next { s with
    ctl := { s.ctl with restWaiting := rest }
    links := longReplied q.link q.ticket (.refused .notIdle) s.links } := by
  have hexec : exec (.restTest first) s = execRestTest first s := rfl
  simp only [hexec, execRestTest, hwaits, if_pos (And.intro hready hburst), if_neg h, State.answer_eq]
  rfl

theorem exec_restTest_accepted (h : s.mayRest = true) :
    exec (.restTest first) s = .next (s.atRest.wakeIfFrame first) := by
  have hexec : exec (.restTest first) s = execRestTest first s := rfl
  simp only [hexec, execRestTest, hwaits, if_pos (And.intro hready hburst), if_pos h, State.acceptRest_eq]

end RestTest

theorem exec_rest {s : State} {x : Link} {f : Frame} (h : s.offersLong x 17 f = true) :
    exec (.rest x) s = .next ((s.madeLong x f).serveRest x f s.nextTicket) := by
  obtain ⟨hoffers, hlen, -, -⟩ := State.offersLong_iff.1 h
  simp only [Frame.lengthOk, State.kind_of_offers hoffers] at hlen
  exact congrArg _ (State.serveLong_offersLong h (Frame.isKind_of_offers hoffers) hlen)

/-- Settles O58: the test by the seven conditions, and rest by whether a frame waits. -/
theorem restIsTestedAgainstTheWholePart : Obligations.RestIsTestedAgainstTheWholePart := by
  refine ⟨fun x s f h => exec_rest h, fun first s q rest hwaits hready hburst => ?_⟩
  intro idle
  have hidle : s.mayRest = true ↔ idle := s.mayRest_iff
  refine ⟨fun h => exec_restTest_refused first hwaits hready hburst (mt hidle.1 h), fun h => ?_⟩
  have hexec := exec_restTest_accepted first hwaits hready hburst (hidle.2 h)
  refine ⟨fun ha hb => ?_, fun y hframe hfirst => ?_⟩
  · have hnone : ∀ y, (s.atRest.link y).rx = [] := by
      simp only [State.atRest_rx]
      exact Link.forall_iff.2 ⟨ha, hb⟩
    rw [hexec, State.wakeIfFrame_of_none hnone]
    rfl
  · rw [hexec, State.wakeIfFrame_of_frame (y := y) (by rwa [State.atRest_rx]) (by rwa [State.atRest_rx])]
    rfl

end Sys2Proof.Machine
end

section
/-!
PROOFS. The end of a burst (R115, R116, R119, R120, R128, R161): the bytes it moves, with the devices' upsets, and its
delivery.
-/

set_option Elab.async false
namespace Sys2Proof.Machine

/-! ## Upsets (R120) -/

/-- One upset of a burst, whatever the word holds. -/
def Memory.flip (p addr : Nat) (m : Memory) (u : Upset) : Memory :=
  ⟨planePut m.data (4 * addr + u.byte) (m.byte p (4 * addr + u.byte) ^^^ u.data),
    planePut m.parity (4 * addr + u.byte) (xor (m.parityBit p (4 * addr + u.byte)) u.parity)⟩

theorem Memory.upset_eq (m : Memory) (p addr : Nat) (us : List Upset) :
    m.upset p addr us =
      (us.filter fun u => !m.wordMismatch p (4 * addr + u.byte)).foldl (Memory.flip p addr) m := rfl

/-- The data bits an upset flips, if there is one. -/
def flipData : Option Upset → Byte
  | none => 0
  | some u => u.data

/-- Whether an upset, if there is one, flips the parity bit. -/
def flipParity : Option Upset → Bool
  | none => false
  | some u => u.parity

/-- The upset among these that names a byte address. -/
def upsetAt (addr a : Nat) (us : List Upset) : Option Upset := us.find? fun u => 4 * addr + u.byte == a

section Flip
variable {m : Memory} (h : m.wf = true)
include h

theorem Memory.flip_wf (p addr : Nat) (u : Upset) : (m.flip p addr u).wf = true := by
  rw [Memory.wf_iff] at h ⊢
  exact ⟨planeWf_planePut _ _ h.1, planeWf_planePut _ _ h.2⟩

theorem Memory.byte_flip (p addr a : Nat) (u : Upset) :
    (m.flip p addr u).byte p a = if a = 4 * addr + u.byte then m.byte p a ^^^ u.data else m.byte p a := by
  rw [Memory.wf_iff] at h
  simp only [Memory.byte, Memory.flip, planeGet_planePut _ _ _ _ h.1]
  split
  · next ha => rw [ha]; rfl
  · rfl

theorem Memory.parityBit_flip (p addr a : Nat) (u : Upset) :
    (m.flip p addr u).parityBit p a =
      if a = 4 * addr + u.byte then xor (m.parityBit p a) u.parity else m.parityBit p a := by
  rw [Memory.wf_iff] at h
  simp only [Memory.parityBit, Memory.flip, planeGet_planePut _ _ _ _ h.2]
  split
  · next ha => rw [ha]; rfl
  · rfl

/-- Upsets that name each byte at most once flip each byte at most once. -/
theorem Memory.foldl_flip (p addr a : Nat) {us : List Upset} (hus : (us.map Upset.byte).Nodup) :
    (us.foldl (Memory.flip p addr) m).byte p a = m.byte p a ^^^ flipData (upsetAt addr a us) ∧
      (us.foldl (Memory.flip p addr) m).parityBit p a =
        xor (m.parityBit p a) (flipParity (upsetAt addr a us)) := by
  induction us generalizing m with
  | nil => simp [upsetAt, flipData, flipParity]
  | cons u us ih =>
    rw [List.map_cons, List.nodup_cons] at hus
    obtain ⟨hbyte, hparity⟩ := ih (Memory.flip_wf h p addr u) hus.2
    rw [List.foldl_cons, hbyte, hparity, Memory.byte_flip h, Memory.parityBit_flip h]
    by_cases ha : a = 4 * addr + u.byte
    · have hhead : upsetAt addr a (u :: us) = some u := List.find?_cons_of_pos (by simp [ha])
      have htail : upsetAt addr a us = none := by
        refine List.find?_eq_none.2 fun v hv hsame => hus.1 (List.mem_map.2 ⟨v, hv, ?_⟩)
        have hsame : 4 * addr + v.byte = a := by simpa using hsame
        omega
      simp [hhead, htail, if_pos ha, flipData, flipParity]
    · have hhead : upsetAt addr a (u :: us) = upsetAt addr a us :=
        List.find?_cons_of_neg (by simpa using Ne.symm ha)
      simp [hhead, if_neg ha]

end Flip

/-- The upset that befalls a byte: none in a word that mismatches already (R120, log 8). -/
def Memory.befalls (m : Memory) (p addr : Nat) (us : List Upset) (a : Nat) : Option Upset :=
  if m.wordMismatch p a = true then none else upsetAt addr a us

theorem Memory.upsetAt_filter (m : Memory) (p addr a : Nat) (us : List Upset) :
    upsetAt addr a (us.filter fun u => !m.wordMismatch p (4 * addr + u.byte)) = m.befalls p addr us a := by
  unfold upsetAt Memory.befalls
  rw [List.find?_filter]
  split
  · next hbroken =>
    refine List.find?_eq_none.2 fun u _ hu => ?_
    obtain ⟨hsound, rfl⟩ : m.wordMismatch p (4 * addr + u.byte) = false ∧ 4 * addr + u.byte = a := by simpa using hu
    exact Bool.eq_false_iff.1 hsound hbroken
  · next hsound =>
    refine congrArg (List.find? · us) (funext fun u => ?_)
    by_cases hu : 4 * addr + u.byte = a
    · simp [hu, hsound]
    · simp [hu]

section Upset
variable {m : Memory} {us : List Upset} (h : m.wf = true) (hus : Upset.wf us = true)
include h hus

theorem Memory.foldl_upset (p addr a : Nat) :
    (m.upset p addr us).byte p a = m.byte p a ^^^ flipData (m.befalls p addr us a) ∧
      (m.upset p addr us).parityBit p a = xor (m.parityBit p a) (flipParity (m.befalls p addr us a)) := by
  simp only [Upset.wf, Bool.and_eq_true, decide_eq_true_eq] at hus
  have hnodup : ((us.filter fun u => !m.wordMismatch p (4 * addr + u.byte)).map Upset.byte).Nodup :=
    hus.2.sublist (List.filter_sublist.map _)
  rw [Memory.upset_eq, ← Memory.upsetAt_filter]
  exact Memory.foldl_flip h p addr a hnodup

theorem Memory.byte_upset (p addr a : Nat) :
    (m.upset p addr us).byte p a = m.byte p a ^^^ flipData (m.befalls p addr us a) :=
  (Memory.foldl_upset h hus p addr a).1

theorem Memory.parityBit_upset (p addr a : Nat) :
    (m.upset p addr us).parityBit p a = xor (m.parityBit p a) (flipParity (m.befalls p addr us a)) :=
  (Memory.foldl_upset h hus p addr a).2

end Upset

/-! ## The bytes a burst moves (R116, R119) -/

/-- The byte that a burst writes at an address, if it writes one there. -/
def Burst.written (b : Burst) (a : Nat) : Option Byte :=
  match b.access with
  | .write data mask =>
    if 4 * b.addr ≤ a ∧ a < 4 * b.addr + 32 ∧ mask.getLsbD (a - 4 * b.addr) = true then
      some (wordByte (data.getD ((a - 4 * b.addr) / 4) 0) ((a - 4 * b.addr) % 4))
    else none
  | .read _ _ => none

/-- The parity bit of a byte that has been written, and of one that has not. -/
def parityAfter (old : Bool) : Option Byte → Bool
  | some v => parityOf v
  | none => old

/-- The eight words a burst reads from these bytes and parity bits (R120). -/
def wordsRead (byte : Nat → Byte) (parity : Nat → Bool) (start : Nat) (taken : BitVec 32) : List ReadWord :=
  (List.range 8).map fun i =>
    ⟨byte (start + 4 * i + 3) ++ byte (start + 4 * i + 2) ++ byte (start + 4 * i + 1) ++ byte (start + 4 * i),
      [0, 1, 2, 3].any fun j => taken.getLsbD (4 * i + j) &&
        xor (parityOf (byte (start + 4 * i + j))) (parity (start + 4 * i + j))⟩

theorem Memory.readBurst_eq (m : Memory) (p addr : Nat) (taken : BitVec 32) :
    m.readBurst p addr taken = wordsRead (m.byte p) (m.parityBit p) (4 * addr) taken := by
  unfold Memory.readBurst wordsRead Memory.word Memory.mismatch
  simp only [Nat.mul_add]
  rfl

theorem State.store_transfer (s : State) (b : Burst) (us : List Upset) (a : Nat)
    (h : s.store.wf = true) :
    (s.transfer b us).1.byte s.powerOns a =
        (b.written a).getD ((s.store.upset s.powerOns b.addr us).byte s.powerOns a) ∧
      (s.transfer b us).1.parityBit s.powerOns a =
        parityAfter ((s.store.upset s.powerOns b.addr us).parityBit s.powerOns a) (b.written a) := by
  unfold State.transfer Burst.written
  cases b.access with
  | read taken checked => exact ⟨rfl, rfl⟩
  | write data mask =>
    have hupset := Memory.upset_wf s.powerOns b.addr us h
    have hrange : (4 * b.addr ≤ a ∧ a - 4 * b.addr < 32 ∧ mask.getLsbD (a - 4 * b.addr) = true) ↔
        4 * b.addr ≤ a ∧ a < 4 * b.addr + 32 ∧ mask.getLsbD (a - 4 * b.addr) = true :=
      ⟨fun ⟨h1, h2, h3⟩ => ⟨h1, by omega, h3⟩, fun ⟨h1, h2, h3⟩ => ⟨h1, by omega, h3⟩⟩
    simp only [Memory.byte_writeBurst hupset, Memory.parityBit_writeBurst hupset, hrange]
    split
    · exact ⟨rfl, rfl⟩
    · exact ⟨rfl, rfl⟩

section Transfer
variable {s : State} {us : List Upset} (b : Burst) (h : s.store.wf = true) (hus : Upset.wf us = true)

/-- The bytes of the store with the upsets of a burst. -/
def State.byteUpset (s : State) (b : Burst) (us : List Upset) (a : Nat) : Byte :=
  s.store.byte s.powerOns a ^^^ flipData (s.store.befalls s.powerOns b.addr us a)

/-- The parity bits of the store with the upsets of a burst. -/
def State.parityUpset (s : State) (b : Burst) (us : List Upset) (a : Nat) : Bool :=
  xor (s.store.parityBit s.powerOns a) (flipParity (s.store.befalls s.powerOns b.addr us a))

include h hus

theorem State.byte_transfer (a : Nat) :
    (s.transfer b us).1.byte s.powerOns a = (b.written a).getD (s.byteUpset b us a) := by
  rw [(State.store_transfer s b us a h).1, Memory.byte_upset h hus]
  rfl

theorem State.parityBit_transfer (a : Nat) :
    (s.transfer b us).1.parityBit s.powerOns a = parityAfter (s.parityUpset b us a) (b.written a) := by
  rw [(State.store_transfer s b us a h).2, Memory.parityBit_upset h hus]
  rfl

theorem State.words_transfer : (s.transfer b us).2 = match b.access with
    | .write _ _ => []
    | .read taken _ => wordsRead (s.byteUpset b us) (s.parityUpset b us) (4 * b.addr) taken := by
  have hbytes : (s.store.upset s.powerOns b.addr us).byte s.powerOns = s.byteUpset b us :=
    funext fun a => Memory.byte_upset h hus s.powerOns b.addr a
  have hparity : (s.store.upset s.powerOns b.addr us).parityBit s.powerOns = s.parityUpset b us :=
    funext fun a => Memory.parityBit_upset h hus s.powerOns b.addr a
  unfold State.transfer
  cases b.access with
  | write data mask => rfl
  | read taken checked => rw [← hbytes, ← hparity]; exact Memory.readBurst_eq ..

end Transfer

/-! ## The delivery (R115, R116, R128, R161) -/

theorem State.flagIf_eq (s : State) (bad : Bool) : s.flagIf bad = { s with links := parityFlagged bad s.links } := by
  cases bad <;> rfl

theorem State.burstMoved_eq (s : State) (b : Burst) (us : List Upset) : s.burstMoved b us = { s with
    store := (s.transfer b us).1
    ctl := { s.ctl with
      burst := none
      banks := if b.req = .table then s.ctl.banks.set (bankOf b.addr) .idle else s.ctl.banks }
    links := parityFlagged (b.signals (s.transfer b us).2) s.links } := State.flagIf_eq ..

theorem parityFlagged_streams (bad : Bool) (l : Pair LinkCtl) (x : Link) :
    ((parityFlagged bad l).get x).streams = (l.get x).streams := by
  cases bad
  · rfl
  · cases x <;> rfl

section BurstEnd
variable {s t : State} {b : Burst} {us : List Upset}

theorem exec_burstEnd_outside (hburst : s.ctl.burst = some b) (h : s.size.extents * 16384 < b.addr + 8) :
    exec (.burstEnd us) s = .fault (.outsideStore b.addr) := by
  have hexec : exec (.burstEnd us) s = execBurstEnd us s := rfl
  simp only [hexec, execBurstEnd, hburst]
  exact if_neg (Nat.not_le.2 h)

theorem exec_burstEnd (hburst : s.ctl.burst = some b) (h : b.addr + 8 ≤ s.size.extents * 16384) :
    exec (.burstEnd us) s = .next (s.endBurst b us).pressDue.arbitrate := by
  have hexec : exec (.burstEnd us) s = execBurstEnd us s := rfl
  simp only [hexec, execBurstEnd, hburst]
  exact if_pos h

/-- The operations that were ready behind the burst of ended work are placed. -/
theorem State.placeDeferred_eq (s : State) : s.placeDeferred = { s with arb := { s.arb with
    deferred := []
    tableQueue := s.arb.deferred.foldl
      (fun q op => if op.byPress = true then pressQueued op q else q ++ [op]) s.arb.tableQueue } } := rfl

theorem State.tableMade_of_waiting {op : TableOp} {ws : List ReadWord} (hinit : ∀ page, op.client ≠ .headerInit page) :
    s.tableMade op ws =
      if s.wantsEnd op.client then { s with arb := { s.arb with tableEnds := s.arb.tableEnds ++ [⟨op, ws⟩] } }
      else s := by
  unfold State.tableMade
  split
  · next page hclient => exact absurd hclient (hinit page)
  · rfl

/-- A client wants the end of its operation, unless it is a copy stream that the link runs no longer. -/
theorem State.wantsEnd_iff {c : Client} :
    s.wantsEnd c = true ↔ ∀ x n, c = .copy x n → ∃ st ∈ (s.link x).streams, st.serial = n := by
  unfold State.wantsEnd
  split
  · next x n => simp [LinkCtl.stream, List.find?_isSome]
  · next hother => exact ⟨fun _ x n hc => absurd hc (hother x n), fun _ => rfl⟩

/-- The next operation of a header initialisation that has written some of its records (R36). -/
def HeaderInit.nextOp (h : HeaderInit) : TableOp :=
  ⟨.headerInit h.page, recordBurst h.header (h.written + 4),
    .write (List.replicate 8 0) (recordMask (h.written + 4) (min 4 (h.total - (h.written + 4))))⟩

theorem State.tableMade_of_init {h : HeaderInit} {op : TableOp} {ws : List ReadWord}
    (hclient : op.client = .headerInit h.page) (hinits : s.dir.inits = [h]) :
    s.tableMade op ws = { s with
      dir := { s.dir with inits := [{ h with written := h.written + 4 }] }
      arb := { s.arb with tableQueue :=
        if h.written + 4 < h.total then s.arb.tableQueue ++ [h.nextOp] else s.arb.tableQueue } } := by
  simp only [State.tableMade, hclient, State.modDir, hinits, List.map_cons, List.map_nil, if_pos, List.find?_cons,
    beq_self_eq_true]
  split
  · rw [State.placeOp_eq, State.opPlaced_tail rfl rfl]
    rfl
  · rfl

end BurstEnd

/-- Settles O56: the bytes by the write over the upsets, and the delivery by the requester and its client. -/
theorem burstEndMovesItsBytes : Obligations.BurstEndMovesItsBytes := by
  intro s b us hburst
  refine ⟨exec_burstEnd_outside hburst, fun hstore hus hwf => ?_⟩
  intro start broken flip byte parity written words signalled
  refine ⟨(s.transfer b us).1, State.transfer_wf s b us hwf, State.byte_transfer b hwf hus, fun a => ?_, ?_⟩
  · exact State.parityBit_transfer b hwf hus a
  intro ended answers
  have hwords : (s.transfer b us).2 = words := State.words_transfer b hwf hus
  have hmoved : s.burstMoved b us = ended := by
    rw [State.burstMoved_eq, hwords]
    rfl
  have hend : ∀ {t : State}, s.endBurst b us = t → answers t := fun h =>
    h ▸ exec_burstEnd hburst hstore
  rw [State.endBurst_eq, hmoved, hwords] at hend
  refine ⟨fun hlive => ?_, fun hlive => ?_⟩
  · rw [hlive] at hend
    exact hend ended.placeDeferred_eq
  have hdeliver : ∀ {t : State}, ended.deliver b words = t → answers t := by
    rw [hlive] at hend
    exact hend
  have htable : ∀ {c : Client} {t : State}, b.req = .table → b.client = some c →
      ended.tableMade ⟨c, b.addr, b.access⟩ words = t → answers t := fun hreq hclient h =>
    hdeliver (by simpa only [State.deliver, hreq, hclient] using h)
  have hstreams : ∀ x, (ended.link x).streams = (s.link x).streams := parityFlagged_streams _ _
  refine ⟨fun x hreq => ?_, fun l j r hreq hlane => ?_, fun l j r k fs hreq hlane => ?_, fun hreq => ?_,
    fun x hreq => ?_, fun c hreq hclient hinit hcopy => ?_, fun x n hreq hclient hgone => ?_,
    fun page h hreq hclient hinits hpage => ?_⟩
  · refine hdeliver ?_
    simp only [State.deliver, hreq]
    rfl
  · have hlane : ended.lane l = .encoding j r := hlane
    exact hdeliver (by simp only [State.deliver, hreq, hlane])
  · have hlane : ended.lane l = .decoding j (.rows r k fs) := hlane
    refine hdeliver ?_
    simp only [State.deliver, hreq, hlane]
    rfl
  · exact hdeliver (by simp only [State.deliver, hreq])
  · exact hdeliver (by simp only [State.deliver, hreq])
  · have hwants : ended.wantsEnd c = true := State.wantsEnd_iff.2 (by simpa only [hstreams] using hcopy)
    exact htable hreq hclient ((State.tableMade_of_waiting hinit).trans (if_pos hwants))
  · have hwants : ¬ ended.wantsEnd (.copy x n) = true := fun h => by
      obtain ⟨st, hst, hserial⟩ := State.wantsEnd_iff.1 h x n rfl
      exact hgone st (hstreams x ▸ hst) hserial
    exact htable hreq hclient ((State.tableMade_of_waiting fun page hc => by cases hc).trans (if_neg hwants))
  · subst hpage
    exact htable hreq hclient (State.tableMade_of_init rfl hinits)

end Sys2Proof.Machine
end

section
/-!
PROOFS. The finish of a press line (R144, R145, R148) and the steps of the press decoder that the end of a burst makes
due (R132, R134).
-/

set_option Elab.async false
namespace Sys2Proof.Machine

/-! ## Lines that are due (R148) -/

/-- The rows of the line in progress are complete. -/
def State.rowComplete (s : State) (d : DecPos) (p : Page) (rows : List (List Nat)) : Prop :=
  s.press.row = some rows ∧ s.press.pos = some d ∧ s.page d.page = some p ∧ rows.length = p.c

theorem State.pressPage_eq_some {s : State} {d : DecPos} {p : Page} (h : s.pressPage = some (d, p)) :
    s.press.pos = some d ∧ s.page d.page = some p := by
  unfold State.pressPage at h
  split at h
  · next d' hd =>
    obtain ⟨p', hp, heq⟩ := Option.map_eq_some_iff.1 h
    obtain ⟨rfl, rfl⟩ := Prod.mk.inj heq
    exact ⟨hd, hp⟩
  · cases h

theorem State.lineDue_of_complete {s : State} {d : DecPos} {p : Page} {rows : List (List Nat)}
    (h : s.rowComplete d p rows) : s.lineDue = some (d, p, rows) := by
  obtain ⟨hrow, hd, hp, hlength⟩ := h
  simp only [State.lineDue, hrow, State.pressPage_eq hd hp, if_pos hlength]

theorem State.lineDue_of_not_complete {s : State} (h : ¬ ∃ rows d p, s.rowComplete d p rows) : s.lineDue = none := by
  unfold State.lineDue
  split
  · next rows d p hrow hpage =>
    obtain ⟨hd, hp⟩ := State.pressPage_eq_some hpage
    exact if_neg fun hlength => h ⟨rows, d, p, hrow, hd, hp, hlength⟩
  · rfl

theorem exec_pressLineFinish_of_due {s : State} {d : DecPos} {p : Page} {rows : List (List Nat)}
    (h : s.lineDue = some (d, p, rows)) : exec .pressLineFinish s = .next (s.pressFinish d p rows).arbitrate := by
  have hexec : exec .pressLineFinish s = execPressLineFinish s := rfl
  rw [hexec, execPressLineFinish, h]

theorem exec_pressLineFinish_of_not_due {s : State} (h : s.lineDue = none) : exec .pressLineFinish s = .next s := by
  have hexec : exec .pressLineFinish s = execPressLineFinish s := rfl
  rw [hexec, execPressLineFinish, h]

theorem State.finishDue_of_due {s : State} {d : DecPos} {p : Page} {rows : List (List Nat)}
    (h : s.lineDue = some (d, p, rows)) (n : Nat) : s.finishDue (n + 1) = (s.pressFinish d p rows).finishDue n := by
  rw [State.finishDue, h]

theorem State.finishDue_of_not_due {s : State} (h : s.lineDue = none) (n : Nat) : s.finishDue n = s := by
  cases n with
  | zero => rfl
  | succ n => rw [State.finishDue, h]

/-! ## The finish of a line (R144, R145) -/

/-- The state after a line has been discarded by the skip count or has entered the FIFO, the decoder at a position. -/
def State.lineGone (line : FifoLine) (at_ : DecPos) (s : State) : State := { s with press :=
  if 0 < s.press.skip then { s.press with row := none, skip := s.press.skip - 1, pos := some at_ }
  else { s.press with row := none, fifo := s.press.fifo ++ [line], pos := some at_ } }

/-- A line has its place: it is to be discarded, or there is room for it. -/
def PressFeed.placeFor (f : PressFeed) (line : FifoLine) : Prop :=
  0 < f.skip ∨ f.fifoWords + line.words.length ≤ 65536

theorem PressFeed.enterLine_of_room {f : PressFeed} {line : FifoLine} (h : f.fifoWords + line.words.length ≤ 65536) :
    f.enterLine line = { f with row := none, fifo := f.fifo ++ [line] } := by
  have hroom : line.words.length ≤ f.room := by
    simp only [PressFeed.room, Config.fifoWords]
    omega
  rw [PressFeed.enterLine, if_pos hroom]

/-- The finished line leaves the row, then the decoder moves to a position. -/
theorem State.lineGone_eq {s : State} {line : FifoLine} (hplace : s.press.placeFor line) (at_ : DecPos) :
    ((s.modPress fun f =>
      if 0 < f.skip then { f with row := none, skip := f.skip - 1 } else f.enterLine line).modPress fun f =>
        { f with pos := some at_ }) = s.lineGone line at_ := by
  by_cases hskip : 0 < s.press.skip
  · simp only [State.modPress, State.lineGone, if_pos hskip]
  · have hroom := hplace.resolve_left hskip
    simp only [State.modPress, State.lineGone, if_neg hskip, PressFeed.enterLine_of_room hroom]

theorem State.lineGone_here {s : State} {d : DecPos} {line : FifoLine} (hd : s.press.pos = some d)
    (hplace : s.press.placeFor line) :
    (s.modPress fun f => if 0 < f.skip then { f with row := none, skip := f.skip - 1 } else f.enterLine line) =
      s.lineGone line d := by
  rw [← State.lineGone_eq hplace]
  by_cases hskip : 0 < s.press.skip
  · simp only [State.modPress, if_pos hskip, ← hd]
  · simp only [State.modPress, if_neg hskip, PressFeed.enterLine, ← hd]

/-- After a line come the next row, the next band or the next sheet, then the tests. -/
theorem State.pressFinish_eq {s : State} {d : DecPos} {p : Page} {rows : List (List Nat)} (hd : s.press.pos = some d)
    (hplace : s.press.placeFor (s.pressLine d p rows)) :
    s.pressFinish d p rows = State.testPress (
      if d.row + 1 < s.rowsOf p d.band then (s.lineGone (s.pressLine d p rows) { d with row := d.row + 1 }).pressRow
      else if d.band + 1 < p.b then
        (s.lineGone (s.pressLine d p rows) { d with band := d.band + 1, row := 0 }).pressBand
      else (s.lineGone (s.pressLine d p rows) d).pressMoveOn d) := by
  simp only [State.pressFinish, State.lineGone_eq hplace]
  rw [State.lineGone_here hd hplace]

/-- The component order of a sheet is the latched one, or the one in force. -/
theorem PressFeed.order_eq (f : PressFeed) (sheet : SheetId) :
    ((f.latched sheet).getD f.settings).order = match f.latches.find? (fun l => l.sheet == sheet) with
      | none => f.settings.order
      | some l => l.settings.order := by
  unfold PressFeed.latched
  cases f.latches.find? (fun l => l.sheet == sheet) <;> rfl

/-! ## The steps due at the end of a burst (R132, R134) -/

/-- An ended record read is taken only while one waits. -/
theorem State.pressTakeEnd_of_none {s : State} (h : ∀ e ∈ s.arb.tableEnds, e.op.client ≠ .press) :
    s.pressTakeEnd = s := by
  have hfind : s.arb.tableEnds.find? (fun e => e.op.client == .press) = none :=
    List.find?_eq_none.2 fun e he => by simpa using h e he
  simp only [State.pressTakeEnd, State.takeEnd, hfind]

/-- The state in which the lines due are finished: while press urgent is yes the ended record read has been taken. -/
def State.urgentEndTaken (s : State) : State := if s.arb.pressUrgent = true then s.pressTakeEnd else s

theorem State.pressDue_of_page {s : State} {d : DecPos} {p : Page} (hd : s.urgentEndTaken.press.pos = some d)
    (hp : s.urgentEndTaken.page d.page = some p) :
    s.pressDue = s.urgentEndTaken.finishDue (s.urgentEndTaken.rowsOf p d.band) := by
  have hpage := State.pressPage_eq hd hp
  unfold State.urgentEndTaken at hpage ⊢
  simp only [State.pressDue, hpage]

theorem State.pressDue_of_no_page {s : State}
    (h : ∀ d, s.urgentEndTaken.press.pos = some d → s.urgentEndTaken.page d.page = none) :
    s.pressDue = s.urgentEndTaken := by
  have hpage : s.urgentEndTaken.pressPage = none := by
    refine Option.eq_none_iff_forall_ne_some.2 fun ⟨d, p⟩ hpage => ?_
    obtain ⟨hd, hp⟩ := State.pressPage_eq_some hpage
    cases (h d hd).symm.trans hp
  unfold State.urgentEndTaken at hpage ⊢
  simp only [State.pressDue, hpage]

/-! ## The obligation -/

/-- Settles O49: a line that is due is finished in its place, and nothing is done where none is due. -/
theorem pressLinesAreFinishedInOrder : Obligations.PressLinesAreFinishedInOrder := by
  refine ⟨fun s d p rows hrow hd hp hlength => ?_, fun s => ?_⟩
  · intro order samples line hplace finished next
    have hdue := State.lineDue_of_complete ⟨hrow, hd, hp, hlength⟩
    have hline : s.pressLine d p rows = line := by
      rw [State.pressLine, PressFeed.order_eq]
      rfl
    have hfinish : s.pressFinish d p rows = next := by
      rw [State.pressFinish_eq hd (by rw [hline]; exact hplace), hline]
      rfl
    rw [← hfinish]
    exact ⟨exec_pressLineFinish_of_due hdue, State.finishDue_of_due hdue⟩
  · intro due
    have hnone : ¬ due → s.lineDue = none := State.lineDue_of_not_complete
    exact ⟨fun h => exec_pressLineFinish_of_not_due (hnone h), fun n h => State.finishDue_of_not_due (hnone h) n,
      State.pressTakeEnd_of_none, fun d p => State.pressDue_of_page, State.pressDue_of_no_page⟩

end Sys2Proof.Machine
end

section
/-!
PROOFS. What each requester presents (R87, R88, R93, R116, R121, R127, R147, R179): the bytes a read takes, the words of
a payload write, and the burst of a lane, of the press and of a stream.
-/

set_option Elab.async false
namespace Sys2Proof.Machine

/-! ## The bytes a read takes (R116) -/

theorem testBit_wordsMask (n : Nat) {i : Nat} (hi : i < 32) :
    (2 ^ (4 * min n 8) - 1).testBit i = decide (i / 4 < n) := by
  rw [Nat.testBit_two_pow_sub_one]
  exact decide_eq_decide.2 (by omega)

/-- The mask of the first words of a burst takes the bytes of those words. -/
theorem wordsMask_getLsbD (n : Nat) {i : Nat} (hi : i < 32) : (wordsMask n).getLsbD i = decide (i / 4 < n) := by
  rw [wordsMask, BitVec.getLsbD_ofNat, testBit_wordsMask n hi]
  simp [hi]

theorem testBit_twelve (i : Nat) : (12 : Nat).testBit i = decide (i = 2 ∨ i = 3) := by
  rcases Nat.lt_or_ge i 4 with h | h
  · interval_cases i <;> rfl
  · rw [Nat.testBit_lt_two_pow (Nat.lt_of_lt_of_le (by decide : 12 < 2 ^ 4) (Nat.pow_le_pow_right Nat.two_pos h))]
    simp
    omega

/-- The upper half of one word of a burst, which holds its earlier sample (R51). -/
theorem upperHalf_getLsbD (k : Nat) {i : Nat} (hi : i < 32) :
    (BitVec.ofNat 32 (12 * 2 ^ (4 * k))).getLsbD i = decide (i / 4 = k ∧ 2 ≤ i % 4) := by
  rw [BitVec.getLsbD_ofNat, Nat.testBit_mul_two_pow, testBit_twelve, ← Bool.decide_and, ← Bool.decide_and]
  exact decide_eq_decide.2 (by omega)

/-- A slot read takes the bytes up to the last sample needed (R87, R116). -/
theorem EncodeRun.nextRead_taken (r : EncodeRun) (x : Link) (t : SlotId) (comp : Nat) {i : Nat} (hi : i < 32) :
    (r.nextRead x t comp).2.getLsbD i = decide (2 * (i / 4) + (if i % 4 < 2 then 1 else 0) < r.left) := by
  have hwhole (n : Nat) : (wordsMask n).getLsbD i = decide (i / 4 < n) := wordsMask_getLsbD n hi
  unfold EncodeRun.nextRead
  by_cases hfull : 16 ≤ r.left
  · rw [if_pos hfull, hwhole]
    exact decide_eq_decide.2 (by split_ifs <;> omega)
  · rw [if_neg hfull]
    by_cases heven : r.left % 2 = 0
    · rw [if_pos heven, hwhole]
      exact decide_eq_decide.2 (by split_ifs <;> omega)
    · rw [if_neg heven, BitVec.getLsbD_or, hwhole, upperHalf_getLsbD _ hi, ← Bool.decide_or]
      exact decide_eq_decide.2 (by split_ifs <;> omega)

/-- A requester presents the read of some words of a burst: the bytes of those words are taken (R116). -/
def State.presentsRead (s : State) (r : Requester) (addr words : Nat) (checked : Bool) : Prop :=
  ∃ taken : BitVec 32, s.presented r = some ⟨r, addr, .read taken checked, none, true⟩ ∧
    ∀ i < 32, taken.getLsbD i = decide (i / 4 < words)

theorem State.presentsRead_of {s : State} {r : Requester} {addr words : Nat} {checked : Bool}
    (h : s.presented r = some ⟨r, addr, .read (wordsMask words) checked, none, true⟩) :
    s.presentsRead r addr words checked :=
  ⟨wordsMask words, h, fun _ => wordsMask_getLsbD words⟩

/-! ## The payload of a decoding (R93, R147) -/

theorem Decoder.nextRead_of_unread {k : Decoder} {e : Nat} (hext : k.ext = some e) (hleft : k.fetched < k.words) :
    k.nextRead = some (e * 16384 + k.fetched % 16384, wordsMask (k.words - k.fetched)) := by
  simp only [Decoder.nextRead, hext, if_pos hleft]
  rfl

theorem Decoder.nextRead_of_read {k : Decoder} (h : k.ext = none ∨ k.words ≤ k.fetched) : k.nextRead = none := by
  unfold Decoder.nextRead
  split
  · next e hext => exact if_neg (h.resolve_left (by simp [hext])).not_gt
  · rfl

/-- A requester whose burst is the next payload read of a decoding presents the words left, or nothing. -/
theorem State.presentsPayload {s : State} {r : Requester} {k : Decoder}
    (h : s.presented r = k.nextRead.map fun n => ⟨r, n.1, .read n.2 true, none, true⟩) :
    (∀ e, k.ext = some e → k.fetched < k.words →
      s.presentsRead r (e * 16384 + k.fetched % 16384) (k.words - k.fetched) true) ∧
    (k.ext = none ∨ k.words ≤ k.fetched → s.presented r = none) := by
  refine ⟨fun e hext hleft => State.presentsRead_of ?_, fun hread => ?_⟩
  · rw [h, Decoder.nextRead_of_unread hext hleft]
    rfl
  · rw [h, Decoder.nextRead_of_read hread]
    rfl

/-! ## The payload write of a lane (R88) -/

/-- The bits of a word stand in it from bit 31 down, zeros after the last (R13). -/
theorem bitsWord_getLsbD (bs : List Bool) {i : Nat} (hi : i < 32) :
    (bitsWord bs).getLsbD (31 - i) = bs.getD i false := by
  have hread : (wordBits (bitsWord bs)).getD i false = (bitsWord bs).getLsbD (31 - i) := by
    simp [wordBits, natBits, List.getD_eq_getElem?_getD, hi, BitVec.getLsbD]
  rw [← hread, wordBits_bitsWord]
  simp only [List.getD_eq_getElem?_getD, List.getElem?_take, if_pos hi, List.getElem?_append, List.getElem?_replicate]
  split_ifs with hin <;> simp [hin]

theorem packBits_getD {n j : Nat} (hj : j < n) (bits : List Bool) :
    (packBits n bits).getD j 0 = bitsWord ((bits.drop (32 * j)).take 32) := by
  induction n generalizing j bits with
  | zero => omega
  | succ n ih =>
    cases j with
    | zero => rfl
    | succ j =>
      rw [packBits, List.getD_cons_succ, ih (by omega), List.drop_drop]
      congr 3
      omega

/-- Bit `i` of the packing stands in word `i / 32`. -/
theorem packBits_bit {n i : Nat} (hi : i < 32 * n) (bits : List Bool) :
    ((packBits n bits).getD (i / 32) 0).getLsbD (31 - i % 32) = bits.getD i false := by
  have hmod : i % 32 < 32 := Nat.mod_lt i (by decide)
  rw [packBits_getD (by omega), bitsWord_getLsbD _ hmod]
  simp only [List.getD_eq_getElem?_getD, List.getElem?_take, if_pos hmod, List.getElem?_drop, Nat.div_add_mod]

theorem ExtentMap.chainFrom_length_le (m : ExtentMap) (n e : Nat) : (m.chainFrom n e).length ≤ n := by
  rw [m.chainFrom_take le_rfl e, List.length_take]
  exact Nat.min_le_left _ _

/-- The extent of the next payload word is the one at its place in the chain. -/
theorem EncodeRun.writeExtent_eq {m : ExtentMap} {r : EncodeRun} {e : Nat}
    (h : (m.chainOf r.first)[r.words / 16384]? = some e) : r.writeExtent m = some e := by
  unfold EncodeRun.writeExtent
  cases hfirst : r.first with
  | none => rw [hfirst] at h; cases h
  | some a =>
    rw [hfirst, ExtentMap.chainOf] at h
    have hlt := (List.getElem?_eq_some_iff.1 h).1
    have hle := m.chainFrom_length_le m.table.length a
    have hcut := m.chainFrom_take (k := r.words / 16384 + 1) (n := m.table.length) (by omega) a
    simp only [Config.extentWords, hcut, List.getElem?_take, Nat.lt_succ_self, if_true, h]

/-! ## What a lane presents (R87, R88, R93) -/

section Lanes
variable {s : State} {l : Lane} {j : Job} {r : EncodeRun}

theorem State.laneBurst_of_idle (hlane : s.lane l = .idle) : s.laneBurst l = none := by
  simp only [State.laneBurst, hlane]

/-- A lane that makes its record, or has written its payload, presents nothing. -/
theorem State.laneBurst_of_done (hlane : s.lane l = .encoding j r)
    (h : r.phase = .recording ∨ (r.left = 0 ∧ r.out = [])) : s.laneBurst l = none := by
  simp only [State.laneBurst, hlane]
  by_cases hphase : r.phase = .recording
  · exact if_pos hphase
  · obtain ⟨hleft, hout⟩ := h.resolve_left hphase
    have hwants : ¬ r.wantsWrite = true := by simp [EncodeRun.wantsWrite_iff, hout]
    rw [if_neg hphase, if_neg hwants, if_pos hleft]

/-- A lane that has a payload burst ready presents it. -/
theorem State.laneBurst_of_wants (hlane : s.lane l = .encoding j r) (hphase : r.phase ≠ .recording)
    (hwants : r.wantsWrite = true) {e : Nat} (he : r.writeExtent s.map = some e) :
    s.laneBurst l = some ⟨.lane l, e * 16384 + r.words % 16384,
      .write (packBits 8 (r.out.take 256)) 0xFFFFFFFF, none, true⟩ := by
  simp only [State.laneBurst, hlane, if_neg hphase, if_pos hwants, EncodeRun.nextWrite, he]
  rfl

/-- A lane with samples left and no payload burst ready presents its next slot burst. -/
theorem State.laneBurst_of_reads (hlane : s.lane l = .encoding j r) (hphase : r.phase ≠ .recording)
    (hwants : ¬ r.wantsWrite = true) (hleft : 0 < r.left) {x : Link} {t : SlotId} (hsource : j.source = .slot x t) :
    s.laneBurst l = some ⟨.lane l, (r.nextRead x t j.comp).1, .read (r.nextRead x t j.comp).2 true, none, true⟩ := by
  simp only [State.laneBurst, hlane, if_neg hphase, if_neg hwants, if_neg hleft.ne', hsource]

theorem State.laneBurst_of_recordRead (hlane : s.lane l = .decoding j .recordRead) : s.laneBurst l = none := by
  simp only [State.laneBurst, hlane]

/-- A lane whose row waits for places presents nothing. -/
theorem State.laneBurst_of_placing {record : BandRecord} {k : Decoder} {f : OutFrame} {fs : List OutFrame}
    (hlane : s.lane l = .decoding j (.rows record k (f :: fs))) : s.laneBurst l = none := by
  simp only [State.laneBurst, hlane]

theorem State.laneBurst_of_rows {record : BandRecord} {k : Decoder}
    (hlane : s.lane l = .decoding j (.rows record k [])) :
    s.laneBurst l = k.nextRead.map fun n => ⟨.lane l, n.1, .read n.2 true, none, true⟩ := by
  simp only [State.laneBurst, hlane]

/-- The words of the write are the next bits of the payload, zeros after the last (R88). -/
theorem payloadWords_bit (out : List Bool) {i : Nat} (hi : i < 256) :
    ((packBits 8 (out.take 256)).getD (i / 32) 0).getLsbD (31 - i % 32) = out.getD i false := by
  rw [packBits_bit hi]
  simp only [List.getD_eq_getElem?_getD, List.getElem?_take, if_pos hi]

end Lanes

/-! ## What the press and a stream present (R147, R179) -/

theorem State.presented_press_of_idle {s : State} (hrow : s.press.row = none) : s.presented .press = none := by
  simp only [State.presented, PressFeed.reading, hrow]

section Press
variable {s : State} {rows : List (List Nat)}

theorem State.presented_press_of_decoding (hrow : s.press.row = some rows) {record : BandRecord} {k : Decoder}
    (hcomp : s.press.comps[rows.length]? = some (.decoding record k)) :
    s.presented .press = k.nextRead.map fun n => ⟨.press, n.1, .read n.2 true, none, true⟩ := by
  simp only [State.presented, PressFeed.reading, hrow, hcomp]

theorem State.presented_press_of_not_decoding (hrow : s.press.row = some rows)
    (h : ∀ record k, s.press.comps[rows.length]? ≠ some (.decoding record k)) : s.presented .press = none := by
  have hreading : s.press.reading = none := by
    unfold PressFeed.reading
    rw [hrow]
    dsimp only
    split
    · next record k hcomp => exact absurd hcomp (h record k)
    · rfl
  simp only [State.presented, hreading]

end Press

theorem State.presented_stream_of_idle {s : State} {x : Link} (h : (s.link x).filling = none) :
    s.presented (.stream x) = none := by
  simp only [State.presented, State.streamRead, h, Option.map_none]

section Stream
variable {s : State} {x : Link} {f : Filling} {st : Stream} (hfill : (s.link x).filling = some f)
  (hstream : (s.link x).streams.find? (fun st => st.serial == f.serial) = some st)
include hfill hstream

/-- A stream whose frame wants more words of an open chain presents their read. -/
theorem State.presented_stream_of_wanting {record : BandRecord} {e : Nat} (hrecord : st.record = some record)
    (hext : st.ext = some e) (hwant : f.words.length < st.frameWords) :
    s.presented (.stream x) = some ⟨.stream x, e * 16384 + (st.next + f.words.length) % 16384,
      .read (wordsMask (st.frameWords - f.words.length)) st.kind.checked, none, true⟩ := by
  simp only [State.presented, State.streamRead, hfill, LinkCtl.stream, hstream, hrecord, hext, if_pos hwant]
  rfl

theorem State.presented_stream_of_full (hfull : st.frameWords ≤ f.words.length) : s.presented (.stream x) = none := by
  simp only [State.presented, State.streamRead, hfill, LinkCtl.stream, hstream, if_neg hfull.not_gt]
  split <;> rfl

/-- A stream without a record, or whose chain is not open, presents nothing. -/
theorem State.presented_stream_of_closed (hclosed : st.record = none ∨ st.ext = none) :
    s.presented (.stream x) = none := by
  simp only [State.presented, State.streamRead, hfill, LinkCtl.stream, hstream]
  split
  · next record e hrecord hext => simp [hrecord, hext] at hclosed
  · rfl

end Stream

theorem Stream.frameWords_eq {st : Stream} {record : BandRecord} (h : st.record = some record) :
    st.frameWords = min 4000 (record.words - st.next) := by
  simp only [Stream.frameWords, Stream.words, h]
  rfl

end Sys2Proof.Machine
end

section
/-!
PROOFS. The grant decision (R129 to R135): the urgent press, the standing run, the ring, idle refresh and a free store,
in that order.
-/

set_option Elab.async false
namespace Sys2Proof.Machine

/-! ## Grants (R114, R118, R132 to R134) -/

/-- The state after a burst has been granted: its row is open, and a TABLE operation has left its queue. -/
def State.granted (g : Grant) (count : Nat) (position : Requester) (b : Burst) (s : State) : State := { s with
  arb := { s.arb with
    grant := g, count := count, ring := position
    tableQueue := if b.req = .table then s.arb.tableQueue.tail else s.arb.tableQueue }
  ctl := { s.ctl with
    burst := some b, banks := s.ctl.banks.set (bankOf b.addr) (.opened (b.addr / 512 / 4)) } }

theorem State.startBurst_modArb (s : State) (b : Burst) (g : Grant) (count : Nat) (position : Requester) :
    (s.modArb fun a => { a with grant := g, count := count, ring := position }).startBurst b =
      s.granted g count position b := by
  unfold State.startBurst State.granted
  by_cases htable : b.req = .table
  · simp only [if_pos htable]
    rfl
  · simp only [if_neg htable]
    rfl

theorem State.grantUrgent_eq (s : State) (b : Burst) : s.grantUrgent b = s.granted (.urgent b.req) 0 s.arb.ring b :=
  s.startBurst_modArb b _ _ _

theorem State.grantRun_eq (s : State) (b : Burst) : s.grantRun b = s.granted (.run b.req) 1 b.req b :=
  s.startBurst_modArb b _ _ _

theorem State.extendRun_eq (s : State) (b : Burst) :
    s.extendRun b = s.granted s.arb.grant (min 32 (s.arb.count + 1)) s.arb.ring b :=
  s.startBurst_modArb b _ _ _

/-- The burst a requester presents is its own. -/
theorem State.req_of_presented {s : State} {r : Requester} {b : Burst} (h : s.presented r = some b) : b.req = r := by
  cases r with
  | intake x =>
    simp only [State.presented] at h
    split at h
    · obtain ⟨w, -, rfl⟩ := Option.map_eq_some_iff.1 h
      rfl
    · cases h
  | lane l =>
    simp only [State.presented, State.laneBurst] at h
    split at h
    · cases h
    · split_ifs at h
      · obtain ⟨w, -, rfl⟩ := Option.map_eq_some_iff.1 h
        rfl
      · split at h <;> cases h
        rfl
    · obtain ⟨n, -, rfl⟩ := Option.map_eq_some_iff.1 h
      rfl
    · cases h
  | press =>
    simp only [State.presented] at h
    split at h
    · obtain ⟨n, -, rfl⟩ := Option.map_eq_some_iff.1 h
      rfl
    · cases h
  | table =>
    obtain ⟨op, -, rfl⟩ := Option.map_eq_some_iff.1 h
    rfl
  | stream x =>
    obtain ⟨n, -, rfl⟩ := Option.map_eq_some_iff.1 h
    rfl

/-! ## The cases of a decision (R130) -/

section Decision
variable {s : State}

/-- An operation of the press decoder stands at the head of the TABLE queue. -/
def State.pressAtHead (s : State) : Prop := ∃ op q, s.arb.tableQueue = op :: q ∧ op.byPress = true

/-- No press request is to be granted URGENT. -/
def State.noUrgent (s : State) : Prop := s.arb.pressUrgent = false ∨ (¬ s.pressAtHead ∧ s.presented .press = none)

theorem State.pressAtHead_iff : s.pressAtHead ↔ (s.arb.tableQueue.head?.map TableOp.byPress).getD false = true := by
  unfold State.pressAtHead
  cases s.arb.tableQueue <;> simp

theorem State.urgentBurst_of_table (hurgent : s.arb.pressUrgent = true) (hhead : s.pressAtHead) :
    s.urgentBurst = s.presented .table := by
  rw [State.urgentBurst, if_pos hurgent, if_pos (State.pressAtHead_iff.1 hhead)]

theorem State.urgentBurst_of_press (hurgent : s.arb.pressUrgent = true) (hhead : ¬ s.pressAtHead) :
    s.urgentBurst = s.presented .press := by
  rw [State.urgentBurst, if_pos hurgent, if_neg (mt State.pressAtHead_iff.2 hhead)]

theorem State.urgentBurst_of_noUrgent (h : s.noUrgent) : s.urgentBurst = none := by
  by_cases hurgent : s.arb.pressUrgent = true
  · obtain ⟨hhead, hpress⟩ := h.resolve_left (by simp [hurgent])
    rw [State.urgentBurst_of_press hurgent hhead, hpress]
  · exact if_neg hurgent

theorem mem_ringOrder (r : Requester) : r ∈ ringOrder := by
  cases r with
  | intake x => cases x <;> decide
  | lane l => cases l <;> decide
  | press => decide
  | table => decide
  | stream x => cases x <;> decide

/-- No requester but this one waits. -/
theorem State.othersIdle_iff (r : Requester) :
    (ringOrder.filter (· != r)).all (fun q => !s.waits q) = true ↔ ∀ q, q ≠ r → s.presented q = none := by
  simp only [List.all_eq_true, List.mem_filter, mem_ringOrder, true_and, bne_iff_ne, Bool.not_eq_true',
    State.waits, Option.isSome_eq_false_iff, Option.isNone_iff_eq_none]

/-- The standing run goes on while its count allows, or while no other requester waits (R134). -/
theorem State.runBurst_of_goesOn {r : Requester} (hgrant : s.arb.grant = .run r)
    (h : s.arb.count < s.arb.runLimit ∨ ∀ q, q ≠ r → s.presented q = none) : s.runBurst = s.presented r := by
  simp only [State.runBurst, hgrant]
  refine if_pos ?_
  simpa only [Bool.or_eq_true, decide_eq_true_eq, State.othersIdle_iff] using h

/-- A run ends where its requester presents nothing, or has reached the limit while another waits (R134). -/
theorem State.runBurst_of_ends (h : ∀ q, s.arb.grant = .run q → s.presented q = none ∨
    (s.arb.runLimit ≤ s.arb.count ∧ ∃ o, o ≠ q ∧ s.presented o ≠ none)) : s.runBurst = none := by
  unfold State.runBurst
  split
  · next r hgrant =>
    rcases h r hgrant with hnone | ⟨hlimit, o, hne, ho⟩
    · rw [hnone, ite_self]
    · refine if_neg ?_
      rw [Bool.or_eq_true, decide_eq_true_eq, State.othersIdle_iff]
      rintro (hcount | hidle)
      · omega
      · exact ho (hidle o hne)
  · rfl

/-- Split at a requester, the ring from the one after it round to it. -/
theorem ringAfter_of_split {r : Requester} {before after : List Requester} (h : ringOrder = before ++ r :: after) :
    ringAfter r = after ++ before ++ [r] := by
  have hnodup : ringOrder.Nodup := by decide
  have hbefore : r ∉ before := fun hmem =>
    List.disjoint_of_nodup_append (h ▸ hnodup) hmem List.mem_cons_self
  have hidx : ringOrder.idxOf r = before.length := by
    rw [h, List.idxOf_append_of_notMem hbefore, List.idxOf_cons_self, Nat.add_zero]
  have hsplit : ringOrder = (before ++ [r]) ++ after := by simp [h]
  have hlength : before.length + 1 = (before ++ [r]).length := by simp
  rw [ringAfter, hidx, hlength, hsplit, List.drop_left, List.take_left, List.append_assoc]

/-- The first requester after the ring position that waits (R133). -/
theorem State.ringBurst_of_first {before after pre post : List Requester} {r : Requester} {b : Burst}
    (hring : ringOrder = before ++ s.arb.ring :: after) (horder : after ++ before ++ [s.arb.ring] = pre ++ r :: post)
    (hpre : ∀ q ∈ pre, s.presented q = none) (hb : s.presented r = some b) : s.ringBurst = some b := by
  rw [State.ringBurst, ringAfter_of_split hring, horder, List.findSome?_append, List.findSome?_eq_none_iff.2 hpre,
    Option.none_or, List.findSome?_cons, hb]

theorem State.ringBurst_of_idle (h : ∀ q, s.presented q = none) : s.ringBurst = none :=
  List.findSome?_eq_none_iff.2 fun q _ => h q

theorem State.runBurst_of_idle (h : ∀ q, s.presented q = none) : s.runBurst = none :=
  State.runBurst_of_ends fun q _ => .inl (h q)

/-! ## A decision (R129, R130) -/

theorem State.arbitrate_of_idle (hready : s.ctl.state = .ready) (hburst : s.ctl.burst = none) :
    s.arbitrate = s.grantDecision :=
  if_pos ⟨hready, hburst⟩

theorem State.grantDecision_of_owed (h : 8 ≤ s.ctl.owed) : s.grantDecision = s.grantRefresh :=
  if_pos h

section
variable (howed : s.ctl.owed < 8)
include howed

theorem State.grantDecision_of_urgent {b : Burst} (h : s.urgentBurst = some b) :
    s.grantDecision = s.grantUrgent b := by
  rw [State.grantDecision, if_neg (show ¬ Config.owedMax ≤ s.ctl.owed from howed.not_ge), h]

theorem State.grantDecision_of_run {b : Burst} (hurgent : s.urgentBurst = none) (h : s.runBurst = some b) :
    s.grantDecision = s.extendRun b := by
  rw [State.grantDecision, if_neg (show ¬ Config.owedMax ≤ s.ctl.owed from howed.not_ge), hurgent, h]

theorem State.grantDecision_of_ring {b : Burst} (hurgent : s.urgentBurst = none) (hrun : s.runBurst = none)
    (h : s.ringBurst = some b) : s.grantDecision = s.grantRun b := by
  rw [State.grantDecision, if_neg (show ¬ Config.owedMax ≤ s.ctl.owed from howed.not_ge), hurgent, hrun, h]

theorem State.grantDecision_of_none (hurgent : s.urgentBurst = none) (hrun : s.runBurst = none)
    (hring : s.ringBurst = none) : s.grantDecision =
      if 0 < s.ctl.owed then s.grantRefresh else s.modArb fun a => { a with grant := .free, count := 0 } := by
  rw [State.grantDecision, if_neg (show ¬ Config.owedMax ≤ s.ctl.owed from howed.not_ge), hurgent, hrun, hring]

end
end Decision

/-! ## The obligation -/

/-- Settles O55: the burst of each requester, then the cases of a decision in their order. -/
theorem grantDecisionsFollowThePrecedence : Obligations.GrantDecisionsFollowThePrecedence := by
  refine ⟨fun s => ?_, fun s => ?_⟩
  · intro reads payload
    refine ⟨fun x => ?_, rfl, fun l => State.laneBurst_of_idle, fun l j r hlane => ?_,
      fun l j => State.laneBurst_of_recordRead, fun l j r k f fs => State.laneBurst_of_placing,
      fun l j r k hlane => State.presentsPayload (State.laneBurst_of_rows hlane), State.presented_press_of_idle,
      fun rows hrow => ⟨fun r k hcomp => State.presentsPayload (State.presented_press_of_decoding hrow hcomp),
        State.presented_press_of_not_decoding hrow⟩,
      fun x => State.presented_stream_of_idle, fun x f st hfill hstream => ⟨fun record e hrecord hext => ?_,
        State.presented_stream_of_closed hfill hstream⟩⟩
    · simp only [State.presented]
      cases (s.intake x).frame <;> rfl
    · intro wants
      have hwants : r.wantsWrite = true ↔ wants := r.wantsWrite_iff
      refine ⟨State.laneBurst_of_done hlane, fun e hphase hready he => ?_, fun x t hphase hready hleft hsource => ?_⟩
      · exact ⟨_, State.laneBurst_of_wants hlane hphase (hwants.2 hready) (EncodeRun.writeExtent_eq he),
          packBits_length _ _, fun i => payloadWords_bit r.out⟩
      · refine ⟨(r.nextRead x t j.comp).2, ?_, fun i => r.nextRead_taken x t j.comp⟩
        refine (State.laneBurst_of_reads hlane hphase (mt hwants.1 hready) hleft hsource).trans ?_
        cases x <;> cases t <;> rfl
    · intro wanted
      have hwanted : st.frameWords = wanted := Stream.frameWords_eq hrecord
      refine ⟨fun hwant => State.presentsRead_of ?_, fun hfull => ?_⟩
      · rw [← hwanted] at hwant ⊢
        exact State.presented_stream_of_wanting hfill hstream hrecord hext hwant
      · exact State.presented_stream_of_full hfill hstream (hwanted ▸ hfull)
  · intro ring begun refreshed pressAtHead noUrgent
    refine ⟨fun h => if_neg (by tauto), fun hready hburst => ?_⟩
    rw [State.arbitrate_of_idle hready hburst]
    refine ⟨State.grantDecision_of_owed, fun howed => ⟨fun op q hurgent hqueue hby => ?_,
      fun b hurgent hhead hb => ?_, fun r b hno hgrant hb hgoes => ?_,
      fun before after pre r post b hno hends hring horder hpre hb => ?_, fun hno hidle => ?_⟩⟩
    · have hb : s.urgentBurst = some ⟨.table, op.addr, op.access, some op.client, true⟩ := by
        rw [State.urgentBurst_of_table hurgent ⟨op, q, hqueue, hby⟩]
        simp only [State.presented, hqueue, List.head?_cons, Option.map_some]
      rw [State.grantDecision_of_urgent howed hb]
      exact s.grantUrgent_eq _
    · rw [State.grantDecision_of_urgent howed ((State.urgentBurst_of_press hurgent hhead).trans hb), s.grantUrgent_eq,
        State.req_of_presented hb]
      rfl
    · rw [State.grantDecision_of_run howed (State.urgentBurst_of_noUrgent hno)
        ((State.runBurst_of_goesOn hgrant hgoes).trans hb), s.extendRun_eq, hgrant]
      rfl
    · rw [State.grantDecision_of_ring howed (State.urgentBurst_of_noUrgent hno) (State.runBurst_of_ends hends)
        (State.ringBurst_of_first hring horder hpre hb), s.grantRun_eq, State.req_of_presented hb]
      rfl
    · exact State.grantDecision_of_none howed (State.urgentBurst_of_noUrgent hno) (State.runBurst_of_idle hidle)
        (State.ringBurst_of_idle hidle)

end Sys2Proof.Machine
end

section
/-!
PROOFS. The press tests (R149, R150) and the press decoder's ways through the schedule (R141, R145 to R148, R155).
-/

set_option Elab.async false
namespace Sys2Proof.Machine

/-! ## The press tests (R149, R150) -/

theorem PressFeed.urgent_eq (f : PressFeed) :
    f.urgent = decide (f.state ≠ .idle ∧ f.fifo.length < f.urgentLevel) := by
  rw [PressFeed.urgent, Bool.decide_and, decide_not]
  rfl

/-- The state once the tests have given a press state: its urgency is reported with it. -/
def State.pressIn (st : PressState) (s : State) : State := { s with
  press := { s.press with state := st }
  arb := { s.arb with pressUrgent := decide (st ≠ .idle ∧ s.press.fifo.length < s.press.urgentLevel) } }

theorem State.testPress_of_sheet {s : State} (h : s.press.state = .sheet) : s.testPress = s.pressIn .sheet := by
  simp only [State.testPress, if_pos h, PressFeed.urgent_eq, State.pressIn]
  rw [← h]
  rfl

theorem State.testPress_of_not_sheet {s : State} (h : s.press.state ≠ .sheet) :
    s.testPress = s.pressIn s.pressTested := by
  simp only [State.testPress, if_neg h, PressFeed.urgent_eq]
  rfl

/-- The level of the head sheet is the latched one, or the one in force (R143, R150). -/
theorem PressFeed.urgentLevel_of_head {f : PressFeed} {e : PrintEntry} (h : f.schedule.head? = some e) :
    f.urgentLevel = ((f.latched ⟨e.serial, e.copies⟩).getD f.settings).u := by
  simp only [PressFeed.urgentLevel, PressFeed.headSheet, PressFeed.head, h, Option.map_some]

theorem PressFeed.urgentLevel_of_empty {f : PressFeed} (h : f.schedule.head? = none) :
    f.urgentLevel = f.settings.u := by
  simp only [PressFeed.urgentLevel, PressFeed.headSheet, PressFeed.head, h, Option.map_none]

theorem State.pressTested_of_empty {s : State} (h : s.press.schedule = []) : s.pressTested = .idle := by
  simp only [State.pressTested, PressFeed.head, h, List.head?_nil]

section Head
variable {s : State} {e : PrintEntry} {p : Page}

theorem State.pressTested_of_unsealed (he : s.press.schedule.head? = some e) (hp : s.page e.page = some p)
    (h : p.state ≠ .sealed) : s.pressTested = .idle := by
  simp only [State.pressTested, PressFeed.head, he, hp, if_neg h]

theorem State.pressTested_of_unlatched (he : s.press.schedule.head? = some e) (hp : s.page e.page = some p)
    (h : p.state = .sealed) (hl : s.press.latched ⟨e.serial, e.copies⟩ = none) : s.pressTested = .preroll := by
  simp only [State.pressTested, PressFeed.head, he, hp, if_pos h, hl]

theorem State.pressTested_of_latched (he : s.press.schedule.head? = some e) (hp : s.page e.page = some p)
    (h : p.state = .sealed) {t : PressSettings} (hl : s.press.latched ⟨e.serial, e.copies⟩ = some t) :
    s.pressTested =
      if (s.press.fifo.filter fun l => l.sheet == ⟨e.serial, e.copies⟩).length < pressThreshold t p then .preroll
      else .ready := by
  simp only [State.pressTested, PressFeed.head, he, hp, if_pos h, hl, ← not_lt, ite_not]

end Head

/-- Settles O44: the report is that of the state given, and the tests give it by their cases. -/
theorem pressStateFollowsTheTests : Obligations.PressStateFollowsTheTests := by
  intro s latched u tested
  have hlevel : s.press.urgentLevel = u := by
    simp only [u]
    cases he : s.press.schedule.head? with
    | none => exact PressFeed.urgentLevel_of_empty he
    | some e =>
      rw [PressFeed.urgentLevel_of_head he, PressFeed.latched]
      simp only [latched]
      cases s.press.latches.find? (fun l => l.sheet == ⟨e.serial, e.copies⟩) <;> rfl
  have htested : ∀ st, s.pressIn st = tested st := fun st => by rw [State.pressIn, hlevel]
  refine ⟨fun h => (State.testPress_of_sheet h).trans (htested _), fun h hempty => ?_, fun e p h he hp => ?_⟩
  · rw [State.testPress_of_not_sheet h, State.pressTested_of_empty hempty, htested]
  rw [State.testPress_of_not_sheet h, htested]
  refine ⟨fun hs => ?_, fun hs hl => ?_, fun l hs hl => ?_⟩
  · rw [State.pressTested_of_unsealed he hp hs]
  · rw [State.pressTested_of_unlatched he hp hs (congrArg (Option.map Latch.settings) hl)]
  · rw [State.pressTested_of_latched he hp hs (congrArg (Option.map Latch.settings) hl)]
    rfl

/-! ## Entering an entry and beginning a band (R146, R147) -/

theorem State.pressBand_eq {s : State} {d : DecPos} {p : Page} (hd : s.press.pos = some d)
    (hp : s.page d.page = some p) :
    s.pressBand = { s with
      press := { s.press with comps := [], row := none, decState := .decoding }
      arb := s.opPlaced ⟨.press, recordBurst p.header (d.band * p.c),
        .read (recordMask (d.band * p.c) (min p.c (4 - d.band * p.c % 4))) true⟩ } := by
  simp only [State.pressBand, State.pressPage_eq hd hp, State.placeRead_eq]
  rfl

/-- The press feed with the decoder at the first sheet of an entry. -/
def PressFeed.atEntry (e : PrintEntry) (d : DecState) (f : PressFeed) : PressFeed := { f with
  pos := some ⟨⟨e.serial, e.copies⟩, e.page, e.link, 0, 0⟩, comps := [], row := none, decState := d }

section Enter
variable {s : State} {e : PrintEntry} {p : Page}

theorem State.pageIs_eq {id : Nat} (hp : s.page id = some p) (st : PageState) : s.pageIs id st = (p.state == st) := by
  simp only [State.pageIs, hp]

theorem State.pressEnter_of_unsealed (hp : s.page e.page = some p) (h : p.state ≠ .sealed) :
    s.pressEnter (some e) = { s with press := s.press.atEntry e .waitSeal } := by
  simp only [State.pressEnter, State.pageIs_eq hp, beq_iff_eq, if_neg h]
  rfl

theorem State.pressEnter_of_sealed (hp : s.page e.page = some p) (h : p.state = .sealed) :
    s.pressEnter (some e) = { s with
      press := { s.press.atEntry e .decoding with
        schedule := s.press.schedule.map fun q => if q.serial = e.serial then { q with active := true } else q }
      arb := s.opPlaced ⟨.press, recordBurst p.header 0, .read (recordMask 0 (min p.c 4)) true⟩ } := by
  simp only [State.pressEnter, State.pageIs_eq hp, beq_iff_eq, if_pos h]
  refine Eq.trans (State.pressBand_eq (d := ⟨⟨e.serial, e.copies⟩, e.page, e.link, 0, 0⟩) rfl hp) ?_
  simp only [Nat.zero_mul, Nat.zero_mod, Nat.sub_zero]
  rfl

end Enter

/-! ## Beginning a row (R145, R148) -/

section RowBegin
variable {s : State} {d : DecPos} {p : Page}

/-- The state whose decoder waits for room. -/
def State.roomAwaited (s : State) : State := { s with press := { s.press with row := none, decState := .waitRoom } }

/-- The state whose decoder has begun a row: the first of a sheet latches the settings (R143). -/
def State.rowBegun (d : DecPos) (s : State) : State := { s with press := { s.press with
  row := some []
  decState := .decoding
  latches := if d.band = 0 ∧ d.row = 0 then
      s.press.latches.filter (fun l => l.sheet != d.sheet) ++ [⟨d.sheet, s.press.settings⟩]
    else s.press.latches } }

theorem State.pressRowBegin_of_no_room (hd : s.press.pos = some d) (hp : s.page d.page = some p)
    (h : s.press.room < p.lineWords) : s.pressRowBegin = s.roomAwaited := by
  simp only [State.pressRowBegin, State.pressPage_eq hd hp, if_neg (not_le.2 h)]
  rfl

theorem State.pressRowBegin_of_room (hd : s.press.pos = some d) (hp : s.page d.page = some p)
    (h : p.lineWords ≤ s.press.room) : s.pressRowBegin = s.rowBegun d := by
  simp only [State.pressRowBegin, State.pressPage_eq hd hp, if_pos h, State.rowBegun]
  split <;> rfl

/-- Without a row in progress there is nothing to decode. -/
theorem State.pressAdvance_of_no_row (n : Nat) (h : s.press.row = none) : s.pressAdvance n = s := by
  cases n with
  | zero => rfl
  | succ n => simp only [State.pressAdvance, h]

theorem State.pressRun_eq (hd : s.press.pos = some d) (hp : s.page d.page = some p) :
    s.pressRun = s.pressAdvance p.c := by
  simp only [State.pressRun, State.pressPage_eq hd hp]

theorem State.pressRow_of_no_room (hd : s.press.pos = some d) (hp : s.page d.page = some p)
    (h : s.press.room < p.lineWords) : s.pressRow = s.roomAwaited := by
  rw [State.pressRow, State.pressRowBegin_of_no_room hd hp h, State.pressRun_eq (s := s.roomAwaited) hd hp]
  exact State.pressAdvance_of_no_row _ rfl

theorem State.pressRow_of_room (hd : s.press.pos = some d) (hp : s.page d.page = some p)
    (h : p.lineWords ≤ s.press.room) : s.pressRow = (s.rowBegun d).pressAdvance p.c := by
  rw [State.pressRow, State.pressRowBegin_of_room hd hp h, State.pressRun_eq (s := s.rowBegun d) hd hp]

/-- Components that all hold repeat their rows, and the row is complete (R148, R162). -/
theorem State.pressAdvance_of_all_held (rows : List (List Nat)) {before : List (List Nat)} (hd : s.press.pos = some d)
    (hp : s.page d.page = some p) (hrow : s.press.row = some before)
    (hcomps : s.press.comps = (before ++ rows).map PressComp.held) :
    s.pressAdvance rows.length = { s with press := { s.press with row := some (before ++ rows) } } := by
  induction rows generalizing s before with
  | nil =>
    rw [List.append_nil, ← hrow]
    rfl
  | cons h rows ih =>
    have hcomp : s.press.comps[before.length]? = some (.held h) := by simp [hcomps]
    rw [List.length_cons, State.pressAdvance_of_held _ hd hp hrow hcomp]
    refine Eq.trans (ih (before := before ++ [h]) hd hp rfl (by simp [hcomps])) ?_
    rw [List.append_assoc]
    rfl

end RowBegin

/-! ## Moving on and halting (R141, R146, R155) -/

/-- The page records once no rows of an ended sheet are owed any more (R155). -/
def Directory.owedDropped (owed : Option Nat) (d : Directory) : Directory := { d with
  pages := match owed with
    | none => d.pages
    | some id => pagesWith id (fun q => { q with printRefs := q.printRefs - 1 }) d.pages }

theorem State.dropOwed_eq (s : State) : s.dropOwed = { s with
    press := { s.press with owedRef := none }
    dir := s.dir.owedDropped s.press.owedRef } := by
  unfold State.dropOwed
  split
  · next id h =>
    rw [h]
    rfl
  · next h =>
    have hpress : { s.press with owedRef := none } = s.press := by rw [← h]
    rw [h]
    exact congrArg (fun f : PressFeed => { s with press := f }) hpress.symm

/-- The burst in progress once the work of the press decoder has ended. -/
theorem State.disown_press (s : State) :
    (s.disown fun b => b.client == some .press).disown (fun b => b.req == .press) = { s with
      ctl := { s.ctl with burst := s.ctl.burst.map fun b =>
        if b.client = some .press ∨ b.req = .press then { b with live := false } else b } } := by
  simp only [State.disown, State.modCtl, Option.map_map]
  congr 3
  funext b
  by_cases hclient : b.client = some .press <;> by_cases hreq : b.req = .press <;> simp [hclient, hreq]

theorem State.pressHalt_eq (s : State) : s.pressHalt = { s with
    press := { s.press with row := none, comps := [], skip := 0, owedRef := none }
    dir := s.dir.owedDropped s.press.owedRef
    arb := { s.arb with
      tableQueue := s.arb.tableQueue.filter fun op => op.client != .press
      deferred := s.arb.deferred.filter fun op => op.client != .press
      tableEnds := s.arb.tableEnds.filter fun e => e.op.client != .press }
    ctl := { s.ctl with burst := s.ctl.burst.map fun b =>
      if b.client = some .press ∨ b.req = .press then { b with live := false } else b } } := by
  rw [State.pressHalt, State.withdraw, State.disown_press, State.dropOwed_eq]
  rfl

/-- Settles O45: an entry by the seal of its page, a row by the room for it, and the rest as equations. -/
theorem pressDecoderMovesThroughTheSchedule : Obligations.PressDecoderMovesThroughTheSchedule := by
  refine ⟨fun s => rfl, fun s e p hp => ⟨State.pressEnter_of_unsealed hp, State.pressEnter_of_sealed hp⟩,
    fun s d p hd hp => ?_, fun s => ?_⟩
  · intro first room waiting
    refine ⟨State.pressBand_eq hd hp, fun h => ⟨State.pressRowBegin_of_no_room hd hp h,
      State.pressRow_of_no_room hd hp h⟩, fun h => ?_, ?_⟩
    · intro latches begun
      have hrow := State.pressRow_of_room hd hp h
      refine ⟨State.pressRowBegin_of_room hd hp h, hrow, fun r k dec hc hcomp hrun => ?_,
        fun rows hcomps hlength => ?_⟩
      · obtain ⟨n, hn⟩ := Nat.exists_eq_succ_of_ne_zero hc.ne'
        rw [hrow, hn]
        exact State.pressAdvance_of_needWords (s := s.rowBegun d) n hd hp rfl hcomp hrun
      · rw [hrow, ← hlength]
        exact State.pressAdvance_of_all_held (s := s.rowBegun d) rows hd hp rfl hcomps
    · intro settled
      have hsettled : s.dropOwed = settled := by
        simp only [settled, State.dropOwed]
        cases s.press.owedRef <;> rfl
      rw [← hsettled, State.pressMoveOn]
      rfl
  · rw [State.pressHalt_eq]
    cases s.press.owedRef <;> rfl

end Sys2Proof.Machine
end

section
/-!
PROOFS. The requests of the press feed: PRINT (R140), CANCEL PRINT (R141) and SET PRESS (R143). The press decoder reads
nothing of the links, so that what a request makes it do is the same before and after its frame is taken.
-/

set_option Elab.async false
namespace Sys2Proof.Machine

/-! ## The press decoder and the links -/

/-- The state with these links in place of its own. -/
def State.withLinks (l : Pair LinkCtl) (s : State) : State := { s with links := l }

theorem State.modPress_withLinks (s : State) (l : Pair LinkCtl) (f : PressFeed → PressFeed) :
    (s.withLinks l).modPress f = (s.modPress f).withLinks l := rfl

theorem State.tookAt_eq (s : State) (x : Link) : s.tookAt x = s.withLinks (s.links.set x (s.link x).took) := rfl

theorem State.pressBand_withLinks (s : State) (l : Pair LinkCtl) :
    (s.withLinks l).pressBand = s.pressBand.withLinks l := by
  have hpage : (s.withLinks l).pressPage = s.pressPage := rfl
  simp only [State.pressBand, hpage]
  split <;> rfl

theorem State.pressEnter_withLinks (s : State) (l : Pair LinkCtl) (e : Option PrintEntry) :
    (s.withLinks l).pressEnter e = (s.pressEnter e).withLinks l := by
  cases e with
  | none => rfl
  | some e =>
    have hsealed : (s.withLinks l).pageIs e.page .sealed = s.pageIs e.page .sealed := rfl
    simp only [State.pressEnter, hsealed, State.modPress_withLinks, State.pressBand_withLinks]
    split <;> rfl

theorem State.testPress_withLinks (s : State) (l : Pair LinkCtl) :
    (s.withLinks l).testPress = s.testPress.withLinks l := by
  have htested : (s.withLinks l).pressTested = s.pressTested := rfl
  have hstate : (s.withLinks l).press = s.press := rfl
  simp only [State.testPress, htested, hstate]
  split <;> rfl

theorem State.PressMoved.links {s t : State} (h : s.PressMoved t) : t.links = s.links :=
  (congrArg State.links h.others :)

theorem State.pressHalt_withLinks (s : State) (l : Pair LinkCtl) :
    (s.withLinks l).pressHalt = s.pressHalt.withLinks l := by
  simp only [State.pressHalt_eq]
  rfl

theorem State.pressHalt_links (s : State) : s.pressHalt.links = s.links := by rw [State.pressHalt_eq]

theorem State.pressPassRemoved_withLinks (s : State) (l : Pair LinkCtl) :
    (s.withLinks l).pressPassRemoved = s.pressPassRemoved.withLinks l := by
  have hpress : (s.withLinks l).press = s.press := rfl
  simp only [State.pressPassRemoved, hpress]
  repeat' split
  · rfl
  · exact State.pressEnter_withLinks s l _
  · rfl

/-- A request served without a look at the links: its link has been taken from and then answers. -/
theorem State.reply_withLinks (s t : State) (x : Link) (f : Frame) (r : ReplyResult) :
    (t.withLinks (s.links.set x (s.link x).took)).reply x f r =
      t.withLinks (s.links.set x ((s.link x).answered f r)) := by
  cases x <;> rfl

/-! ## SET PRESS (R143) -/

section SetPress
variable {s : State} {x : Link} {f : Frame}

theorem pressOf_eq_none {body : List Byte} (h : 1 < field 0 1 body ∨ field 1 1 body = 0 ∨ 64 < field 1 1 body ∨
    field 2 1 body = 0 ∨ 16 < field 2 1 body) : pressOf body = none := by
  unfold pressOf
  split
  · next o ho =>
    refine if_neg fun ⟨hp, hp64, hu, hu16⟩ => ?_
    have horder : field 0 1 body ≤ 1 := by
      by_contra hlt
      rw [ComponentOrder.ofCode.eq_3 _ (by omega) (by omega)] at ho
      cases ho
    omega
  · rfl

theorem pressOf_eq_some {body : List Byte} (ho : field 0 1 body ≤ 1) (hp : 0 < field 1 1 body)
    (hp64 : field 1 1 body ≤ 64) (hu : 0 < field 2 1 body) (hu16 : field 2 1 body ≤ 16) :
    pressOf body = some ⟨if field 0 1 body = 0 then .sequential else .interleaved, field 1 1 body,
      if field 1 1 body < field 2 1 body then field 1 1 body else field 2 1 body⟩ := by
  have hcode : ComponentOrder.ofCode (field 0 1 body) =
      some (if field 0 1 body = 0 then .sequential else .interleaved) := by
    interval_cases field 0 1 body <;> rfl
  have hmin : min (field 2 1 body) (field 1 1 body) =
      if field 1 1 body < field 2 1 body then field 1 1 body else field 2 1 body := by
    split <;> omega
  rw [pressOf, hcode, ← hmin]
  exact if_pos ⟨hp, hp64, hu, hu16⟩

theorem exec_setPress (h : s.offers x 15 f = true) (hlen : f.body.length = 3) :
    exec (.setPress x) s = .next ((s.tookAt x).serveSetPress x f) :=
  congrArg _ (State.serveShort_served h (by simp [Frame.hasLength, hlen]))

theorem setPress_refused (h : s.offers x 15 f = true) (hlen : f.body.length = 3) (hnone : pressOf f.body = none) :
    exec (.setPress x) s = .next (s.answeredAt x f (.refused .badRequest)) := by
  rw [exec_setPress h hlen, ← State.reply_tookAt]
  simp only [State.serveSetPress, hnone]

theorem setPress_given (h : s.offers x 15 f = true) (hlen : f.body.length = 3) {t : PressSettings}
    (ht : pressOf f.body = some t) :
    exec (.setPress x) s = .next { s with
      press := { s.press with settings := t }
      links := s.links.set x ((s.link x).answered f (.done (.press t))) } := by
  rw [exec_setPress h hlen]
  simp only [State.serveSetPress, ht, State.tookAt_eq, State.modPress_withLinks, State.reply_withLinks]
  rfl

end SetPress

/-- Settles O32: the three values tested, then the settings replaced. -/
theorem setPressReplacesTheSettings : Obligations.SetPressReplacesTheSettings := fun _ _ _ h hlen =>
  ⟨fun hbad => setPress_refused h hlen (pressOf_eq_none hbad),
    fun ho hp hp64 hu hu16 => setPress_given h hlen (pressOf_eq_some ho hp hp64 hu hu16)⟩

/-! ## PRINT (R140) -/

/-- The state with an entry at the tail of the schedule and one print ref more of its page. -/
def State.entryAppended (e : PrintEntry) (s : State) : State := { s with
  press := { s.press with schedule := s.press.schedule ++ [e], nextSerial := s.press.nextSerial + 1 }
  dir := { s.dir with pages := pagesWith e.page (fun q => { q with printRefs := q.printRefs + 1 }) s.dir.pages } }

/-- The state after an entry has been appended: a STOPPED decoder has moved to it (R146). -/
def State.entryPrinted (e : PrintEntry) (s : State) : State :=
  if s.press.decState = .stopped then (s.entryAppended e).pressEnter (some e) else s.entryAppended e

theorem State.entryPrinted_withLinks (s : State) (l : Pair LinkCtl) (e : PrintEntry) :
    (s.withLinks l).entryPrinted e = (s.entryPrinted e).withLinks l := by
  have hdec : (s.withLinks l).press.decState = s.press.decState := rfl
  have happended : (s.withLinks l).entryAppended e = (s.entryAppended e).withLinks l := rfl
  simp only [State.entryPrinted, hdec, happended, State.pressEnter_withLinks]
  split <;> rfl

section Print
variable {s : State} {x : Link} {f : Frame} {p : Page}

theorem exec_print (h : s.offers x 4 f = true) (hlen : f.body.length = 3) :
    exec (.print x) s = .next ((s.tookAt x).servePrint x f) :=
  congrArg _ (State.serveShort_served h (by simp [Frame.hasLength, hlen]))

theorem print_noPage (h : s.offers x 4 f = true) (hlen : f.body.length = 3) (hp : s.page (field 0 2 f.body) = none) :
    exec (.print x) s = .next (s.answeredAt x f (.refused .noPage)) := by
  have hpage : (s.tookAt x).page (field 0 2 f.body) = none := hp
  rw [exec_print h hlen, ← State.reply_tookAt]
  simp only [State.servePrint, hpage]

theorem print_pageState (h : s.offers x 4 f = true) (hlen : f.body.length = 3)
    (hp : s.page (field 0 2 f.body) = some p) (hstate : p.state = .failed ∨ p.state = .retiring) :
    exec (.print x) s = .next (s.answeredAt x f (.refused .pageState)) := by
  have hpage : (s.tookAt x).page (field 0 2 f.body) = some p := hp
  rw [exec_print h hlen, ← State.reply_tookAt]
  simp only [State.servePrint, hpage, if_pos hstate]

theorem print_scheduleFull (h : s.offers x 4 f = true) (hlen : f.body.length = 3)
    (hp : s.page (field 0 2 f.body) = some p) (hstate : ¬ (p.state = .failed ∨ p.state = .retiring))
    (hfull : 16 ≤ s.press.schedule.length) :
    exec (.print x) s = .next (s.answeredAt x f (.refused .scheduleFull)) := by
  have hpage : (s.tookAt x).page (field 0 2 f.body) = some p := hp
  have hplaces : Config.schedulePlaces ≤ (s.tookAt x).press.schedule.length := hfull
  rw [exec_print h hlen, ← State.reply_tookAt]
  simp only [State.servePrint, hpage, if_neg hstate, if_pos hplaces]

theorem print_appended (h : s.offers x 4 f = true) (hlen : f.body.length = 3)
    (hp : s.page (field 0 2 f.body) = some p) (hstate : ¬ (p.state = .failed ∨ p.state = .retiring))
    (hplace : s.press.schedule.length < 16) :
    let copies := max 1 (field 2 1 f.body)
    exec (.print x) s = .next (State.arbitrate
      ((s.entryPrinted ⟨s.press.nextSerial, field 0 2 f.body, copies, x, false⟩).testPress.withLinks
        (s.links.set x ((s.link x).answered f (.done (.printed (field 0 2 f.body) copies)))))) := by
  intro copies
  have hpage : (s.tookAt x).page (field 0 2 f.body) = some p := hp
  have hplaces : ¬ Config.schedulePlaces ≤ (s.tookAt x).press.schedule.length := not_le.2 hplace
  have hserved : (s.tookAt x).servePrint x f =
      (((s.tookAt x).entryPrinted ⟨s.press.nextSerial, field 0 2 f.body, copies, x, false⟩).testPress.reply x f
        (.done (.printed (field 0 2 f.body) copies))).arbitrate := by
    simp only [State.servePrint, hpage, if_neg hstate, if_neg hplaces]
    rfl
  rw [exec_print h hlen, hserved, State.tookAt_eq, State.entryPrinted_withLinks, State.testPress_withLinks,
    State.reply_withLinks]

end Print

/-- Settles O46: the checks in their order, then the entry appended. -/
theorem printAppendsAnEntry : Obligations.PrintAppendsAnEntry := by
  intro x s f h hlen id copies
  have hcopies : max 1 (field 2 1 f.body) = copies := by
    show _ = if _ then _ else _
    split <;> omega
  refine ⟨print_noPage h hlen, fun p hp => ⟨print_pageState h hlen hp, fun hfailed hretiring hfull => ?_,
    fun hfailed hretiring hplace => ?_⟩⟩
  · exact print_scheduleFull h hlen hp (by tauto) hfull
  · intro e appended moved
    rw [print_appended h hlen hp (by tauto) hplace, hcopies]
    rfl

/-! ## CANCEL PRINT (R141) -/

/-- The state with an entry out of the schedule and one print ref less of its page. -/
def State.entryRemoved (e : PrintEntry) (s : State) : State := { s with
  press := { s.press with schedule := s.press.schedule.filter fun q => q.serial != e.serial }
  dir := { s.dir with pages := pagesWith e.page (fun q => { q with printRefs := q.printRefs - 1 }) s.dir.pages } }

theorem State.entryRemoved_withLinks (s : State) (l : Pair LinkCtl) (e : PrintEntry) :
    (s.withLinks l).entryRemoved e = (s.entryRemoved e).withLinks l := rfl

theorem State.cancelEntry_of_waiting {e : PrintEntry} (h : e.active = false) (s : State) :
    s.cancelEntry e = (s.entryRemoved e).pressPassRemoved.testPress := by
  simp only [State.cancelEntry, h, Bool.false_eq_true, if_false]
  rfl

/-- An entry as a cut-back at serial `k` leaves it (R141). -/
def PrintEntry.cutAt (k : Nat) (q : PrintEntry) : PrintEntry := if k ≤ q.serial then { q with active := false } else q

@[simp] theorem PrintEntry.cutAt_serial (k : Nat) (q : PrintEntry) : (q.cutAt k).serial = q.serial := by
  unfold PrintEntry.cutAt
  split <;> rfl

/-- Whether an entry is ACTIVE makes no difference to the decoder that enters it. -/
theorem State.pressEnter_cutAt (s : State) (k : Nat) (e : Option PrintEntry) :
    s.pressEnter (e.map (PrintEntry.cutAt k)) = s.pressEnter e := by
  cases e with
  | none => rfl
  | some e =>
    rw [Option.map_some, PrintEntry.cutAt]
    split <;> rfl

theorem PressFeed.entryAfter_cutFrom (f : PressFeed) (k n : Nat) :
    (f.cutFrom k).entryAfter n = (f.entryAfter n).map (PrintEntry.cutAt k) := by
  have hcut : (f.cutFrom k).entryAfter n =
      (f.schedule.map (PrintEntry.cutAt k)).find? fun e => decide (n < e.serial) := rfl
  rw [hcut, List.find?_map]
  simp only [Function.comp_def, PrintEntry.cutAt_serial]
  rfl

/-- The state with the lines of an entry and of all that follow it gone, and those entries WAITING (R141). -/
def State.cutBack (k : Nat) (s : State) : State := { s.pressHalt with press := { s.pressHalt.press with
  schedule := s.press.schedule.map fun q => if k ≤ q.serial then { q with active := false } else q
  latches := s.press.latches.filter fun l => decide (l.sheet.serial < k)
  fifo := s.press.fifo.filter fun l => decide (l.sheet.serial < k) } }

theorem State.cutBack_eq (s : State) (k : Nat) : s.pressHalt.modPress (fun f => f.cutFrom k) = s.cutBack k := by
  simp only [State.cutBack, State.pressHalt_eq]
  rfl

theorem State.cancelEntry_of_active {e : PrintEntry} (h : e.active = true) (s : State) :
    s.cancelEntry e = (((s.entryRemoved e).cutBack e.serial).pressEnter
      ((s.entryRemoved e).press.entryAfter e.serial)).testPress := by
  have hafter : ((s.entryRemoved e).cutBack e.serial).press.entryAfter e.serial =
      ((s.entryRemoved e).press.entryAfter e.serial).map (PrintEntry.cutAt e.serial) :=
    PressFeed.entryAfter_cutFrom _ e.serial e.serial
  rw [← State.pressEnter_cutAt _ e.serial, ← hafter, ← State.cutBack_eq]
  simp only [State.cancelEntry, h, if_true]
  rfl

/-- A decoder that does not wait for a seal does not move on with the removal of an entry. -/
theorem State.pressPassRemoved_of_not_waiting {s : State} (h : s.press.decState ≠ .waitSeal) :
    s.pressPassRemoved = s := by
  unfold State.pressPassRemoved
  split
  · next hwait _ => exact absurd hwait h
  · rfl

section WaitSeal
variable {s : State} {d : DecPos}

theorem State.pressPassRemoved_of_gone (hdec : s.press.decState = .waitSeal) (hd : s.press.pos = some d)
    (h : ∀ q ∈ s.press.schedule, q.serial ≠ d.sheet.serial) :
    s.pressPassRemoved = s.pressEnter (s.press.entryAfter d.sheet.serial) := by
  have hgone : ¬ s.press.schedule.any (fun e => e.serial == d.sheet.serial) = true := by simpa using h
  simp only [State.pressPassRemoved, hdec, hd, if_neg hgone]

theorem State.pressPassRemoved_of_present (hdec : s.press.decState = .waitSeal) (hd : s.press.pos = some d)
    (h : ∃ q ∈ s.press.schedule, q.serial = d.sheet.serial) : s.pressPassRemoved = s := by
  have hpresent : s.press.schedule.any (fun e => e.serial == d.sheet.serial) = true := by simpa using h
  simp only [State.pressPassRemoved, hdec, hd, if_pos hpresent]

end WaitSeal

theorem State.cancelEntry_withLinks (s : State) (l : Pair LinkCtl) (e : PrintEntry) :
    (s.withLinks l).cancelEntry e = (s.cancelEntry e).withLinks l := by
  cases h : e.active with
  | false =>
    simp only [State.cancelEntry_of_waiting h, State.entryRemoved_withLinks, State.pressPassRemoved_withLinks,
      State.testPress_withLinks]
  | true =>
    have hcut : ((s.entryRemoved e).withLinks l).cutBack e.serial = ((s.entryRemoved e).cutBack e.serial).withLinks l :=
      by simp only [← State.cutBack_eq, State.pressHalt_withLinks, State.modPress_withLinks]
    have hpress : ((s.entryRemoved e).withLinks l).press = (s.entryRemoved e).press := rfl
    simp only [State.cancelEntry_of_active h, State.entryRemoved_withLinks, hcut, hpress, State.pressEnter_withLinks,
      State.testPress_withLinks]

section Cancel
variable {s : State} {x : Link} {f : Frame}

theorem exec_cancelPrint (h : s.offers x 5 f = true) (hlen : f.body.length = 2) :
    exec (.cancelPrint x) s = .next ((s.tookAt x).serveCancelPrint x f) :=
  congrArg _ (State.serveShort_served h (by simp [Frame.hasLength, hlen]))

theorem cancelPrint_removes (h : s.offers x 5 f = true) (hlen : f.body.length = 2) {e : PrintEntry}
    (he : s.press.cancellable (field 0 2 f.body) = some e) :
    exec (.cancelPrint x) s = .next (State.arbitrate
      ((s.cancelEntry e).withLinks (s.links.set x ((s.link x).answered f (.done .none))))) := by
  have hentry : (s.tookAt x).press.cancellable (field 0 2 f.body) = some e := he
  rw [exec_cancelPrint h hlen]
  simp only [State.serveCancelPrint, hentry]
  rw [State.tookAt_eq, State.cancelEntry_withLinks, State.reply_withLinks]

theorem cancelPrint_refused (h : s.offers x 5 f = true) (hlen : f.body.length = 2)
    (hnone : s.press.cancellable (field 0 2 f.body) = none) :
    exec (.cancelPrint x) s = .next (s.answeredAt x f (.refused
      (if ∃ q ∈ s.press.schedule, q.page = field 0 2 f.body then .printing else .noPage))) := by
  have hentry : (s.tookAt x).press.cancellable (field 0 2 f.body) = none := hnone
  have hany : ((s.tookAt x).press.schedule.any fun q => q.page == field 0 2 f.body) = true ↔
      ∃ q ∈ s.press.schedule, q.page = field 0 2 f.body := by
    rw [List.any_eq_true]
    simp only [beq_iff_eq]
    rfl
  rw [exec_cancelPrint h hlen, ← State.reply_tookAt]
  simp only [State.serveCancelPrint, hentry, hany]
  split <;> rfl

end Cancel

/-- Settles O47: the entry found or not, then its removal by what it was and where the decoder stood. -/
theorem cancelPrintRemovesTheEarliestEntry : Obligations.CancelPrintRemovesTheEarliestEntry := by
  intro x s f h hlen id kept
  have hfind : s.press.cancellable id = kept.find? fun q => q.page == id := rfl
  have hnone : (∀ q ∈ kept, q.page ≠ id) → s.press.cancellable id = none := fun hkept =>
    hfind.trans (List.find?_eq_none.2 (by simpa using hkept))
  have hsub : ∀ q ∈ kept, q ∈ s.press.schedule := by
    intro q hq
    simp only [kept] at hq
    split at hq
    · exact List.mem_of_mem_tail hq
    · exact hq
  refine ⟨fun hgone => ?_, fun hsome hkept => ?_, fun e he => ?_⟩
  · rw [cancelPrint_refused h hlen (hnone fun q hq => hgone q (hsub q hq)),
      if_neg fun ⟨q, hq, hpage⟩ => hgone q hq hpage]
  · rw [cancelPrint_refused h hlen (hnone hkept), if_pos hsome]
  intro schedule follower removed answers
  have hid : e.page = id := by simpa using List.find?_some he
  have hremoved : s.entryRemoved e = removed := by
    rw [State.entryRemoved, hid]
  have hanswers : ∀ t : State, t.links = s.links → s.cancelEntry e = t.testPress → answers t := by
    intro t hlinks ht
    have hlink : t.link x = s.link x := congrArg (fun l => l.get x) hlinks
    simp only [answers, hlinks, hlink]
    rw [cancelPrint_removes h hlen (hfind.trans he), ht]
    rfl
  refine ⟨fun hwaiting hdec => ?_, fun d hwaiting hdec hd => ⟨fun hhere => ?_, fun hpresent => ?_⟩,
    fun hactive => ?_⟩
  · refine hanswers _ rfl ?_
    rw [State.cancelEntry_of_waiting hwaiting, hremoved, State.pressPassRemoved_of_not_waiting (s := removed) hdec]
  · refine hanswers _ (State.PressMoved.pressEnter removed follower).links ?_
    have hgone : ∀ q ∈ removed.press.schedule, q.serial ≠ d.sheet.serial := by
      intro q hq
      simpa [hhere] using (List.mem_filter.1 hq).2
    rw [State.cancelEntry_of_waiting hwaiting, hremoved,
      State.pressPassRemoved_of_gone (s := removed) hdec hd hgone, hhere]
    rfl
  · refine hanswers _ rfl ?_
    rw [State.cancelEntry_of_waiting hwaiting, hremoved,
      State.pressPassRemoved_of_present (s := removed) hdec hd hpresent]
  · intro halted
    refine hanswers _ ?_ ?_
    · exact (State.PressMoved.pressEnter _ follower).links.trans removed.pressHalt_links
    · rw [State.cancelEntry_of_active hactive, hremoved]
      rfl

end Sys2Proof.Machine
end

section
/-!
PROOFS. The press port: SHEET START, LINE REQUEST and the end of a sheet (R151 to R155).
-/

set_option Elab.async false
namespace Sys2Proof.Machine

/-! ## Signals taken at once (R151) -/

section Signals
variable {s : State}

theorem State.pressSignal_of_free (h : s.press.answers = []) (g : PressSignal) : s.pressSignal g = s.takeSignal g := by
  rw [State.pressSignal, h]
  rfl

theorem exec_sheetStart (h : s.press.answers = []) : exec .sheetStart s = .next s.takeSheetStart.arbitrate :=
  congrArg (fun t : State => Host.Outcome.next t.arbitrate) (State.pressSignal_of_free h .sheetStart)

theorem exec_lineRequest (h : s.press.answers = []) : exec .lineRequest s = .next s.takeLineRequest.arbitrate :=
  congrArg (fun t : State => Host.Outcome.next t.arbitrate) (State.pressSignal_of_free h .lineRequest)

theorem State.not_resting_of_part (h : s.part ≠ .resting) : s.ctl.state ≠ .resting := fun hctl =>
  h (by rw [State.part, hctl])

/-- A wake leaves the part WAKING, where no grant is given (R124). -/
theorem State.arbitrate_wake (w : WakeCause) (held : Bool) : (s.wake w held).arbitrate = s.wake w held :=
  State.arbitrate_of_not_ready (s := s.wake w held) (by simp [State.wake])

theorem State.headPage_eq {e : PrintEntry} {p : Page} (he : s.press.schedule.head? = some e)
    (hp : s.page e.page = some p) : s.headPage = some (e, p) := by
  simp only [State.headPage, PressFeed.head, he, hp, Option.map_some]

end Signals

/-! ## SHEET START (R152) -/

section SheetStart
variable {s : State} {e : PrintEntry} {p : Page}

theorem State.takeSheetStart_resting (h : s.ctl.state = .resting) : s.takeSheetStart = s.wake .sheetStart false :=
  if_pos h

theorem State.takeSheetStart_notServing (h : s.part = .starting ∨ s.part = .waking) :
    s.takeSheetStart = s.answerPress [.notReady] := by
  have hctl : s.ctl.state ≠ .resting := State.not_resting_of_part (by rcases h with h | h <;> simp [h])
  rw [State.takeSheetStart, if_neg hctl, if_pos (State.notServing_iff.2 h)]

theorem State.takeSheetStart_ready (hpart : s.part = .ready) (hstate : s.press.state = .ready)
    (he : s.press.schedule.head? = some e) (hp : s.page e.page = some p) : s.takeSheetStart = s.beginSheet e p := by
  have hctl : s.ctl.state ≠ .resting := State.not_resting_of_part (by simp [hpart])
  simp only [State.takeSheetStart, if_neg hctl, State.notServing_of_ready hpart, Bool.false_eq_true, if_false, hstate,
    State.headPage_eq he hp]

end SheetStart

/-! ## LINE REQUEST (R153, R154) -/

section LineRequest
variable {s : State} {e : PrintEntry} {p : Page}

theorem State.takeLineRequest_notReady (h : s.part = .starting ∨ s.part = .waking ∨ s.press.state ≠ .sheet) :
    s.takeLineRequest = s.answerPress [.notReady] := by
  unfold State.takeLineRequest
  split
  · rfl
  · next hserving =>
    split
    · next hsheet _ =>
      rw [State.notServing_iff] at hserving
      tauto
    · rfl

theorem State.takeLineRequest_sheet (hpart : s.part = .ready) (hstate : s.press.state = .sheet)
    (he : s.press.schedule.head? = some e) (hp : s.page e.page = some p) : s.takeLineRequest = s.sendLine e p := by
  simp only [State.takeLineRequest, State.notServing_of_ready hpart, Bool.false_eq_true, if_false, hstate,
    State.headPage_eq he hp]

/-- The head line of the FIFO has been taken (R153). -/
def State.lineTaken (words : List Word) (rest : List FifoLine) (s : State) : State := { s with
  press := { s.press with fifo := rest, delivered := s.press.delivered + 1, last := some words } }

/-- The sheet's next line was not in the FIFO (R154): its place is skipped, and both links are flagged. -/
def State.lineMissed (s : State) : State := { s with
  press := { s.press with delivered := s.press.delivered + 1, skip := s.press.skip + 1
                          underruns := min 65535 (s.press.underruns + 1) }
  links := ⟨{ s.links.a with flags := { s.links.a.flags with underrun := true } },
    { s.links.b with flags := { s.links.b.flags with underrun := true } }⟩ }

/-- What follows a line sent: the row the room allows, then, with the Ht-th line, the end of the sheet (R155). -/
def State.lineAnswered (e : PrintEntry) (p : Page) (delivered : Nat) (words : List Word) (sent : State) : State :=
  if p.ht ≤ delivered + 1 then
    (sent.pressRoomFreed.sheetDone e).testPress.answerPress [.line words, .sheetDone p.id e.copies]
  else sent.pressRoomFreed.testPress.answerPress [.line words]

theorem State.sendLine_of_line {l : FifoLine} {rest : List FifoLine} (hfifo : s.press.fifo = l :: rest)
    (hl : l.sheet = ⟨e.serial, e.copies⟩) :
    s.sendLine e p = (s.lineTaken l.words rest).lineAnswered e p s.press.delivered l.words := by
  have hnext : s.press.nextLine ⟨e.serial, e.copies⟩ p.lineWords = (l.words, false) := by
    simp only [PressFeed.nextLine, hfifo, if_pos hl]
  have htail : s.press.fifo.tail = rest := congrArg List.tail hfifo
  simp only [State.sendLine, hnext, Bool.false_eq_true, if_false, State.modPress, htail]
  rfl

theorem State.sendLine_of_missing (h : ∀ l ∈ s.press.fifo.head?, l.sheet ≠ ⟨e.serial, e.copies⟩) :
    s.sendLine e p = s.lineMissed.lineAnswered e p s.press.delivered
      (s.press.last.getD (List.replicate p.lineWords 0)) := by
  have hnext : s.press.nextLine ⟨e.serial, e.copies⟩ p.lineWords =
      (s.press.last.getD (List.replicate p.lineWords 0), true) := by
    unfold PressFeed.nextLine
    split
    · next l rest hfifo => exact if_neg (h l (by simp [hfifo]))
    · rfl
  simp only [State.sendLine, hnext, if_true]
  rfl

end LineRequest

/-! ## The end of a sheet (R155) -/

/-- The press feed that has left SHEET with the head entry's copy counted. -/
def PressFeed.sheetEnded (e : PrintEntry) (f : PressFeed) : PressFeed := { f with
  state := .idle, delivered := 0, last := none, counted := some e
  latches := f.latches.filter fun l => l.sheet != ⟨e.serial, e.copies⟩ }

section SheetDone
variable {s : State} {e : PrintEntry}

theorem State.sheetDone_of_copies (h : 1 < e.copies) :
    s.sheetDone e = { s with press := { s.press.sheetEnded e with
      schedule := s.press.schedule.map fun q =>
        if q.serial = e.serial then { q with copies := q.copies - 1 } else q } } := by
  simp only [State.sheetDone, if_pos h]
  rfl

/-- The last copy of an entry whose rows have all been decoded: its print ref falls. -/
theorem State.sheetDone_of_last (h : e.copies ≤ 1) (hskip : s.press.skip = 0) :
    s.sheetDone e = { s with
      press := { s.press.sheetEnded e with schedule := s.press.schedule.filter fun q => q.serial != e.serial }
      dir := { s.dir with pages := pagesWith e.page (fun q => { q with printRefs := q.printRefs - 1 }) s.dir.pages }
      links := s.links.set e.link ((s.link e.link).placeNotice (.printDone e.page)) } := by
  simp only [State.sheetDone, if_neg (not_lt.2 h), hskip, Nat.lt_irrefl, if_false]
  rfl

/-- The last copy of an entry of which rows are still owed: its print ref is kept for them. -/
theorem State.sheetDone_of_owed (h : e.copies ≤ 1) (hskip : 0 < s.press.skip) :
    s.sheetDone e = { s with
      press := { s.press.sheetEnded e with
        schedule := s.press.schedule.filter fun q => q.serial != e.serial, owedRef := some e.page }
      links := s.links.set e.link ((s.link e.link).placeNotice (.printDone e.page)) } := by
  simp only [State.sheetDone, if_neg (not_lt.2 h), if_pos hskip]
  rfl

end SheetDone

/-- Settles O50: a signal by the part and press states, a line by the head of the FIFO, the sheet's end by its
copies. -/
theorem sheetsStartAndLinesAreSent : Obligations.SheetsStartAndLinesAreSent := by
  intro s hfree answered
  have hanswered : ∀ {l : List Answer} {t : State}, (t.answerPress l).arbitrate = answered l t := rfl
  refine ⟨fun h => ?_, fun h => ?_, fun h => ?_, fun e p he hp => ?_⟩
  · rw [exec_sheetStart hfree, State.takeSheetStart_resting h, State.arbitrate_wake]
    rfl
  · rw [exec_sheetStart hfree, ← hanswered]
    rcases h with h | h | ⟨hpart, hstate⟩
    · rw [State.takeSheetStart_notServing (.inl h)]
    · rw [State.takeSheetStart_notServing (.inr h)]
    · rw [State.takeSheetStart_notReady (State.not_resting_of_part (by simp [hpart])) hstate]
  · rw [exec_lineRequest hfree, State.takeLineRequest_notReady h]
    rfl
  intro sheet order
  refine ⟨fun hpart hstate => ?_, fun hpart hstate => ?_⟩
  · rw [exec_sheetStart hfree, State.takeSheetStart_ready hpart hstate he hp, State.beginSheet, PressFeed.order_eq]
    rfl
  intro sends
  have hsends : ∀ {words : List Word} {sent : State}, sent.press.decState = s.press.decState →
      s.sendLine e p = sent.lineAnswered e p s.press.delivered words → sends words sent := by
    intro words sent hdec hline
    have hbegan : sent.pressRoomFreed = if s.press.decState = .waitRoom then sent.pressRow else sent := by
      rw [State.pressRoomFreed, hdec]
    have hexec := exec_lineRequest hfree
    rw [State.takeLineRequest_sheet hpart hstate he hp, hline, State.lineAnswered, hbegan] at hexec
    refine ⟨fun hmore => ?_, fun hend => ?_⟩
    · rw [if_neg (not_le.2 hmore)] at hexec
      exact hexec
    rw [if_pos hend] at hexec
    refine ⟨fun hcopies => ?_, fun hlast hskip => ?_, fun hlast hskip => ?_⟩
    · rw [State.sheetDone_of_copies hcopies] at hexec
      exact hexec
    · rw [State.sheetDone_of_last hlast hskip] at hexec
      exact hexec
    · rw [State.sheetDone_of_owed hlast hskip] at hexec
      exact hexec
  exact ⟨fun l rest hfifo hl => hsends rfl (State.sendLine_of_line hfifo hl),
    fun hmissing => hsends rfl (State.sendLine_of_missing hmissing)⟩

end Sys2Proof.Machine
end

section
/-!
PROOFS. Press signals that wait for the answer being sent (R151), SHEET ABORT (R156) and PRESS RESET (R157, R158).
-/

set_option Elab.async false
namespace Sys2Proof.Machine

/-! ## Signals that wait (R151) -/

/-- The command of a press signal. -/
def PressSignal.command : PressSignal → Instr
  | .sheetStart => .sheetStart
  | .lineRequest => .lineRequest
  | .sheetAbort => .sheetAbort

section Signals
variable {s : State}

theorem exec_command (s : State) (g : PressSignal) : exec g.command s = .next (s.pressSignal g).arbitrate := by
  cases g <;> rfl

theorem exec_command_of_sending (h : s.press.answers ≠ []) (g : PressSignal) :
    exec g.command s = .next (State.arbitrate { s with
      press := { s.press with signals := s.press.signals ++ [g] } }) := by
  have hsending : ¬ s.press.answers.isEmpty = true := by simpa using h
  rw [exec_command, State.pressSignal, if_neg hsending]
  rfl

theorem State.takeWaitingSignals_of_none (h : s.press.signals = []) : s.takeWaitingSignals = s := by
  rw [State.takeWaitingSignals, h]
  rfl

/-- While a further answer is being sent, no signal is taken. -/
theorem State.takeWaitingSignals_of_sending (h : s.press.answers ≠ []) : s.takeWaitingSignals = s := by
  unfold State.takeWaitingSignals
  cases s.press.signals.length with
  | zero => rfl
  | succ n =>
    rw [State.drainSignals]
    split
    · next hnone _ => exact absurd hnone h
    · rfl

theorem State.takeWaitingSignals_of_one {g : PressSignal} (hfree : s.press.answers = []) (hg : s.press.signals = [g]) :
    s.takeWaitingSignals = State.takeSignal g { s with press := { s.press with signals := [] } } := by
  rw [State.takeWaitingSignals, hg, List.length_singleton, State.drainSignals, hfree, hg]
  rfl

/-- The answer being sent has ended, and these are still to be sent. -/
def State.answerEnded (rest : List Answer) (s : State) : State := { s with
  press := { s.press with answers := rest, counted := none } }

theorem exec_pressAnswerEnd {a : Answer} {rest : List Answer} (h : s.press.answers = a :: rest) :
    exec .pressAnswerEnd s = .next (s.answerEnded rest).takeWaitingSignals.arbitrate := by
  have hexec : exec .pressAnswerEnd s = execPressAnswerEnd s := rfl
  rw [hexec, execPressAnswerEnd, h]
  rfl

end Signals

/-! ## The flush and restart (R156, R157) -/

/-- The press feed flushed at the decoder's halt: every entry WAITING, every line gone, the sheet printing uncounted. -/
def State.flushed (s : State) : State := { s.pressHalt with press := { s.pressHalt.press with
  schedule := s.press.schedule.map fun q => { q with active := false }
  latches := [], fifo := [], delivered := 0, last := none, state := .idle } }

theorem PrintEntry.cutAt_zero : PrintEntry.cutAt 0 = fun q => { q with active := false } :=
  funext fun q => if_pos (Nat.zero_le q.serial)

theorem State.flushed_eq (s : State) :
    (s.pressHalt.modPress fun f => { f.cutFrom 0 with fifo := [], delivered := 0, last := none, state := .idle }) =
      s.flushed := by
  have hschedule : (s.press.schedule.map fun q => if 0 ≤ q.serial then { q with active := false } else q) =
      s.press.schedule.map fun q => { q with active := false } := congrArg (List.map · _) PrintEntry.cutAt_zero
  have hlatches : (s.press.latches.filter fun l => decide (l.sheet.serial < 0)) = [] :=
    List.filter_eq_nil_iff.2 fun l _ => by simp
  rw [State.flushed, State.pressHalt_eq, State.modPress]
  simp only [PressFeed.cutFrom, hschedule, hlatches]

theorem State.pressRestart_eq (s : State) :
    s.pressRestart = (s.flushed.pressEnter s.press.schedule.head?).testPress := by
  have hhead : s.flushed.press.head = s.press.schedule.head?.map (PrintEntry.cutAt 0) := by
    rw [PrintEntry.cutAt_zero]
    exact List.head?_map
  rw [← State.pressEnter_cutAt _ 0, ← hhead, ← State.flushed_eq]
  rfl

/-! ## What the restart leaves of the press port (R157) -/

theorem State.pressBand_answers (s : State) : s.pressBand.press.answers = s.press.answers := by
  unfold State.pressBand
  dsimp only
  split <;> rfl

theorem State.pressEnter_answers (s : State) (e : Option PrintEntry) :
    (s.pressEnter e).press.answers = s.press.answers := by
  cases e with
  | none => rfl
  | some e =>
    simp only [State.pressEnter]
    split
    · exact State.pressBand_answers _
    · rfl

theorem State.testPress_answers (s : State) : s.testPress.press.answers = s.press.answers := by
  unfold State.testPress
  dsimp only
  split <;> rfl

theorem State.pressRestart_answers (s : State) : s.pressRestart.press.answers = s.press.answers := by
  rw [State.pressRestart_eq, State.testPress_answers, State.pressEnter_answers, State.flushed, State.pressHalt_eq]

/-! ## SHEET ABORT (R156) -/

section Abort
variable {s : State}

theorem exec_sheetAbort_of_sheet (hfree : s.press.answers = []) (h : s.press.state = .sheet) :
    exec .sheetAbort s = .next s.pressRestart.arbitrate := by
  rw [show Instr.sheetAbort = PressSignal.sheetAbort.command from rfl, exec_command, State.pressSignal_of_free hfree,
    State.takeSignal, State.takeSheetAbort, if_pos h]

theorem exec_sheetAbort_of_not_sheet (hfree : s.press.answers = []) (h : s.press.state ≠ .sheet) :
    exec .sheetAbort s = .next (State.arbitrate { s with press := { s.press with answers := [.notReady] } }) := by
  rw [show Instr.sheetAbort = PressSignal.sheetAbort.command from rfl, exec_command, State.pressSignal_of_free hfree,
    State.takeSignal, State.takeSheetAbort, if_neg h, State.answerPress, State.modPress, hfree]
  rfl

end Abort

/-! ## PRESS RESET (R157, R158) -/

theorem exec_pressReset_resting {s : State} (h : s.ctl.state = .resting) :
    exec .pressReset s = .next (s.wake .pressReset false) :=
  if_pos h

theorem PressFeed.cutAnswers_of_line {f : PressFeed} {ws : List Word} (h : f.answers.head? = some (.line ws)) :
    f.cutAnswers = { f with answers := [], counted := none } := by
  obtain ⟨rest, hrest⟩ := List.head?_eq_some_iff.1 h
  rw [PressFeed.cutAnswers, hrest]

theorem PressFeed.cutAnswers_of_no_line {f : PressFeed} (h : ∀ ws, f.answers.head? ≠ some (.line ws)) :
    f.cutAnswers = f := by
  unfold PressFeed.cutAnswers
  split
  · next ws rest hline => exact absurd (congrArg List.head? hline) (h ws)
  · rfl

section Uncount
variable {s : State} {ws : List Word} {e : PrintEntry}

theorem State.uncountSheet_of_no_line (h : ∀ ws, s.press.answers.head? ≠ some (.line ws)) : s.uncountSheet = s := by
  unfold State.uncountSheet
  split
  · next ws rest e hline _ => exact absurd (congrArg List.head? hline) (h ws)
  · rfl

theorem State.uncountSheet_of_not_counted (h : s.press.counted = none) : s.uncountSheet = s := by
  unfold State.uncountSheet
  split
  · next hcounted => cases h.symm.trans hcounted
  · rfl

/-- The copy counted is taken back. -/
def State.copyTakenBack (e : PrintEntry) (s : State) : State := { s with press := { s.press with
  schedule := s.press.schedule.map fun q => if q.serial = e.serial then { q with copies := e.copies } else q } }

/-- The entry removed with its last copy is the head again, with its print ref. -/
def State.entryReturned (e : PrintEntry) (s : State) : State := { s with
  press := { s.press with schedule := e :: s.press.schedule }
  dir := { s.dir with pages := pagesWith e.page (fun q => { q with printRefs := q.printRefs + 1 }) s.dir.pages } }

theorem State.uncountSheet_of_counted (hline : s.press.answers.head? = some (.line ws))
    (hcounted : s.press.counted = some e) :
    s.uncountSheet = if 1 < e.copies then s.copyTakenBack e
      else if s.press.schedule.length < 16 then s.entryReturned e else s := by
  obtain ⟨rest, hrest⟩ := List.head?_eq_some_iff.1 hline
  simp only [State.uncountSheet, hrest, hcounted]
  rfl

end Uncount

section Reset
variable {s : State}

theorem exec_pressReset_of_no_line (hctl : s.ctl.state ≠ .resting) (hsignals : s.press.signals = [])
    (h : ∀ ws, s.press.answers.head? ≠ some (.line ws)) : exec .pressReset s = .next s.pressRestart.arbitrate := by
  have hcut : s.pressRestart.modPress PressFeed.cutAnswers = s.pressRestart :=
    congrArg (fun f : PressFeed => { s.pressRestart with press := f })
      (PressFeed.cutAnswers_of_no_line (by rwa [State.pressRestart_answers]))
  rw [exec_pressReset hctl, State.pressResetNow, State.uncountSheet_of_no_line h, hcut,
    State.takeWaitingSignals_of_none ((State.pressRestart_leaves s).2.trans hsignals)]

/-- The state flushed and restarted, with the line on the port cut. -/
def State.lineCut (s : State) : State := { s.pressRestart with
  press := { s.pressRestart.press with answers := [], counted := none } }

/-- PRESS RESET cuts a line: the sheet it ended is first uncounted, as `u` says. -/
theorem exec_pressReset_of_line {u : State} {ws : List Word} (hctl : s.ctl.state ≠ .resting)
    (hu : s.uncountSheet = u) (hsignals : u.press.signals = []) (hline : u.press.answers.head? = some (.line ws)) :
    exec .pressReset s = .next u.lineCut.arbitrate := by
  have hcut : u.pressRestart.modPress PressFeed.cutAnswers = u.lineCut :=
    congrArg (fun f : PressFeed => { u.pressRestart with press := f })
      (PressFeed.cutAnswers_of_line (by rwa [State.pressRestart_answers]))
  have hnone : u.lineCut.press.signals = [] := (State.pressRestart_leaves u).2.trans hsignals
  rw [exec_pressReset hctl, State.pressResetNow, hu, hcut, State.takeWaitingSignals_of_none hnone]

theorem exec_pressReset_links (h : s.ctl.state = .resting ∨ s.press.signals = []) :
    ∃ t : State, exec .pressReset s = .next t ∧ t.links = s.links := by
  by_cases hctl : s.ctl.state = .resting
  · exact ⟨_, exec_pressReset_resting hctl, rfl⟩
  · exact ⟨_, exec_pressReset hctl,
      (State.arbitrate_links _).trans (State.pressResetNow_links (h.resolve_left hctl))⟩

end Reset

/-- Settles O51: a signal by what is being sent, and PRESS RESET by the part state and what it cuts. -/
theorem pressSignalsWaitAbortAndReset : Obligations.PressSignalsWaitAbortAndReset := by
  intro s commandOf restarted cut
  have hcommand : commandOf = PressSignal.command := funext fun g => by cases g <;> rfl
  have hrestarted : ∀ u : State, u.pressRestart = restarted u := State.pressRestart_eq
  have hcut : ∀ u : State, u.lineCut.arbitrate = cut u := fun u => by
    rw [State.lineCut, hrestarted]
  refine ⟨fun g h => ?_, fun a b rest h => ?_, fun a h hsignals => ?_, fun a g h hg => ?_, fun hfree h => ?_,
    fun hfree h => ?_, exec_pressReset_resting, fun hctl hsignals => ⟨fun h => ?_, fun ws hline => ?_⟩,
    exec_pressReset_links⟩
  · rw [hcommand]
    exact exec_command_of_sending h g
  · rw [exec_pressAnswerEnd h, State.takeWaitingSignals_of_sending (by simp [State.answerEnded])]
    rfl
  · rw [exec_pressAnswerEnd h, State.takeWaitingSignals_of_none (s := s.answerEnded []) hsignals]
    rfl
  · rw [exec_pressAnswerEnd h, State.takeWaitingSignals_of_one (s := s.answerEnded []) rfl hg, hcommand, exec_command]
    rfl
  · exact exec_sheetAbort_of_not_sheet hfree h
  · rw [exec_sheetAbort_of_sheet hfree h, hrestarted]
  · rw [exec_pressReset_of_no_line hctl hsignals h, hrestarted]
  have hreset : ∀ {u : State}, s.uncountSheet = u → u.press.signals = s.press.signals →
      u.press.answers = s.press.answers → exec .pressReset s = .next (cut u) := fun hu hs ha =>
    hcut _ ▸ exec_pressReset_of_line hctl hu (hs.trans hsignals) (ha ▸ hline)
  refine ⟨fun hcounted => hreset (State.uncountSheet_of_not_counted hcounted) rfl rfl, fun e hcounted => ?_⟩
  have huncount := State.uncountSheet_of_counted hline hcounted
  refine ⟨fun hcopies => ?_, fun hlast hplace => ?_, fun hlast hfull => ?_⟩
  · exact hreset (huncount.trans (if_pos hcopies)) rfl rfl
  · exact hreset (huncount.trans ((if_neg (not_lt.2 hlast)).trans (if_pos hplace))) rfl rfl
  · exact hreset (huncount.trans ((if_neg (not_lt.2 hlast)).trans (if_neg (not_lt.2 hfull)))) rfl rfl

end Sys2Proof.Machine
end

section
/-!
PROOFS. The stream engine (R160, R166 to R169, R175, R179 to R181): the stream next in turn, the burst of the frame
being filled, the failure that stops a band-component, the frame placed, the record a copy stream has read, and COPY DONE.
-/

set_option Elab.async false
namespace Sys2Proof.Machine

/-! ## The stream next in turn (R179) and the place it may take (R175) -/

theorem LinkCtl.engineMay_iff (c : LinkCtl) :
    c.engineMay = true ↔ c.hasPlace = true ∧ (c.waiters = [] ∨ c.waiters.head? = some .engine) := by
  simp [LinkCtl.engineMay]

section Turn
variable {c : LinkCtl} {pre post : List Stream} {st : Stream} (hsplit : c.streams = pre ++ st :: post)
  (hframe : st.hasFrame = true)
include hsplit hframe

theorem LinkCtl.firstAble_of_split (hpre : ∀ q ∈ pre, q.hasFrame = false) :
    (c.streams.filter Stream.hasFrame).head? = some st := by
  rw [List.head?_filter, List.find?_eq_some_iff_append]
  exact ⟨hframe, pre, post, hsplit, by simpa using hpre⟩

theorem LinkCtl.nextStream_of_no_turn (hturn : c.turn = none) (hpre : ∀ q ∈ pre, q.hasFrame = false) :
    c.nextStream = some st := by
  simp only [LinkCtl.nextStream, hturn, LinkCtl.firstAble_of_split hsplit hframe hpre]

/-- The first stream with a frame to send that stands after the one last served. -/
theorem LinkCtl.nextStream_of_later {k : Nat} (hturn : c.turn = some k) (hlater : k < st.serial)
    (hpre : ∀ q ∈ pre, q.hasFrame = true → q.serial ≤ k) : c.nextStream = some st := by
  have hfind : (c.streams.filter Stream.hasFrame).find? (fun q => decide (k < q.serial)) = some st := by
    rw [List.find?_filter, List.find?_eq_some_iff_append]
    refine ⟨by simp [hframe, hlater], pre, post, hsplit, fun q hq => ?_⟩
    simpa [imp_iff_not_or] using hpre q hq
  simp only [LinkCtl.nextStream, hturn, hfind]

/-- None stands after the one last served: round to the front of the list. -/
theorem LinkCtl.nextStream_of_wrapped {k : Nat} (hturn : c.turn = some k)
    (hserved : ∀ q ∈ c.streams, q.hasFrame = true → q.serial ≤ k) (hpre : ∀ q ∈ pre, q.hasFrame = false) :
    c.nextStream = some st := by
  have hfind : (c.streams.filter Stream.hasFrame).find? (fun q => decide (k < q.serial)) = none := by
    simpa [List.find?_eq_none] using hserved
  simp only [LinkCtl.nextStream, hturn, hfind, LinkCtl.firstAble_of_split hsplit hframe hpre]

end Turn

/-! ## The frame of a stream (R179, R188) -/

section Frame
variable {st : Stream} {r : BandRecord} (hrecord : st.record = some r)
include hrecord

theorem Stream.words_eq : st.words = r.words := by
  simp only [Stream.words, hrecord]

theorem Stream.frame_of_copy (hkind : st.kind = .copy) (mark : Option Detail) (ws : List Word) (w : Nat) :
    st.frame mark ws w = .payload true 0 st.page (st.index / st.c) (st.index % st.c) r.mode mark r.words st.next ws w
      (some r.state) := by
  simp only [Stream.frame, Stream.words, hrecord, hkind, Option.map_some]

theorem Stream.frame_of_readBack {n : Nat} {g : Byte} {check : Bool} (hkind : st.kind = .readBack n g check)
    (mark : Option Detail) (ws : List Word) (w : Nat) :
    st.frame mark ws w = .payload false g st.page (st.index / st.c) (st.index % st.c) r.mode mark r.words st.next ws w
      none := by
  simp only [Stream.frame, Stream.words, hrecord, hkind]

end Frame

/-! ## How a band-component of a stream ends (R166 to R168, R180, R181) -/

/-- The link after a copy stream's band-component has ended with a marked frame in the claimed place (R168). -/
def LinkCtl.marked (c : LinkCtl) (st : Stream) (f : OutFrame) : LinkCtl :=
  LinkCtl.place f { c.setStream (st.nextComponent 1) with filling := none }

theorem State.copyMarked_eq (s : State) (x : Link) (st : Stream) (f : OutFrame) :
    s.copyMarked x st f = { s with links := s.links.set x ((s.link x).marked st f) } := by
  simp only [State.copyMarked, State.placeFilled, State.modLink, Pair.get_set_self, Pair.set_set]
  rfl

/-- The links after a read-back has been answered and has left the list, its claim given up (R181). -/
def readBackLeft (x : Link) (st : Stream) (n : Nat) (r : ReplyResult) (l : Pair LinkCtl) : Pair LinkCtl :=
  let links := longReplied x n r l
  links.set x (({ links.get x with filling := none } : LinkCtl).dropStream st.serial)

theorem State.endReadBack_eq (s : State) (x : Link) (st : Stream) (n : Nat) (r : ReplyResult) :
    s.endReadBack x st n r = { s with
      links := readBackLeft x st n r s.links
      dir := { s.dir with
        pages := pagesWith st.page (fun q => { q with streamRefs := q.streamRefs - 1 }) s.dir.pages } } := by
  rw [State.endReadBack, State.answer_eq]
  rfl

section Fail
variable {s : State} {x : Link} {st : Stream} {r : BandRecord} {p : Page} (hrecord : st.record = some r)
  (hp : s.page st.page = some p) (cause : Detail) (ws : List Word) (w : Nat)
include hrecord

include hp in
/-- A copy stream sends the frame so far, marked, and goes on to its next band-component (R168). -/
theorem State.streamFail_of_copy (hkind : st.kind = .copy) :
    s.streamFail x st cause ws w = { s with
      arb := s.markPlaced p st.index r false
      dir := { s.dir with pages := pagesWith p.id Page.damagedOnce s.dir.pages }
      links := s.links.set x ((s.link x).marked st (st.frame (some cause) ws w)) } := by
  simp only [State.streamFail, hkind, hrecord, State.payloadDamage_eq hp, State.copyMarked_eq, State.id_of_page hp]
  rfl

include hp in
/-- A checked read-back is refused, with the mark and the damage event (R166). -/
theorem State.streamFail_of_checked {n : Nat} {g : Byte} (hkind : st.kind = .readBack n g true) :
    s.streamFail x st cause ws w = { s with
      arb := s.markPlaced p st.index r false
      dir := { s.dir with
        pages := pagesWith p.id (fun q => { q.damagedOnce with streamRefs := q.streamRefs - 1 }) s.dir.pages }
      links := readBackLeft x st n (.damaged cause w) s.links } := by
  have hpages := pagesWith_pagesWith st.page (f := Page.damagedOnce)
    (fun q => { q with streamRefs := q.streamRefs - 1 }) (fun _ => rfl) s.dir.pages
  simp only [State.streamFail, hkind, hrecord, State.payloadDamage_eq hp, State.endReadBack_eq, State.id_of_page hp,
    hpages]
  rfl

/-- A NOCHECK read-back is refused, and nothing is marked or counted (R167). -/
theorem State.streamFail_of_nocheck {n : Nat} {g : Byte} (hkind : st.kind = .readBack n g false) :
    s.streamFail x st cause ws w = s.endReadBack x st n (.damaged cause w) := by
  simp only [State.streamFail, hkind, hrecord]

end Fail

/-! ## Filling a frame (R166, R179) -/

/-- A frame that is full, or whose chain goes on, is kept. -/
theorem State.streamSettle_of_open {s : State} {x : Link} {st : Stream} {ws : List Word}
    (h : st.ext ≠ none ∨ st.frameWords ≤ ws.length) :
    s.streamSettle x st ws = { s with
      links := s.links.set x { (s.link x).setStream st with filling := some ⟨st.serial, ws⟩ } } := by
  have hgoes : ¬ (ws.length < st.frameWords ∧ st.ext = none) := by
    rintro ⟨hwant, hext⟩
    exact h.elim (absurd hext) hwant.not_ge
  rw [State.streamSettle, if_neg hgoes]
  rfl

theorem State.streamSettle_of_ended {s : State} {x : Link} {st : Stream} {ws : List Word} (hext : st.ext = none)
    (hwant : ws.length < st.frameWords) :
    s.streamSettle x st ws = s.streamFail x st .stream ws (st.next + ws.length) :=
  if_pos ⟨hwant, hext⟩

theorem firstBad_of_first {pre post : List ReadWord} {w : ReadWord} (hpre : ∀ v ∈ pre, v.bad = false)
    (hw : w.bad = true) (i : Nat) : firstBad i (pre ++ w :: post) = some (i + pre.length) := by
  induction pre generalizing i with
  | nil => simp [firstBad, hw]
  | cons v pre ih =>
    obtain ⟨hv, hrest⟩ := List.forall_mem_cons.1 hpre
    simp only [List.cons_append, firstBad, hv, Bool.false_eq_true, if_false, ih hrest, List.length_cons]
    congr 1
    omega

theorem firstBad_of_good {ws : List ReadWord} (h : ∀ v ∈ ws, v.bad = false) (i : Nat) : firstBad i ws = none := by
  induction ws generalizing i with
  | nil => rfl
  | cons v ws ih =>
    obtain ⟨hv, hrest⟩ := List.forall_mem_cons.1 h
    simp only [firstBad, hv, Bool.false_eq_true, if_false, ih hrest]

/-- The words a burst brings to a frame that holds `held` words. -/
def Stream.taken (st : Stream) (held : Nat) (back : List ReadWord) : List ReadWord :=
  back.take (min 8 (st.frameWords - held))

/-- The stream after words have joined a frame that held `held` words: the mismatches counted, and at the end of an
extent the chain followed. -/
def Stream.fed (st : Stream) (m : ExtentMap) (held : Nat) (got : List ReadWord) : Stream :=
  let at_ := st.next + held + got.length
  { st with
    mismatches := st.mismatches + (got.filter ReadWord.bad).length
    ext := if at_ % 16384 = 0 ∧ at_ < st.words then st.ext.bind m.follow else st.ext }

section Burst
variable {s : State} {x : Link} {st : Stream} {ws : List Word} (hfilling : (s.link x).filling = some ⟨st.serial, ws⟩)
  (hstream : (s.link x).streams.find? (fun q => q.serial == st.serial) = some st)
include hfilling hstream

/-- The first word that fails its check stops the band-component. -/
theorem State.streamBurst_of_bad {back pre post : List ReadWord} {w : ReadWord} (hchecked : st.kind.checked = true)
    (hgot : st.taken ws.length back = pre ++ w :: post) (hw : w.bad = true) (hpre : ∀ v ∈ pre, v.bad = false) :
    s.streamBurst x back =
      s.streamFail x st .parity (ws ++ pre.map ReadWord.word) (st.next + ws.length + pre.length) := by
  rw [Stream.taken] at hgot
  simp only [State.streamBurst, hfilling, LinkCtl.stream, hstream, hchecked, if_true, hgot,
    firstBad_of_first hpre hw, Nat.zero_add, List.take_left]

theorem State.streamBurst_of_good {back : List ReadWord}
    (hgood : st.kind.checked = false ∨ ∀ v ∈ st.taken ws.length back, v.bad = false) :
    s.streamBurst x back = s.streamSettle x (st.fed s.map ws.length (st.taken ws.length back))
      (ws ++ (st.taken ws.length back).map ReadWord.word) := by
  have hnone : (if st.kind.checked then firstBad 0 (st.taken ws.length back) else none) = none :=
    ite_eq_right_iff.2 fun hchecked =>
      firstBad_of_good (hgood.resolve_left (by simp [hchecked])) 0
  rw [Stream.taken] at hnone ⊢
  simp only [State.streamBurst, hfilling, LinkCtl.stream, hstream, hnone]
  rfl

end Burst

/-! ## A place claimed (R175, R179) -/

/-- The link after its engine has claimed a place for a stream, which has thereby had its turn (log 55). -/
def LinkCtl.claimed (c : LinkCtl) (serial : Nat) : LinkCtl :=
  LinkCtl.noteWait { c with
    filling := some ⟨serial, []⟩, turn := some serial, waiters := c.waiters.filter (· != .engine) }

theorem exec_streamPlaceClaim {s : State} {x : Link} (hfree : (s.link x).filling = none)
    (hmay : (s.link x).engineMay = true) : exec (.streamPlaceClaim x) s = .next (s.streamClaim x).arbitrate := by
  have hexec : exec (.streamPlaceClaim x) s = execStreamPlaceClaim x s := rfl
  rw [hexec, execStreamPlaceClaim, hfree, hmay]
  rfl

section Claim
variable {s : State} {x : Link} {st : Stream} (hnext : (s.link x).nextStream = some st)
include hnext

/-- A copy stream at a new band-component has its record read (log 54). -/
theorem State.streamClaim_of_new {p : Page} (hrecord : st.record = none) (hp : s.page st.page = some p) :
    s.streamClaim x = { s with
      links := s.links.set x ((s.link x).claimed st.serial)
      arb := { s.arb with tableQueue := s.arb.tableQueue ++
        [⟨.copy x st.serial, recordBurst p.header st.index, .read (recordMask st.index 1) true⟩] } } := by
  simp only [State.streamClaim, hnext, hrecord, hp, State.placeRead_eq,
    State.opPlaced_tail (op := ⟨.copy _ _, _, _⟩) rfl rfl]
  rfl

theorem State.streamClaim_of_record {r : BandRecord} (hrecord : st.record = some r) :
    s.streamClaim x =
      State.streamSettle x st [] { s with links := s.links.set x ((s.link x).claimed st.serial) } := by
  simp only [State.streamClaim, hnext, hrecord]
  rfl

/-- A frame of an open chain begins with no words. -/
theorem State.streamClaim_of_open {r : BandRecord} (hrecord : st.record = some r) (hext : st.ext ≠ none) :
    s.streamClaim x = { s with links := s.links.set x (((s.link x).claimed st.serial).setStream st) } := by
  have hfilling : ((s.link x).claimed st.serial).filling = some ⟨st.serial, []⟩ := LinkCtl.noteWait_filling _
  rw [State.streamClaim_of_record hnext hrecord, State.streamSettle_of_open (.inl hext)]
  simp only [State.link, Pair.get_set_self, Pair.set_set, ← hfilling]
  rfl

theorem State.streamClaim_of_ended {r : BandRecord} (hrecord : st.record = some r) (hext : st.ext = none)
    (hmore : st.next < r.words) :
    s.streamClaim x = State.streamFail x st .stream [] st.next
      { s with links := s.links.set x ((s.link x).claimed st.serial) } := by
  have hwant : ([] : List Word).length < st.frameWords := by
    rw [Stream.frameWords_eq hrecord]
    exact lt_min (by decide) (Nat.sub_pos_of_lt hmore)
  rw [State.streamClaim_of_record hnext hrecord, State.streamSettle_of_ended hext hwant]
  rfl

end Claim

/-! ## A frame placed (R179 to R181) -/

theorem exec_streamFramePlaced {s : State} {x : Link} {st : Stream} {ws : List Word}
    (hfilled : (s.link x).filled = some (st, ws)) :
    exec (.streamFramePlaced x) s = .next (s.streamPlaced x st ws) := by
  have hexec : exec (.streamFramePlaced x) s = execStreamFramePlaced x s := rfl
  simp only [hexec, execStreamFramePlaced, hfilled]

/-- The link after the filled frame of a stream has been placed in the claimed place, unmarked (log 56). -/
def LinkCtl.framePlaced (c : LinkCtl) (st : Stream) (ws : List Word) : LinkCtl :=
  LinkCtl.place (st.frame none ws 0) { c with filling := none }

theorem LinkCtl.filled_of_full {c : LinkCtl} {st : Stream} {r : BandRecord} {ws : List Word}
    (hfilling : c.filling = some ⟨st.serial, ws⟩)
    (hstream : c.streams.find? (fun q => q.serial == st.serial) = some st) (hrecord : st.record = some r)
    (hfull : ws.length = st.frameWords) : c.filled = some (st, ws) := by
  simp [LinkCtl.filled, hfilling, LinkCtl.stream, hstream, hrecord, hfull]

section Placed
variable {s : State} {x : Link} {st : Stream} {r : BandRecord} {ws : List Word} (hrecord : st.record = some r)
include hrecord

/-- The band-component has more words to send. -/
theorem State.streamPlaced_of_more (hmore : st.next + ws.length < r.words) :
    s.streamPlaced x st ws = { s with
      links := s.links.set x (((s.link x).framePlaced st ws).setStream { st with next := st.next + ws.length }) } := by
  rw [State.streamPlaced, Stream.words_eq hrecord, if_pos hmore, State.placeFilled]
  simp only [State.modLink, Pair.get_set_self, Pair.set_set]
  rfl

/-- A copy stream goes on to its next band-component. -/
theorem State.streamPlaced_of_copy (hlast : r.words ≤ st.next + ws.length) (hkind : st.kind = .copy) :
    s.streamPlaced x st ws = { s with
      links := s.links.set x (LinkCtl.noteWait (((s.link x).framePlaced st ws).setStream (st.nextComponent 0))) } := by
  rw [State.streamPlaced, Stream.words_eq hrecord, if_neg hlast.not_gt, State.placeFilled]
  simp only [hkind, State.modLink, Pair.get_set_self, Pair.set_set]
  rfl

/-- A read-back is answered DONE. -/
theorem State.streamPlaced_of_readBack {n : Nat} {g : Byte} {check : Bool} {p : Page}
    (hlast : r.words ≤ st.next + ws.length) (hkind : st.kind = .readBack n g check) (hp : s.page st.page = some p) :
    s.streamPlaced x st ws = State.endReadBack x st n
      (.done (.bandDone p.id (st.index / st.c) (st.index % st.c) r.mode r.words (s.rowsOf p (st.index / st.c)) r.state
        (if check = true then 0 else st.mismatches)))
      { s with links := s.links.set x ((s.link x).framePlaced st ws) } := by
  rw [State.streamPlaced, Stream.words_eq hrecord, if_neg hlast.not_gt, State.placeFilled]
  simp only [hkind, hrecord, hp, State.id_of_page hp]
  rfl

end Placed

/-! ## The stream engine -/

/-- Settles O53: the claim by the record of the stream next in turn, the burst by its first bad word and by the chain,
the failure and the placed frame by the kind of stream. -/
theorem streamsClaimFillAndPlaceFrames : Obligations.StreamsClaimFillAndPlaceFrames := by
  intro x s
  refine ⟨fun st pre post hfree hplace hwaiters hsplit hframe hturn => ?_,
    fun st r ws hfilling hstream hrecord back => ?_, fun st r p cause ws w hrecord hp => ?_,
    fun st r ws hfilling hstream hrecord hfull => ?_⟩
  · have hexec := exec_streamPlaceClaim hfree ((LinkCtl.engineMay_iff _).2 ⟨hplace, hwaiters⟩)
    have hnext : (s.link x).nextStream = some st := by
      cases hlast : (s.link x).turn with
      | none =>
        rw [hlast] at hturn
        exact LinkCtl.nextStream_of_no_turn hsplit hframe hlast hturn
      | some k =>
        rw [hlast] at hturn
        obtain ⟨hlater, hpre⟩ | ⟨hserved, hpre⟩ := hturn
        · exact LinkCtl.nextStream_of_later hsplit hframe hlast hlater hpre
        · exact LinkCtl.nextStream_of_wrapped hsplit hframe hlast hserved hpre
    refine ⟨fun p hrecord hp => ?_, fun r hrecord hext => ?_, fun r hrecord hext hmore => ?_⟩
    · rw [hexec, State.streamClaim_of_new hnext hrecord hp]
      rfl
    · rw [hexec, State.streamClaim_of_open hnext hrecord hext]
      rfl
    · rw [hexec, State.streamClaim_of_ended hnext hrecord hext hmore]
      rfl
  · intro size got checked words ext st2
    have hsize : st.frameWords = size := Stream.frameWords_eq hrecord
    have hgot : st.taken ws.length back = got := by rw [Stream.taken, hsize]
    have hfed : st.fed s.map ws.length got = st2 := by rw [Stream.fed, Stream.words_eq hrecord]
    have hchecked : st.kind.checked = checked := rfl
    refine ⟨fun pre w post hcheck hsplit hw hpre => ?_, fun hgood => ?_⟩
    · exact State.streamBurst_of_bad hfilling hstream (hchecked.trans hcheck) (hgot.trans hsplit) hw hpre
    · rw [← hgot] at hgood
      have hburst := State.streamBurst_of_good hfilling hstream hgood
      rw [hgot, hfed] at hburst
      refine ⟨fun hext hwant => ?_, fun hgoes => ?_⟩
      · exact hburst.trans (State.streamSettle_of_ended hext (hsize.symm ▸ hwant))
      · exact hburst.trans (State.streamSettle_of_open (hgoes.imp_right hsize.le.trans))
  · refine ⟨fun hkind => ?_, fun n g hkind => ?_, fun n g hkind => ?_⟩
    · rw [State.streamFail_of_copy hrecord hp cause ws w hkind, Stream.frame_of_copy hrecord hkind]
      rfl
    · exact State.streamFail_of_checked hrecord hp cause ws w hkind
    · rw [State.streamFail_of_nocheck hrecord cause ws w hkind, State.endReadBack_eq, State.id_of_page hp]
      rfl
  · intro band comp frame
    have hframe : (s.link x).framePlaced st ws = frame := by
      rw [LinkCtl.framePlaced]
      cases hkind : st.kind with
      | copy =>
        simp only [Stream.frame_of_copy hrecord hkind, frame, hkind]
        rfl
      | readBack n g check =>
        simp only [Stream.frame_of_readBack hrecord hkind, frame, hkind]
        rfl
    rw [exec_streamFramePlaced (LinkCtl.filled_of_full hfilling hstream hrecord
      (hfull.trans (Stream.frameWords_eq hrecord).symm)), ← hframe]
    refine ⟨fun hmore => ?_, fun hlast hkind => ?_, fun n g check p hlast hkind hp => ?_⟩
    · rw [State.streamPlaced_of_more hrecord hmore]
    · rw [State.streamPlaced_of_copy hrecord hlast hkind]
      rfl
    · rw [State.streamPlaced_of_readBack hrecord hlast hkind hp, State.endReadBack_eq, State.id_of_page hp]
      rfl

/-! ## The record a copy stream has read (R160, R168, R180) -/

/-- A copy stream whose record has been read as `r`, the chain opened at an extent or not at all. -/
def Stream.opened (st : Stream) (r : BandRecord) (ext : Option Nat) : Stream :=
  { st with record := some r, next := 0, ext := ext }

section Record
variable {s : State} {x : Link} {st : Stream} {e : TableEnd} {r : BandRecord} {bad : Bool}

theorem exec_copyRecordReadEnd {n : Nat} (he : s.arb.tableEnds.find? (fun e => e.op.client.isCopy x) = some e)
    (hclient : e.op.client = .copy x n) (hfilling : (s.link x).filling.map Filling.serial = some n)
    (hstream : (s.link x).streams.find? (fun q => q.serial == n) = some st) :
    exec (.copyRecordReadEnd x) s = .next ((s.endTaken e).copyRecord x st e).arbitrate := by
  have hexec : exec (.copyRecordReadEnd x) s = execCopyRecordReadEnd x s := rfl
  have htake : s.takeEnd (Client.isCopy x) = some (e, s.endTaken e) := State.takeEnd_of_find he
  have hlink : (s.endTaken e).link x = s.link x := rfl
  have hcopy : (s.link x).copyOf e.op.client = some st := by
    rw [hclient, LinkCtl.copyOf, if_pos hfilling, LinkCtl.stream, hstream]
  simp only [hexec, execCopyRecordReadEnd, htake, hlink, hcopy]

/-- A record that fails its check or is PENDING: a marked frame of no words, and the damage event (log 31). -/
theorem State.copyRecord_of_bad (hr : readRecord st.index e.words = (r, bad)) (hbad : bad = true ∨ r.state = .pending) :
    s.copyRecord x st e = { s with
      dir := { s.dir with pages := pagesWith st.page Page.damagedOnce s.dir.pages }
      links := s.links.set x ((s.link x).marked st (st.frame (some .record) [] 0)) } := by
  rw [State.copyRecord, hr, if_pos hbad, State.damageEvent_eq, State.copyMarked_eq]
  rfl

section Good
variable (hr : readRecord st.index e.words = (r, false)) (hstate : r.state ≠ .pending)
include hr hstate

/-- A chain that does not open is a payload failure at word 0. -/
theorem State.copyRecord_of_no_chain (hchain : s.map.openChain st.page st.index r.first = none) :
    s.copyRecord x st e = s.streamFail x (st.opened r none) .stream [] 0 := by
  have hgood : ¬ (false = true ∨ r.state = .pending) := by simp [hstate]
  rw [State.copyRecord, hr, if_neg hgood]
  simp only [hchain]
  rfl

/-- The frame is filled from the chain's first extent. -/
theorem State.copyRecord_of_chain {first : Nat} (hchain : s.map.openChain st.page st.index r.first = some first) :
    s.copyRecord x st e = { s with
      links := s.links.set x { (s.link x).setStream (st.opened r (some first)) with
        filling := some ⟨st.serial, []⟩ } } := by
  have hgood : ¬ (false = true ∨ r.state = .pending) := by simp [hstate]
  rw [State.copyRecord, hr, if_neg hgood]
  simp only [hchain]
  exact State.streamSettle_of_open (.inl (Option.some_ne_none first))

end Good

end Record

/-! ## COPY DONE (R180) -/

theorem Stream.finished_of_copy {st : Stream} (hkind : st.kind = .copy) (hsent : st.total ≤ st.index) :
    st.finished = true := by
  simp [Stream.finished, Stream.hasFrame, hkind, hsent]

theorem exec_copyDone {s : State} {x : Link} {st : Stream}
    (hfirst : (s.link x).streams.find? Stream.finished = some st) (hmay : (s.link x).engineMay = true) :
    exec (.copyDone x) s = .next (s.copyFinish x st) := by
  have hexec : exec (.copyDone x) s = execCopyDone x s := rfl
  simp only [hexec, execCopyDone, hfirst, hmay, if_true]

/-- Settles O54: the record by what the read found, and COPY DONE of the first stream in the list that owes one. -/
theorem copyStreamsReadRecordsAndFinish : Obligations.CopyStreamsReadRecordsAndFinish := by
  intro x s st
  refine ⟨fun e n he hclient hfilling hstream hkind => ?_,
    fun pre post hsplit hkind hsent hpre hplace hwaiters => ?_⟩
  · intro record bad arb marked damaged
    have hexec := exec_copyRecordReadEnd he hclient hfilling hstream
    have hr : readRecord st.index e.words = (record, bad) := rfl
    refine ⟨fun hbad hrecord hnext => ?_, fun p hgood hstate hchain hp => ?_, fun first hgood hstate hchain => ?_⟩
    · have hframe : st.frame (some .record) [] 0 = .payload true 0 st.page (st.index / st.c) (st.index % st.c) .coded
          (some .record) 0 0 [] 0 none := by
        simp only [Stream.frame, Stream.words, hkind, hrecord, hnext, Option.map_none]
      rw [hexec, State.copyRecord_of_bad hr hbad, hframe]
      rfl
    · rw [hgood] at hr
      have hpage : (s.endTaken e).page st.page = some p := hp
      rw [hexec, State.copyRecord_of_no_chain (s := s.endTaken e) hr hstate hchain,
        State.streamFail_of_copy (st := st.opened record none) rfl hpage .stream [] 0 hkind,
        Stream.frame_of_copy (st := st.opened record none) rfl hkind, State.markPlaced_endTaken, State.id_of_page hp]
      rfl
    · rw [hgood] at hr
      rw [hexec, State.copyRecord_of_chain (s := s.endTaken e) hr hstate hchain]
      rfl
  · have hfirst : (s.link x).streams.find? Stream.finished = some st :=
      List.find?_eq_some_iff_append.2 ⟨Stream.finished_of_copy hkind hsent, pre, post, hsplit, fun q hq => by
        simp [Stream.finished, hpre q hq]⟩
    rw [exec_copyDone hfirst ((LinkCtl.engineMay_iff _).2 ⟨hplace, hwaiters⟩)]
    rfl

end Sys2Proof.Machine
end

section
/-!
PROOFS. What arrives on a link and what leaves it (R171 to R176, R186): frames taken in or discarded, malformed and
surplus requests, hold, and the sending of frames and notices.
-/

set_option Elab.async false
namespace Sys2Proof.Machine

/-! ## The arrival of a frame (R171, R172, R176) -/

section Arrival
variable {s : State} {x : Link} {bytes : List Byte} {f : Frame}

theorem exec_frameArrival_resetting (h : (s.link x).resetting = true) :
    exec (.frameArrival x bytes) s = .next s := if_pos h

/-- In a part that does not rest a frame that does not pass is counted, and one that passes is taken in. -/
theorem exec_frameArrival (hreset : (s.link x).resetting = false) (hctl : s.ctl.state ≠ .resting) :
    (parseFrame bytes = none → exec (.frameArrival x bytes) s = .next (s.modLink x LinkCtl.noteFrameCheck)) ∧
    (∀ f, parseFrame bytes = some f → exec (.frameArrival x bytes) s = .next (s.frameIn x f)) := by
  have hexec : exec (.frameArrival x bytes) s = execFrameArrival x bytes s := rfl
  rw [hexec, execFrameArrival, if_neg (by simp [hreset])]
  simp only [if_neg hctl]
  exact ⟨fun hbad => by rw [hbad], fun f hf => by rw [hf]⟩

theorem State.frameIn_hold (hpart : s.part = .ready) (hkind : f.k = 18) (hlen : f.body.length = 2) :
    s.frameIn x f = s.takeHold x f := if_pos ⟨hpart, Frame.isHold_iff.2 ⟨hkind, hlen⟩⟩

theorem State.frameIn_resume (hpart : s.part = .ready) (hkind : f.k = 19) (hlen : f.body.length = 0) :
    s.frameIn x f = s.takeResume x := by
  have hhold : ¬ (s.part = .ready ∧ f.isHold = true) := fun h => by
    have hother := (Frame.isHold_iff.1 h.2).1
    omega
  rw [State.frameIn, if_neg hhold, if_pos ⟨hpart, Frame.isResume_iff.2 ⟨hkind, hlen⟩⟩]

/-- Every other frame, or any frame outside READY, enters the buffer or is lost to overrun (log 18). -/
theorem State.frameIn_other
    (h : ¬ (s.part = .ready ∧ (f.k = 18 ∧ f.body.length = 2 ∨ f.k = 19 ∧ f.body.length = 0))) :
    s.frameIn x f = if (s.link x).rx.length < 4 then s.modLink x fun c => { c with rx := c.rx ++ [f] }
      else s.modLink x LinkCtl.noteOverrun := by
  rw [← Frame.isHold_iff, ← Frame.isResume_iff] at h
  rw [State.frameIn, if_neg fun hhold => h ⟨hhold.1, .inl hhold.2⟩, if_neg fun hresume => h ⟨hresume.1, .inr hresume.2⟩]
  rfl

end Arrival

/-- Settles O10: by the frame check, then by what the frame is and by the room left for it. -/
theorem frameArrivalTakesBuffersOrDiscards : Obligations.FrameArrivalTakesBuffersOrDiscards := by
  intro x bytes s
  refine ⟨exec_frameArrival_resetting, fun hreset hctl => ⟨fun hbad => ?_, fun f hf => ?_⟩⟩
  · exact (exec_frameArrival hreset hctl).1 hbad
  · have hexec := (exec_frameArrival hreset hctl).2 f hf
    refine ⟨fun hpart hkind hlen => ?_, fun hpart hkind hlen hoff => ?_, fun hpart hkind hlen hon => ?_,
      fun hother => ⟨fun hroom => ?_, fun hfull => ?_⟩⟩
    · rw [hexec, State.frameIn_hold hpart hkind hlen, State.takeHold_eq]
    · rw [hexec, State.frameIn_resume hpart hkind hlen, State.takeResume_of_none hoff]
    · rw [hexec, State.frameIn_resume hpart hkind hlen, State.takeResume_of_hold hon]
    · rw [hexec, State.frameIn_other hother, if_pos hroom]
      rfl
    · rw [hexec, State.frameIn_other hother, if_neg (Nat.not_lt.2 hfull)]
      rfl

/-! ## Requests of no kind, of a wrong length, or too many (R173) -/

theorem Frame.badKind_iff (f : Frame) : f.badKind = true ↔ f.k < 1 ∨ 19 < f.k := by
  simp [Frame.badKind]

/-- A frame of no request kind has no right length, and is no long request. -/
theorem Frame.lengthOk_of_badKind {f : Frame} (h : f.badKind = true) : f.lengthOk = false ∧ f.isLong = false := by
  rw [Frame.badKind_iff] at h
  constructor
  · unfold Frame.lengthOk
    split
    pick_goal 20
    · rfl
    all_goals omega
  · simp only [Frame.isLong, Bool.or_eq_false_iff, beq_eq_false_iff_ne]
    omega

/-- What a command that takes a request makes of one on offer, the length and long-request tests foremost: the refusal
as BAD_REQUEST or BUSY changes the link alone, and PIXELS makes a grant decision after it. -/
structure RefusesRequest (c : Instr) (s : State) (x : Link) (f : Frame) : Prop where
  badLength : f.lengthOk = false → c ≠ .pixels x → exec c s = .next (s.answeredAt x f (.refused .badRequest))
  badPixels : f.lengthOk = false → c = .pixels x → exec c s = .next (s.answeredAt x f (.refused .badRequest)).arbitrate
  busy : f.lengthOk = true → f.isLong = true → 4 ≤ (s.link x).long.length →
    exec c s = .next (s.answeredAt x f (.refused .busy))

section Refused
variable {c : Instr} {s : State} {x : Link} {f : Frame} {m ok : Frame → Bool}

/-- A short request other than PIXELS. -/
theorem RefusesRequest.of_short {g : Frame → State → State} (h : s.offers x f.k f = true) (hm : m f = true)
    (hlength : f.lengthOk = ok f) (hshort : f.isLong = false) (hpixels : c ≠ .pixels x)
    (hexec : exec c s = .next (s.serveShort x m ok g)) : RefusesRequest c s x f where
  badLength hbad _ := by rw [hexec, State.serveShort_offers h hm, if_neg (by simp [← hlength, hbad])]
  badPixels _ hc := absurd hc hpixels
  busy _ hlong := by simp [hshort] at hlong

theorem RefusesRequest.of_long {g : Frame → Nat → State → State} (h : s.offers x f.k f = true) (hm : m f = true)
    (hlength : f.lengthOk = ok f) (hpixels : c ≠ .pixels x) (hexec : exec c s = .next (s.serveLong x m ok g)) :
    RefusesRequest c s x f where
  badLength hbad _ := by rw [hexec, State.serveLong_offers h hm, if_neg (by simp [← hlength, hbad])]
  badPixels _ hc := absurd hc hpixels
  busy hgood _ hfull := by
    rw [hexec, State.serveLong_offers h hm, if_pos (hlength ▸ hgood)]
    exact congrArg _ (if_pos hfull)

theorem RefusesRequest.of_pixels (h : s.offers x f.k f = true) (hm : f.isKind 2 = true)
    (hlength : f.lengthOk = f.hasPixelsPart) (hshort : f.isLong = false) : RefusesRequest (.pixels x) s x f where
  badLength _ hc := absurd rfl hc
  badPixels hbad _ := by
    have hserve := State.serveShort_offers (ok := Frame.hasPixelsPart) (g := State.servePixels x) h hm
    rw [← hlength, hbad, if_neg Bool.false_ne_true] at hserve
    exact congrArg (fun t => Host.Outcome.next (State.arbitrate t)) hserve
  busy _ hlong := by simp [hshort] at hlong

theorem RefusesRequest.of_readStatus (h : s.offers x f.k f = true) (hm : f.isKind 8 = true)
    (hlength : f.lengthOk = f.hasLength 0) (hshort : f.isLong = false) : RefusesRequest (.readStatus x) s x f where
  badLength hbad _ := by
    have hexec : exec (.readStatus x) s = execReadStatus x s := rfl
    have htake : s.takeHead x (Frame.isKind ReqKind.readStatus) = some (f, s.tookAt x) := State.takeHead_offers h hm
    simp only [hexec, execReadStatus, htake, ← hlength, hbad, Bool.false_eq_true, if_false, State.reply_tookAt]
  badPixels _ hc := nomatch hc
  busy _ hlong := by simp [hshort] at hlong

/-- Each command that takes a request by the kind it takes: the length it tests is the one its kind requires (R186). -/
theorem exec_refusesRequest (hc : requestOf c = some (x, m)) (h : s.offers x f.k f = true) (hm : m f = true) :
    RefusesRequest c s x f := by
  have hkind : ∀ {n : Nat}, f.isKind n = true → f.k = n := fun hk => by simpa [Frame.isKind] using hk
  cases c with
  | openPage y met =>
    cases met with
    | none =>
      cases hc
      exact .of_long (ok := Frame.hasLength 11) h hm (by simp only [Frame.lengthOk, hkind hm]; rfl) nofun rfl
    | some us => cases hc
  | pixels y =>
    cases hc
    exact .of_pixels h hm (by simp only [Frame.lengthOk, hkind hm]; rfl) (by simp [Frame.isLong, hkind hm])
  | readStatus y =>
    cases hc
    exact .of_readStatus h hm (by simp only [Frame.lengthOk, hkind hm]; rfl) (by simp [Frame.isLong, hkind hm])
  | badKindRequest y =>
    cases hc
    obtain ⟨hlength, hshort⟩ := Frame.lengthOk_of_badKind hm
    exact .of_short (ok := fun _ => false) h hm hlength hshort nofun rfl
  | retirePage y | listPage y | rest y =>
    cases hc
    exact .of_long h hm (by simp only [Frame.lengthOk, hkind hm]; rfl) nofun rfl
  | readBandDecoded y | readBandCompressed y =>
    cases hc
    have hband : f.k = 6 := hkind (Bool.and_eq_true_iff.1 hm).1
    exact .of_long h hm (by simp only [Frame.lengthOk, hband]; rfl) nofun rfl
  | print y | cancelPrint y | clearStatus y | setProfile y | setRule y | setDefaultClass y | setLaneTable y
  | setWatermarks y | setPress y | setStore y | hold y | resume y =>
    cases hc
    exact .of_short h hm (by simp only [Frame.lengthOk, hkind hm]; rfl) (by simp [Frame.isLong, hkind hm]) nofun rfl
  | _ => cases hc

end Refused

/-- Settles O13: the tests every request passes before its owner sees it. -/
theorem malformedAndSurplusRequestsAreRefused : Obligations.MalformedAndSurplusRequestsAreRefused := by
  refine ⟨fun x s f h hkind => ?_, fun c s x m f hc h hm => ?_⟩
  · have hbad := f.badKind_iff.2 hkind
    exact (exec_refusesRequest rfl h hbad).badLength (Frame.lengthOk_of_badKind hbad).1 nofun
  · obtain ⟨badLength, badPixels, busy⟩ := exec_refusesRequest hc h hm
    exact ⟨badLength, badPixels, busy⟩

/-! ## Sending (R174, R175) -/

section Sending
variable {c : LinkCtl}

theorem LinkCtl.startSend_of_busy (h : c.sending.isSome = true) : c.startSend = c := by
  obtain ⟨f, hf⟩ := Option.isSome_iff_exists.1 h
  simp only [LinkCtl.startSend, hf]

theorem LinkCtl.startSend_of_pick {f : OutFrame} {rest : List OutFrame} (hfree : c.sending = none)
    (h : c.pickSend = some (f, rest)) : c.startSend = { c with sending := some f, out := rest } := by
  simp only [LinkCtl.startSend, hfree, h]

theorem LinkCtl.startSend_of_no_pick (h : c.pickSend = none) : c.startSend = c := by
  rw [LinkCtl.startSend, h]
  cases c.sending <;> rfl

/-- Without hold the oldest frame is next. -/
theorem LinkCtl.pickSend_of_first {f : OutFrame} {rest : List OutFrame} (hhold : c.hold = false)
    (h : c.out = f :: rest) : c.pickSend = some (f, rest) := by
  simp [LinkCtl.pickSend, hhold, h]

/-- While hold is in force the oldest HOLD or RESUME notice is next. -/
theorem LinkCtl.pickSend_of_notice {pre post : List OutFrame} {g : OutFrame} (hhold : c.hold = true)
    (h : c.out = pre ++ g :: post) (hg : g.passesHold = true) (hpre : ∀ f ∈ pre, f.passesHold = false) :
    c.pickSend = some (g, pre ++ post) := by
  have hfind : c.out.find? OutFrame.passesHold = some g :=
    List.find?_eq_some_iff_append.2 ⟨hg, pre, post, h, fun f hf => by simp [hpre f hf]⟩
  have hmem : g ∉ pre := fun hf => by simp [hpre g hf] at hg
  simp only [LinkCtl.pickSend, hhold, if_true, hfind]
  rw [h, List.erase_append_right _ hmem, List.erase_cons_head]

theorem LinkCtl.pickSend_of_held (hhold : c.hold = true) (h : ∀ f ∈ c.out, f.passesHold = false) :
    c.pickSend = none := by
  have hfind : c.out.find? OutFrame.passesHold = none := List.find?_eq_none.2 fun f hf => by simp [h f hf]
  simp only [LinkCtl.pickSend, hhold, if_true, hfind]

theorem LinkCtl.pickSend_of_empty (h : c.out = []) : c.pickSend = none := by
  simp [LinkCtl.pickSend, h]

/-- Sending goes on whatever reply places are held. -/
theorem LinkCtl.startSend_withReplyUse (c : LinkCtl) (n : Nat) :
    ({ c with replyUse := n } : LinkCtl).startSend = { c.startSend with replyUse := n } := by
  have hpick : ({ c with replyUse := n } : LinkCtl).pickSend = c.pickSend := rfl
  by_cases hbusy : c.sending.isSome = true
  · rw [LinkCtl.startSend_of_busy hbusy, LinkCtl.startSend_of_busy (c := { c with replyUse := n }) hbusy]
  · have hfree : c.sending = none := Option.not_isSome_iff_eq_none.1 hbusy
    cases hpicked : c.pickSend with
    | none => rw [LinkCtl.startSend_of_no_pick (hpick.trans hpicked), LinkCtl.startSend_of_no_pick hpicked]
    | some q =>
      rw [LinkCtl.startSend_of_pick hfree hpicked,
        LinkCtl.startSend_of_pick (c := { c with replyUse := n }) hfree (hpick.trans hpicked)]

/-- The link once a frame has been sent, before the next is begun: the frame's place is free. -/
def LinkCtl.freed (f : OutFrame) (c : LinkCtl) : LinkCtl :=
  { c with sending := none, replyUse := if f.isReply = true then c.replyUse - 1 else c.replyUse }

/-- What is sent next is told by the link's queue and hold, the frame just sent having been in neither. -/
theorem exec_outboundFrameSent {s : State} {x : Link} {f : OutFrame} {c : LinkCtl} (h : (s.link x).sending = some f)
    (hnext : ((s.link x).freed f).startSend = c) :
    exec (.outboundFrameSent x) s = .next { s with links := s.links.set x c } := by
  have hexec : exec (.outboundFrameSent x) s = execOutboundFrameSent x s := rfl
  simp only [hexec, execOutboundFrameSent, h]
  exact congrArg (fun c => Host.Outcome.next { s with links := s.links.set x c }) hnext

/-! ## The placing of notices (R175) -/

theorem LinkCtl.placeNotice_of_full (n : Notice) (h : 24 ≤ c.generalUse) :
    c.placeNotice n = { c with noticesDiscarded := min 65535 (c.noticesDiscarded + 1) } := by
  have hfull : ¬ c.hasPlace = true := fun hplace => absurd (of_decide_eq_true hplace) (Nat.not_lt.2 h)
  rw [LinkCtl.placeNotice, if_neg hfull]
  rfl

theorem LinkCtl.placeNotice_of_place (n : Notice) (h : c.generalUse < 24) : c.placeNotice n = c.place (.notice n) := by
  have hplace : c.hasPlace = true := decide_eq_true h
  rw [LinkCtl.placeNotice, if_pos hplace]

/-- A frame placed behind the one being sent waits at the end of the queue. -/
theorem LinkCtl.place_of_busy (f : OutFrame) (h : c.sending.isSome = true) :
    c.place f = ({ c with out := c.out ++ [f] } : LinkCtl).noteWait := by
  rw [LinkCtl.place, LinkCtl.startSend_of_busy (c := { c with out := c.out ++ [f] }) h]

end Sending

/-- Settles O16: the next frame by the queue and the hold, the notice by the places held. -/
theorem framesAreSentInOrderAndNoticesPlaced : Obligations.FramesAreSentInOrderAndNoticesPlaced := by
  refine ⟨fun x s f hf => ?_, fun c n => ⟨c.placeNotice_of_full n, fun hplace hhold => ?_, fun hplace hbusy => ?_⟩⟩
  · intro use
    refine ⟨fun hout => ?_, fun g rest hhold hout => ?_, fun pre g post hhold hout hg hpre => ?_, fun hhold hout => ?_⟩
    · exact exec_outboundFrameSent hf (LinkCtl.startSend_of_no_pick (LinkCtl.pickSend_of_empty hout))
    · exact exec_outboundFrameSent hf (LinkCtl.startSend_of_pick rfl (LinkCtl.pickSend_of_first hhold hout))
    · exact exec_outboundFrameSent hf (LinkCtl.startSend_of_pick rfl (LinkCtl.pickSend_of_notice hhold hout hg hpre))
    · exact exec_outboundFrameSent hf (LinkCtl.startSend_of_no_pick (LinkCtl.pickSend_of_held hhold hout))
  · rw [LinkCtl.placeNotice_of_place n hplace]
    exact LinkCtl.line_place _ hhold
  · rw [LinkCtl.placeNotice_of_place n hplace, LinkCtl.place_of_busy _ hbusy]
    exact ⟨LinkCtl.noteWait_sending _, LinkCtl.noteWait_out _⟩

/-! ## Hold (R174, R176) -/

section Hold
variable {s : State} {x : Link} {f : Frame}

theorem exec_hold (h : s.offers x 18 f = true) (hlen : f.body.length = 2) :
    exec (.hold x) s = .next (((s.tookAt x).takeHold x f).freeReplyPlace x) :=
  congrArg Host.Outcome.next (State.serveShort_served h (by simp [Frame.hasLength, hlen]))

theorem exec_resume (h : s.offers x 19 f = true) (hlen : f.body.length = 0) :
    exec (.resume x) s = .next (((s.tookAt x).takeResume x).freeReplyPlace x) :=
  congrArg Host.Outcome.next (State.serveShort_served h (by simp [Frame.hasLength, hlen]))

theorem State.link_tookAt (s : State) (x : Link) : (s.tookAt x).link x = (s.link x).took := Pair.get_set_self ..

/-- A RESUME from the buffer that ends a hold. -/
theorem State.freeReplyPlace_takeResume (hon : (s.link x).hold = true) :
    ((s.tookAt x).takeResume x).freeReplyPlace x = { s with
      links := s.links.set x
        (LinkCtl.startSend { s.link x with rx := (s.link x).rx.tail, hold := false, holdTimer := none }) } := by
  rw [State.takeResume_of_hold (by rw [State.link_tookAt]; exact hon), State.link_tookAt]
  simp only [State.freeReplyPlace, State.modLink, State.tookAt, Pair.get_set_self, Pair.set_set,
    LinkCtl.startSend_replyUse]
  rw [← LinkCtl.startSend_withReplyUse]
  rfl

end Hold

/-- Settles O15: the reply place taken with the frame is given up in the same event. -/
theorem holdStartsAndEnds : Obligations.HoldStartsAndEnds := by
  intro x s f
  refine ⟨fun h hlen => ?_, fun h hlen hoff => ?_, fun h hlen hon => ?_, fun hon htimer => ?_⟩
  · rw [exec_hold h hlen, State.takeHold_eq, State.link_tookAt]
    simp only [State.freeReplyPlace, State.modLink, State.tookAt, Pair.get_set_self, Pair.set_set]
    rfl
  · rw [exec_resume h hlen, State.takeResume_of_none (by rw [State.link_tookAt]; exact hoff)]
    simp only [State.freeReplyPlace, State.modLink, State.tookAt, Pair.get_set_self, Pair.set_set]
    rfl
  · rw [exec_resume h hlen, State.freeReplyPlace_takeResume hon]
  · obtain ⟨n, hn⟩ := Option.isSome_iff_exists.1 htimer
    have hexec : exec (.holdTimerExpiry x) s = execHoldTimerExpiry x s := rfl
    rw [hexec, ← State.takeResume_of_hold hon]
    simp only [execHoldTimerExpiry, hn]
    rfl

end Sys2Proof.Machine
end

section
/-!
PROOFS. The compressed READ BAND (R159, R160, R166, R167, R178): its checks, its record read, and the read-back that the
record starts.
-/

set_option Elab.async false
namespace Sys2Proof.Machine

/-! ## The request (R178) -/

/-- A READ BAND that passes its checks has its record read, checked, and no reply yet. -/
theorem readBandCompressed_reads {s : State} {x : Link} {f : Frame} {p : Page} (h : s.offersLong x 6 f = true)
    (h1 : field 5 1 f.body = 1) (hp : s.page (field 0 2 f.body) = some p)
    (hnone : p.readBandRefusal (field 2 2 f.body) (field 4 1 f.body) = none) :
    exec (.readBandCompressed x) s = .next (State.arbitrate { s.madeLong x f with
      links := s.links.set x { (s.link x).tookLong f s.nextTicket with
        recordReads := (s.link x).recordReads ++ [{
          ticket := s.nextTicket, tag := f.tag, page := p.id, band := field 2 2 f.body, comp := field 4 1 f.body,
          check := field 6 1 f.body == 0, gone := false }] }
      arb := { s.arb with tableQueue := s.arb.tableQueue ++ [⟨.readBand x s.nextTicket,
        recordBurst p.header (field 2 2 f.body * p.c + field 4 1 f.body),
        .read (recordMask (field 2 2 f.body * p.c + field 4 1 f.body) 1) true⟩] } }) := by
  obtain ⟨hretiring, hopening, hband, hcomp⟩ := p.readBandRefusal_eq_none.1 hnone
  have hplace : ¬ (p.b ≤ field 2 2 f.body ∨ p.c ≤ field 4 1 f.body) := by omega
  rw [exec_readBandCompressed h h1]
  simp only [State.serveReadBandCompressed, BandFields.of, State.madeLong_page, hp, hretiring, hopening, hplace,
    if_false, State.placeRead_eq, State.opPlaced_tail (op := ⟨.readBand x s.nextTicket, _, _⟩) rfl rfl]
  simp only [State.madeLong, State.modLink, Pair.get_set_self, Pair.set_set]
  rfl

/-! ## The record as read (R166, R178) -/

section Record
variable {s : State} {x : Link} {e : TableEnd} {n : Nat} {q : RecordRead} {p : Page} {r : BandRecord}

/-- The state in which the end of a record read has been taken: neither waits any longer. -/
def State.readTaken (x : Link) (n : Nat) (e : TableEnd) (s : State) : State := { s with
  links := s.links.set x { s.link x with recordReads := (s.link x).recordReads.filter fun r => r.ticket != n }
  arb := { s.arb with tableEnds := s.arb.tableEnds.erase e } }

theorem exec_readBandRecordReadEnd (he : s.arb.tableEnds.find? (fun e => e.op.client.isReadBand x) = some e)
    (hclient : e.op.client = .readBand x n)
    (hq : (s.link x).recordReads.find? (fun q => q.ticket == n) = some q) :
    exec (.readBandRecordReadEnd x) s = .next (State.arbitrate
      (if (s.link x).outstanding n then (s.readTaken x n e).readBandRecord x q e else s.readTaken x n e)) := by
  have hexec : exec (.readBandRecordReadEnd x) s = execReadBandRecordReadEnd x s := rfl
  have htake : s.takeEnd (Client.isReadBand x) = some (e, s.endTaken e) := State.takeEnd_of_find he
  have hticket : q.ticket = n := by simpa using List.find?_some hq
  have hlink : (s.endTaken e).link x = s.link x := rfl
  have hread : (s.link x).recordRead e.op.client = some q := by rw [hclient]; exact hq
  simp only [hexec, execReadBandRecordReadEnd, htake, hlink, hread, State.readBandEnded, hticket]
  rfl

theorem LinkCtl.outstanding_iff (c : LinkCtl) (n : Nat) : c.outstanding n = true ↔ ∃ l ∈ c.long, l.ticket = n := by
  simp [LinkCtl.outstanding]

theorem State.pageRead_eq_none : s.pageRead q = none ↔ q.gone = true ∨ s.page q.page = none := by
  cases h : q.gone <;> simp [State.pageRead, h]

theorem State.pageRead_of_page (hgone : q.gone = false) (hp : s.page q.page = some p) : s.pageRead q = some p := by
  simpa [State.pageRead, hgone] using hp

theorem State.readBandRecord_of_no_page (h : s.pageRead q = none) :
    s.readBandRecord x q e = s.answer x q.ticket (.refused .noPage) := by
  simp only [State.readBandRecord, h]

section Page
variable (hp : s.pageRead q = some p)
include hp

/-- The page's state decides before the parity of the read (log 46). -/
theorem State.readBandRecord_of_retiring (hstate : p.state = .retiring) :
    s.readBandRecord x q e = s.answer x q.ticket (.refused .pageRetiring) := by
  simp only [State.readBandRecord, hp, if_pos hstate]

variable (hstate : p.state ≠ .retiring)
include hstate

theorem State.readBandRecord_of_bad (hr : readRecord (q.band * p.c + q.comp) e.words = (r, true)) :
    s.readBandRecord x q e = (s.damageEvent q.page).answer x q.ticket (.damaged .record 0) := by
  simp only [State.readBandRecord, hp, if_neg hstate, hr, if_true]

variable (hr : readRecord (q.band * p.c + q.comp) e.words = (r, false))
include hr

theorem State.readBandRecord_of_pending (hpending : r.state = .pending) :
    s.readBandRecord x q e = s.answer x q.ticket (.refused .notCoded) := by
  simp only [State.readBandRecord, hp, if_neg hstate, hr, Bool.false_eq_true, if_false, if_pos hpending]

variable (hcoded : r.state ≠ .pending)
include hcoded

/-- A chain that does not open stops the read-back at word 0 (R166); NOCHECK spares the mark and the event. -/
theorem State.readBandRecord_of_no_chain (hchain : s.map.openChain q.page (q.band * p.c + q.comp) r.first = none) :
    s.readBandRecord x q e =
      (if q.check = true then s.payloadDamage q.page (q.band * p.c + q.comp) r false else s).answer x q.ticket
        (.damaged .stream 0) := by
  simp only [State.readBandRecord, hp, if_neg hstate, hr, Bool.false_eq_true, if_false, if_neg hcoded, hchain]

theorem State.readBandRecord_of_chain {first : Nat}
    (hchain : s.map.openChain q.page (q.band * p.c + q.comp) r.first = some first) :
    s.readBandRecord x q e = s.addStream x q.page fun k =>
      ⟨k, .readBack q.ticket q.tag q.check, q.page, p.c, q.band * p.c + q.comp, q.band * p.c + q.comp + 1, some r, 0,
        some first, 0, 0⟩ := by
  simp only [State.readBandRecord, hp, if_neg hstate, hr, Bool.false_eq_true, if_false, if_neg hcoded, hchain]

end Page
end Record

/-- The mark is placed by the store controller and the arbiter alone, whatever end has been taken (R160). -/
theorem State.markPlaced_readTaken (s : State) (x : Link) (n : Nat) (e : TableEnd) (p : Page) (index : Nat)
    (r : BandRecord) (byPress : Bool) :
    (s.readTaken x n e).markPlaced p index r byPress =
      { s.markPlaced p index r byPress with tableEnds := s.arb.tableEnds.erase e } :=
  s.markPlaced_endTaken e p index r byPress

/-- Settles O52: the request by the page it names, the record by whether it is still asked for, the page's state, its
parity, its state and its chain. -/
theorem compressedReadBandReadsItsRecord : Obligations.CompressedReadBandReadsItsRecord := by
  refine ⟨fun x s f h h1 => ?_, fun x s e n q he hclient hq => ?_⟩
  · intro band comp
    have hby : f.readBandBy x (.readBandCompressed x) := .inr ⟨rfl, h1⟩
    refine ⟨readBand_noPage h hby, fun p hp => ⟨fun hretiring => ?_, fun hopening => ?_,
      fun hretiring hopening hplace => ?_, fun hretiring hopening hband hcomp => ?_⟩⟩
    · exact readBand_refused h hby hp (if_pos hretiring)
    · exact readBand_refused h hby hp (by simp [Page.readBandRefusal, hopening])
    · exact readBand_refused h hby hp ((if_neg hretiring).trans ((if_neg hopening).trans (if_pos hplace)))
    · exact readBandCompressed_reads h h1 hp (p.readBandRefusal_eq_none.2 ⟨hretiring, hopening, hband, hcomp⟩)
  · intro link read answered ends
    have hexec := exec_readBandRecordReadEnd he hclient hq
    have hticket : q.ticket = n := by simpa using List.find?_some hq
    have hread : s.readTaken x n e = read := rfl
    refine ⟨fun hdropped => ?_, fun hasked => ?_⟩
    · have hout : ¬ (s.link x).outstanding n = true := fun h =>
        let ⟨l, hl, hn⟩ := (LinkCtl.outstanding_iff _ n).1 h
        hdropped l hl hn
      rw [if_neg hout] at hexec
      exact hexec
    rw [if_pos ((LinkCtl.outstanding_iff _ n).2 hasked), hread] at hexec
    have hends : ∀ {t : State}, read.readBandRecord x q e = t → ends t := fun ht => by rw [← ht]; exact hexec
    have hanswer : ∀ (t : State) (r : ReplyResult), t.answer x q.ticket r =
        { t with links := longReplied x n r t.links } := fun t r => by rw [State.answer_eq, hticket]
    refine ⟨fun hgone => ?_, fun p hgone hp => ?_⟩
    · have hnone : read.pageRead q = none := State.pageRead_eq_none.2 hgone
      exact hends ((State.readBandRecord_of_no_page hnone).trans (hanswer _ _))
    intro index record bad
    have hpage : read.pageRead q = some p := State.pageRead_of_page hgone hp
    have hrecord : ∀ {b}, bad = b → readRecord (q.band * p.c + q.comp) e.words = (record, b) := by
      rintro b rfl
      rfl
    refine ⟨fun hretiring => ?_, fun hstate hbad => ?_, fun hstate hgood hpending => ?_,
      fun hstate hgood hcoded hchain => ⟨fun hnocheck => ?_, fun hcheck => ?_⟩,
      fun first hstate hgood hcoded hchain => ?_⟩
    · exact hends ((State.readBandRecord_of_retiring hpage hretiring).trans (hanswer _ _))
    · refine hends ((State.readBandRecord_of_bad hpage hstate (hrecord hbad)).trans ((hanswer _ _).trans ?_))
      rw [State.damageEvent_eq, State.id_of_page hp]
      rfl
    · exact hends ((State.readBandRecord_of_pending hpage hstate (hrecord hgood) hpending).trans (hanswer _ _))
    all_goals rw [State.id_of_page hp] at hchain
    · refine hends ((State.readBandRecord_of_no_chain hpage hstate (hrecord hgood) hcoded hchain).trans ?_)
      rw [if_neg (by simp [hnocheck]), hanswer]
    · refine hends ((State.readBandRecord_of_no_chain hpage hstate (hrecord hgood) hcoded hchain).trans ?_)
      have hread_page : read.page q.page = some p := hp
      rw [if_pos hcheck, State.payloadDamage_eq hread_page, hanswer, ← hread, State.markPlaced_readTaken,
        State.id_of_page hp]
      rfl
    · refine hends ((State.readBandRecord_of_chain hpage hstate (hrecord hgood) hcoded hchain).trans ?_)
      simp only [State.addStream, State.modPage_eq, State.modLink, hticket, State.id_of_page hp, read, Pair.get_set_self,
        Pair.set_set]
      rfl

end Sys2Proof.Machine
end

section
/-!
PROOFS. The bytes of frames, records and answers (R171, R185 to R191).
-/

set_option Elab.async false
namespace Sys2Proof.Machine

/-! ## Numbers as bytes (R185) -/

@[simp] theorem beBytes_length (n v : Nat) : (beBytes n v).length = n := by simp [beBytes]

@[simp] theorem wordBytes_length (w : Word) : (wordBytes w).length = 4 := beBytes_length 4 _

/-- The bytes of fields one after another, each given by its width and its number. -/
def fieldBytes (l : List (Nat × Nat)) : List Byte := l.flatMap fun p => beBytes p.1 p.2

theorem fieldBytes_length (l : List (Nat × Nat)) : (fieldBytes l).length = (l.map Prod.fst).sum := by
  simp [fieldBytes, List.length_flatMap]

@[simp] theorem fieldBytes_nil : fieldBytes [] = [] := rfl

@[simp] theorem fieldBytes_cons (p : Nat × Nat) (l : List (Nat × Nat)) :
    fieldBytes (p :: l) = beBytes p.1 p.2 ++ fieldBytes l := List.flatMap_cons ..

theorem beBytes_one (v : Nat) : beBytes 1 v = [BitVec.ofNat 8 v] := by simp [beBytes]

theorem beBytes_two (v : Nat) : beBytes 2 v = [BitVec.ofNat 8 (v / 256), BitVec.ofNat 8 v] := by
  simp [beBytes, List.range_succ]

theorem beNat_two (a b : Byte) : beNat [a, b] = 256 * a.toNat + b.toNat := by simp [beNat]

theorem beNat_beBytes_two {v : Nat} (h : v < 65536) : beNat (beBytes 2 v) = v := by
  rw [beBytes_two, beNat_two, BitVec.toNat_ofNat, BitVec.toNat_ofNat]
  omega

theorem beBytes_beNat_two (a b : Byte) : beBytes 2 (beNat [a, b]) = [a, b] := by
  have hhigh : BitVec.ofNat 8 ((256 * a.toNat + b.toNat) / 256) = a := by bv_omega
  have hlow : BitVec.ofNat 8 (256 * a.toNat + b.toNat) = b := by bv_omega
  rw [beNat_two, beBytes_two, hhigh, hlow]

/-! ## Whole frames (R171, R185) -/

/-- The four bytes of a header. -/
def headBytes (kind tag : Byte) (length : Nat) : List Byte := kind :: tag :: beBytes 2 length

theorem frameBytes_eq (kind tag : Byte) (body : List Byte) :
    frameBytes kind.toNat tag body = headBytes kind tag body.length ++ body ++
      beBytes 2 (crc16 (headBytes kind tag body.length ++ body)).toNat := by
  have hkind : beBytes 1 kind.toNat = [kind] := by rw [beBytes_one, BitVec.ofNat_toNat, BitVec.setWidth_eq]
  simp only [frameBytes, headBytes, hkind]
  rfl

/-- The kind of a frame is one byte. -/
theorem frameBytes_mod (kind : Nat) (tag : Byte) (body : List Byte) :
    frameBytes kind tag body = frameBytes (BitVec.ofNat 8 kind).toNat tag body := by
  have hkind : beBytes 1 kind = beBytes 1 (BitVec.ofNat 8 kind).toNat := by
    rw [beBytes_one, beBytes_one, BitVec.ofNat_toNat, BitVec.setWidth_eq]
  rw [frameBytes, frameBytes, hkind]

/-- A header, a body and two bytes pass exactly when the length and the check are those of the body. -/
theorem parseFrame_eq (k t h l a b : Byte) (body : List Byte) :
    parseFrame (k :: t :: h :: l :: (body ++ [a, b])) =
      if body.length ≤ 16384 ∧ [h, l] = beBytes 2 body.length ∧
        [a, b] = beBytes 2 (crc16 (k :: t :: h :: l :: body)).toNat then some ⟨k, t, body⟩ else none := by
  have htake : (body ++ [a, b]).take ((body ++ [a, b]).length - 2) = body := by simp
  have hdrop : (body ++ [a, b]).drop ((body ++ [a, b]).length - 2) = [a, b] := by simp
  have hcrc := (crc16 (k :: t :: h :: l :: body)).isLt
  simp only [parseFrame, htake, hdrop, Config.bodyMax]
  refine if_congr ⟨fun ⟨_, hmax, hlength, hcheck⟩ => ?_, fun ⟨hmax, hlength, hcheck⟩ => ?_⟩ rfl rfl
  · rw [hlength, ← hcheck, beBytes_beNat_two, beBytes_beNat_two]
    exact ⟨hmax, rfl, rfl⟩
  · rw [hlength, hcheck, beNat_beBytes_two (by omega), beNat_beBytes_two hcrc]
    exact ⟨by simp, hmax, rfl, rfl⟩

/-- A run of bytes with room for header and check, cut at both. -/
theorem parseFrame_shape {bytes : List Byte} {f : Frame} (hf : parseFrame bytes = some f) :
    ∃ k t h l body a b, bytes = k :: t :: h :: l :: (body ++ [a, b]) := by
  unfold parseFrame at hf
  split at hf
  · next k t h l rest =>
    obtain ⟨hpass, -⟩ := Option.ite_none_right_eq_some.1 hf
    obtain ⟨a, b, hend⟩ := List.length_eq_two.1
      (show (rest.drop (rest.length - 2)).length = 2 by rw [List.length_drop]; omega)
    exact ⟨k, t, h, l, rest.take (rest.length - 2), a, b, by rw [← hend, List.take_append_drop]⟩
  · cases hf

theorem parseFrame_eq_some_iff (bytes : List Byte) (f : Frame) :
    parseFrame bytes = some f ↔ f.body.length ≤ 16384 ∧ bytes = frameBytes f.kind.toNat f.tag f.body := by
  rw [frameBytes_eq, headBytes]
  constructor
  · intro hf
    obtain ⟨k, t, h, l, body, a, b, rfl⟩ := parseFrame_shape hf
    rw [parseFrame_eq] at hf
    split_ifs at hf with hpass
    obtain ⟨hmax, hlength, hcheck⟩ := hpass
    cases hf
    refine ⟨hmax, ?_⟩
    rw [← hlength]
    exact congrArg (fun c => k :: t :: h :: l :: (body ++ c)) hcheck
  · rintro ⟨hmax, rfl⟩
    obtain ⟨h, l, hlength⟩ := List.length_eq_two.1 (beBytes_length 2 f.body.length)
    obtain ⟨a, b, hcheck⟩ := List.length_eq_two.1
      (beBytes_length 2 (crc16 (f.kind :: f.tag :: h :: l :: f.body)).toNat)
    have hparse := parseFrame_eq f.kind f.tag h l a b f.body
    rw [if_pos ⟨hmax, hlength.symm, hcheck.symm⟩] at hparse
    rw [hlength]
    exact (congrArg (fun c => parseFrame (f.kind :: f.tag :: h :: l :: (f.body ++ c))) hcheck).trans hparse

theorem parseFrame_frameBytes (kind : Nat) (tag : Byte) {body : List Byte} (h : body.length ≤ 16384) :
    ∃ g, parseFrame (frameBytes kind tag body) = some g :=
  let f : Frame := ⟨BitVec.ofNat 8 kind, tag, body⟩
  ⟨f, (parseFrame_eq_some_iff _ f).2 ⟨h, frameBytes_mod kind tag body⟩⟩

/-! ## The frames the part sends pass (R188, R189) -/

theorem flatMap_length_const {α : Type} {g : α → List Byte} {n : Nat} (hg : ∀ a, (g a).length = n) (l : List α) :
    (l.flatMap g).length = n * l.length := by
  rw [List.length_flatMap, List.map_congr_left fun a _ => hg a, List.map_const', List.sum_replicate, smul_eq_mul,
    Nat.mul_comm]

@[simp] theorem containerBytes_length (o : ContainerOrder) (v : Nat) : (containerBytes o v).length = 2 := by
  cases o <;> rfl

theorem PageListing.bytes_eq (p : PageListing) : p.bytes = fieldBytes
    [(2, p.id), (1, p.state.code), (1, causeCode p.cause), (1, linkCode p.origin), (1, p.profile), (2, p.w), (2, p.ht),
      (1, p.c), (1, p.order.code), (1, p.cls), (1, targetCode p.copyTarget), (2, p.jobTag), (2, p.b),
      (1, boolByte p.nextPixel.isSome), (4, p.nextPixel.getD 0), (2, p.stored), (1, boolByte p.damaged),
      (1, p.damageEvents), (2, p.clamped), (1, p.printRefs), (1, p.streamRefs)] := by
  unfold PageListing.bytes
  simp only [fieldBytes_cons, fieldBytes_nil, List.append_nil, List.append_assoc]

theorem RecordListing.bytes_eq (r : RecordListing) :
    r.bytes = fieldBytes [(1, boolByte r.ok), (4, r.word0.toNat), (4, r.word1.toNat)] := by
  simp only [RecordListing.bytes, wordBytes, fieldBytes_cons, fieldBytes_nil, List.append_nil, List.append_assoc]

/-- A lane of the status record: its state and the depth of its queue. -/
def laneFields (q : LaneShown × Nat) : List (Nat × Nat) := [(1, q.1.code), (1, q.2)]

theorem StatusRecord.bytes_eq (r : StatusRecord) : r.bytes = fieldBytes (
    [(1, r.part.code), (1, r.size.code), (2, r.freeCount), (1, r.mode.code), (1, r.admits), (2, r.directory)] ++
      laneFields r.lanes.f0 ++ laneFields r.lanes.f1 ++ laneFields r.lanes.f2 ++ laneFields r.lanes.f3 ++
      [(1, r.flags.code), (1, r.press.code), (1, r.schedule), (4, r.fifoLines), (2, r.underruns), (1, boolByte r.hold),
        (1, r.long), (1, r.streams), (2, r.framesDiscarded), (2, r.noticesDiscarded)]) := by
  unfold StatusRecord.bytes
  simp only [laneFields, List.cons_append, List.nil_append, fieldBytes_cons, fieldBytes_nil,
    List.append_nil, List.append_assoc]

/-- The details of a reply but for a listing, whose records follow its page record (R187). -/
def Details.fields : Details → List (Nat × Nat)
  | .none => []
  | .opened page b cls t => [(2, page), (2, b), (1, cls), (1, targetCode t)]
  | .printed page copies => [(2, page), (1, copies)]
  | .proofDone page band comp m words hr => [(2, page), (2, band), (1, comp), (1, m.code), (4, words), (1, hr)]
  | .bandDone page band comp m words hr st mm =>
    [(2, page), (2, band), (1, comp), (1, m.code), (4, words), (1, hr), (1, st.code), (4, mm)]
  | .listed _ _ => []
  | .status _ => []
  | .laneTable b => [(1, b)]
  | .runLimit m => [(1, m)]
  | .watermarks lw hw k m => [(2, lw), (2, hw), (1, k), (1, m.code)]
  | .press t => [(1, t.order.code), (1, t.p), (1, t.u)]

theorem Details.bytes_eq_fields (d : Details) (hlisted : ∀ p records, d ≠ .listed p records)
    (hstatus : ∀ r, d ≠ .status r) : d.bytes = fieldBytes d.fields := by
  cases d with
  | listed p records => exact absurd rfl (hlisted p records)
  | status r => exact absurd rfl (hstatus r)
  | _ =>
    simp only [Details.bytes, Details.fields, fieldBytes_cons, fieldBytes_nil, List.append_nil, List.append_assoc]

theorem Details.bytes_listed (p : PageListing) (records : List RecordListing) :
    (Details.listed p records).bytes = p.bytes ++ records.flatMap fun r =>
      fieldBytes [(1, boolByte r.ok), (4, r.word0.toNat), (4, r.word1.toNat)] := by
  rw [Details.bytes, funext RecordListing.bytes_eq]

theorem PageListing.bytes_length (p : PageListing) : p.bytes.length = 31 := by
  rw [p.bytes_eq]
  simp only [fieldBytes_length, List.map_cons, List.map_nil, List.sum_cons, List.sum_nil]
  decide

theorem Details.bytes_listed_length (p : PageListing) (records : List RecordListing) :
    (Details.listed p records).bytes.length = 31 + 9 * records.length := by
  rw [Details.bytes_listed, List.length_append, p.bytes_length, flatMap_length_const (n := 9) fun r => ?_]
  exact fieldBytes_length _

/-- All details but a listing of records are short. -/
theorem Details.bytes_length_le (d : Details) (hlisted : ∀ p records, d ≠ .listed p records) :
    d.bytes.length ≤ 32 := by
  cases d with
  | listed p records => exact absurd rfl (hlisted p records)
  | status r =>
    have hstatus : (Details.status r).bytes = r.bytes := rfl
    rw [hstatus, r.bytes_eq]
    simp only [laneFields, List.cons_append, List.nil_append, fieldBytes_length, List.map_cons, List.map_nil,
      List.sum_cons, List.sum_nil]
    decide
  | _ =>
    rw [Details.bytes_eq_fields _ (fun _ _ h => by cases h) fun _ h => by cases h]
    simp [Details.fields]

theorem Notice.parts_length_le (n : Notice) : n.parts.2.length ≤ 8 := by
  cases n <;> simp [Notice.parts]

/-- The sizes of R188 and R189 within which a frame passes. -/
def OutFrame.fits : OutFrame → Prop
  | .proofRow _ _ _ _ _ _ _ samples => samples.length ≤ 8000
  | .payload _ _ _ _ _ _ _ _ _ data _ _ => data.length ≤ 4000
  | .reply _ _ (.done (.listed _ records)) => records.length ≤ 1024
  | _ => True

theorem replyBody_length_le {kind : Nat} {tag : Byte} {r : ReplyResult} (h : (OutFrame.reply kind tag r).fits) :
    (replyBody kind r).length ≤ 16384 := by
  cases r with
  | refused c => simp [replyBody]
  | damaged d i => simp [replyBody]
  | done d =>
    have hlength : (replyBody kind (.done d)).length = 3 + d.bytes.length := by
      simp only [replyBody, List.length_append, beBytes_length]
    rw [hlength]
    cases d with
    | listed p records =>
      have hroom : records.length ≤ 1024 := h
      rw [Details.bytes_listed_length]
      omega
    | _ => exact (Nat.add_le_add_left (Details.bytes_length_le _ fun _ _ h => by cases h) 3).trans (by decide)

theorem OutFrame.parseFrame_bytes {f : OutFrame} (h : f.fits) : ∃ g, parseFrame f.bytes = some g := by
  cases f with
  | reply kind tag r => exact parseFrame_frameBytes 32 tag (replyBody_length_le h)
  | notice n => exact parseFrame_frameBytes _ 0 (n.parts_length_le.trans (by decide))
  | proofRow tag page band comp row col o samples =>
    have hroom : samples.length ≤ 8000 := h
    refine parseFrame_frameBytes 33 tag ?_
    simp only [List.length_append, beBytes_length, flatMap_length_const (containerBytes_length o)]
    omega
  | payload copy tag page band comp m mark words first data index st =>
    have hroom : data.length ≤ 4000 := h
    refine parseFrame_frameBytes 33 _ ?_
    simp only [List.length_append, beBytes_length, flatMap_length_const wordBytes_length]
    omega

/-! ## The frame check (R171) -/

/-- One bit entered into the check, as a number: the register doubles, and 0x1021 is added without carries where the bit
differs from the one that leaves it. -/
def crcEntered (r : Nat) (bit : Bool) : Nat :=
  if xor (decide (32768 ≤ r)) bit = true then (2 * r % 65536) ^^^ 0x1021 else 2 * r % 65536

theorem crcBit_toNat (r : BitVec 16) (b : Bool) : (crcBit r b).toNat = crcEntered r.toNat b := by
  have hshift : (r <<< 1).toNat = 2 * r.toNat % 65536 := by
    rw [BitVec.toNat_shiftLeft, Nat.shiftLeft_eq, Nat.mul_comm]
  have hmsb : r.msb = decide (32768 ≤ r.toNat) := BitVec.msb_eq_decide r
  rw [crcBit, crcEntered, hmsb]
  split
  · rw [BitVec.toNat_xor, hshift]
    rfl
  · exact hshift

theorem crcByte_toNat (r : BitVec 16) (b : Byte) : (crcByte r b).toNat =
    [7, 6, 5, 4, 3, 2, 1, 0].foldl (fun r i => crcEntered r (b.getLsbD i)) r.toNat :=
  (List.foldl_hom BitVec.toNat (g₁ := fun r i => crcBit r (b.getLsbD i)) (g₂ := fun r i => crcEntered r (b.getLsbD i))
    fun r i => (crcBit_toNat r (b.getLsbD i)).symm).symm

theorem crc16_toNat (bytes : List Byte) : (crc16 bytes).toNat = bytes.foldl
    (fun r b => [7, 6, 5, 4, 3, 2, 1, 0].foldl (fun r i => crcEntered r (b.getLsbD i)) r) 0xFFFF :=
  (List.foldl_hom BitVec.toNat (g₁ := crcByte)
    (g₂ := fun r b => [7, 6, 5, 4, 3, 2, 1, 0].foldl (fun r i => crcEntered r (b.getLsbD i)) r)
    fun r b => (crcByte_toNat r b).symm).symm

/-! ## Replies, notices and DATA frames (R187, R188) -/

theorem OutFrame.bytes_done (kind : Nat) (tag : Byte) (d : Details) :
    (OutFrame.reply kind tag (.done d)).bytes =
      frameBytes 32 tag (fieldBytes [(1, kind), (1, 0), (1, 0)] ++ d.bytes) := by
  simp only [OutFrame.bytes, replyBody, fieldBytes_cons, fieldBytes_nil, List.append_nil, List.append_assoc]

theorem OutFrame.bytes_refused (kind : Nat) (tag : Byte) (c : Refuse) :
    (OutFrame.reply kind tag (.refused c)).bytes =
      frameBytes 32 tag (fieldBytes [(1, kind), (1, 1), (1, c.code)]) := by
  simp only [OutFrame.bytes, replyBody, fieldBytes_cons, fieldBytes_nil, List.append_nil, List.append_assoc]

/-- A DAMAGED reply bears the refusal code 18. -/
theorem OutFrame.bytes_damaged (kind : Nat) (tag : Byte) (d : Detail) (i : Nat) :
    (OutFrame.reply kind tag (.damaged d i)).bytes =
      frameBytes 32 tag (fieldBytes [(1, kind), (1, 1), (1, 18), (1, detailCode (some d)), (4, i)]) := by
  simp only [OutFrame.bytes, replyBody, Refuse.code, fieldBytes_cons, fieldBytes_nil, List.append_nil,
    List.append_assoc]

/-- The fields of a notice (R187). -/
def Notice.fields : Notice → List (Nat × Nat)
  | .pageSealed p => [(2, p)]
  | .pageFailed p c => [(2, p), (1, causeCode (some c))]
  | .printDone p => [(2, p)]
  | .printDropped p => [(2, p)]
  | .bandDamaged p band comp copy d row =>
    [(2, p), (2, band), (1, comp), (1, copy), (1, detailCode (some d)), (1, row)]
  | .storeLow f => [(2, f)]
  | .storeOpen f => [(2, f)]
  | .copyDone p m => [(2, p), (2, m)]
  | .hold => []
  | .resume => []

theorem OutFrame.bytes_notice (n : Notice) :
    (OutFrame.notice n).bytes = frameBytes n.parts.1 0 (fieldBytes n.fields) := by
  cases n <;>
    simp only [OutFrame.bytes, Notice.parts, Notice.fields, fieldBytes_cons, fieldBytes_nil, List.append_nil,
      List.append_assoc]

/-- A container is its sample's two bytes, turned round in LOW_FIRST (R48). -/
theorem containerBytes_eq (o : ContainerOrder) (v : Nat) : containerBytes o v = match o with
    | .highFirst => fieldBytes [(2, v)]
    | .lowFirst => (fieldBytes [(2, v)]).reverse := by
  cases o <;> simp [containerBytes, beBytes_two]

theorem OutFrame.bytes_proofRow (tag : Byte) (page band comp row col : Nat) (o : ContainerOrder)
    (samples : List Nat) : (OutFrame.proofRow tag page band comp row col o samples).bytes = frameBytes 33 tag
      (fieldBytes [(1, 0), (2, page), (2, band), (1, comp), (1, row), (2, col), (2, samples.length)] ++
        samples.flatMap (containerBytes o)) := by
  simp only [OutFrame.bytes, fieldBytes_cons, fieldBytes_nil, List.append_nil, List.append_assoc]

theorem fieldBytes_append (l m : List (Nat × Nat)) : fieldBytes (l ++ m) = fieldBytes l ++ fieldBytes m :=
  List.flatMap_append

theorem fieldBytes_words (data : List Word) : fieldBytes (data.map fun w => (4, w.toNat)) = data.flatMap wordBytes :=
  List.flatMap_map ..

theorem OutFrame.bytes_payload (copy : Bool) (tag : Byte) (page band comp : Nat) (m : Mode) (mark : Option Detail)
    (words first : Nat) (data : List Word) (index : Nat) (st : Option RecState) :
    (OutFrame.payload copy tag page band comp m mark words first data index st).bytes =
      frameBytes 33 (if copy = true then 0 else tag)
        (fieldBytes ([(1, if copy = true then 2 else 1), (2, page), (2, band), (1, comp), (1, m.code),
          (1, detailCode mark), (4, words), (4, first), (2, data.length), (4, index)] ++
          data.map fun w => (4, w.toNat))) := by
  simp only [OutFrame.bytes, fieldBytes_append, fieldBytes_words, fieldBytes_cons, fieldBytes_nil, List.append_nil,
    List.append_assoc]

theorem frameBytes_fields (kind : Nat) (tag : Byte) (body : List Byte) :
    frameBytes kind tag body =
      fieldBytes [(1, kind)] ++ [tag] ++ fieldBytes [(2, body.length)] ++ body ++
        fieldBytes [(2, (crc16 (fieldBytes [(1, kind)] ++ [tag] ++ fieldBytes [(2, body.length)] ++ body)).toNat)] := by
  simp only [frameBytes, fieldBytes_cons, fieldBytes_nil, List.append_nil]

/-! ## Band records in the store (R189) -/

theorem BandRecord.ofWords_eq (w0 w1 : Word) : BandRecord.ofWords w0 w1 =
    { state := if w0.toNat / 2 ^ 30 = 1 then .stored else if w0.toNat / 2 ^ 30 = 2 then .damaged else .pending
      mode := if w0.toNat / 2 ^ 29 % 2 = 1 then .raw else .coded
      lane := w0.toNat / 2 ^ 27 % 4
      first := w0.toNat % 8192
      words := w1.toNat % 262144 } := by
  have hstate : (w0.extractLsb' 30 2).toNat = w0.toNat / 2 ^ 30 := by
    rw [BitVec.extractLsb'_toNat, Nat.shiftRight_eq_div_pow]
    have hw := w0.isLt
    omega
  have hmode : w0.getLsbD 29 = decide (w0.toNat / 2 ^ 29 % 2 = 1) := Nat.testBit_eq_decide_div_mod_eq
  have hlane : (w0.extractLsb' 27 2).toNat = w0.toNat / 2 ^ 27 % 4 := by
    rw [BitVec.extractLsb'_toNat, Nat.shiftRight_eq_div_pow]
  have hfirst : (w0.extractLsb' 0 13).toNat = w0.toNat % 8192 := by
    rw [BitVec.extractLsb'_toNat, Nat.shiftRight_zero]
  have hwords : (w1.extractLsb' 0 18).toNat = w1.toNat % 262144 := by
    rw [BitVec.extractLsb'_toNat, Nat.shiftRight_zero]
  simp only [BandRecord.ofWords, hstate, hmode, hlane, hfirst, hwords, decide_eq_true_eq, BandRecord.mk.injEq, and_true]
  split
  · next h => rw [if_pos h]
  · next h => rw [if_neg (by omega), if_pos h]
  · next hstored hdamaged => rw [if_neg hstored, if_neg hdamaged]

theorem BandRecord.toWords_toNat {r : BandRecord} (hlane : r.lane < 4) (hfirst : r.first < 8192)
    (hwords : r.words < 262144) :
    r.toWords.1.toNat = r.state.code * 2 ^ 30 + r.mode.code * 2 ^ 29 + r.lane * 2 ^ 27 + r.first ∧
      r.toWords.2.toNat = r.words := by
  have hstate : r.state.code ≤ 2 := by cases r.state <;> decide
  have hmode : r.mode.code ≤ 1 := by cases r.mode <;> decide
  have htoWords : r.toWords = (BitVec.ofNat 32 (r.state.code * 2 ^ 30 + r.mode.code * 2 ^ 29 + (r.lane % 4) * 2 ^ 27 +
      r.first % 2 ^ 13), BitVec.ofNat 32 (r.words % 2 ^ 18)) := rfl
  rw [htoWords]
  simp only [BitVec.toNat_ofNat]
  omega

theorem BandRecord.ofWords_toWords {r : BandRecord} (hlane : r.lane < 4) (hfirst : r.first < 8192)
    (hwords : r.words < 262144) : BandRecord.ofWords r.toWords.1 r.toWords.2 = r := by
  obtain ⟨hword0, hword1⟩ := BandRecord.toWords_toNat hlane hfirst hwords
  have hmode : r.mode.code ≤ 1 := by cases r.mode <;> decide
  have hstate : r.toWords.1.toNat / 2 ^ 30 = r.state.code := by omega
  have hraw : r.toWords.1.toNat / 2 ^ 29 % 2 = r.mode.code := by omega
  have hlane : r.toWords.1.toNat / 2 ^ 27 % 4 = r.lane := by omega
  have hfirst : r.toWords.1.toNat % 8192 = r.first := by omega
  rw [BandRecord.ofWords_eq, hstate, hraw, hlane, hfirst, hword1, Nat.mod_eq_of_lt hwords]
  obtain ⟨state, mode, lane, first, words⟩ := r
  cases state <;> cases mode <;> rfl

/-! ## Answers of the press port (R191) -/

theorem Answer.sheetInfo_words {page w ht c copy : Nat} (o : ComponentOrder) (hpage : page < 65536) (hw : w < 65536)
    (hht : ht < 65536) (hc : c < 8) (hcopy : copy < 256) :
    (Answer.sheetInfo page w ht c copy o).words.map BitVec.toNat =
      [page * 65536 + copy * 256 + o.code * 128 + c, w * 65536 + ht] := by
  have ho : o.code ≤ 1 := by cases o <;> decide
  simp only [Answer.words, List.map_cons, List.map_nil, BitVec.toNat_ofNat]
  congr 1
  · omega
  · congr 1
    omega

theorem Answer.sheetDone_words {page copy : Nat} (hpage : page < 65536) (hcopy : copy < 256) :
    (Answer.sheetDone page copy).words.map BitVec.toNat = [page * 65536 + copy * 256] := by
  simp only [Answer.words, List.map_cons, List.map_nil, BitVec.toNat_ofNat]
  congr 1
  omega

/-! ## The layouts -/

/-- Settles O9: frames by their header, body and check, and each layout by its table of fields. -/
theorem framesPassExactlyWhenWhole : Obligations.FramesPassExactlyWhenWhole := by
  refine ⟨parseFrame_eq_some_iff, fun f hfits => ?_, rfl, rfl, rfl, rfl, ?_⟩
  · refine OutFrame.parseFrame_bytes (f := f) ?_
    cases f with
    | reply kind tag r =>
      cases r with
      | done d => cases d <;> exact hfits
      | _ => exact hfits
    | _ => exact hfits
  intro fields link target yes entered check
  have hfields : fields = fieldBytes := rfl
  have hlink : link = linkCode := by funext y; cases y <;> rfl
  have htarget : target = targetCode := by funext y; rcases y with _ | (_ | _) <;> rfl
  have hyes : yes = boolByte := rfl
  have hcheck : ∀ bytes, check bytes = (crc16 bytes).toNat := fun bytes => (crc16_toNat bytes).symm
  clear_value fields link target yes check
  subst hfields hlink htarget hyes
  refine ⟨fun kind tag body => ?_, ?_⟩
  · intro head
    rw [hcheck]
    exact frameBytes_fields kind tag body
  intro mode admission
  have hmode : mode = Mode.code := by funext m; cases m <;> rfl
  have hadmission : admission = AdmMode.code := by funext m; cases m <;> rfl
  clear_value mode admission
  subst hmode hadmission
  refine ⟨fun kind tag => ⟨OutFrame.bytes_done kind tag, OutFrame.bytes_refused kind tag,
      OutFrame.bytes_damaged kind tag⟩, rfl, fun _ _ _ _ => ?_, fun _ _ => ?_, fun _ _ _ _ _ _ => ?_,
    fun _ _ _ _ _ _ st _ => ?bandDone, fun p records => ?listed, fun r => ?status, fun _ => ⟨?_, ?_⟩,
    fun _ _ _ _ => ?_, fun t => ?press, fun n => ?notice, fun tag page band comp row col o samples => ?proofRow,
    OutFrame.bytes_payload, fun r hlane hfirst hwords => ?record, BandRecord.ofWords_eq, fun _ => ⟨rfl, rfl⟩,
    fun page w ht c copy o hpage hw hht hc hcopy => ⟨rfl, ?sheetInfo, rfl, Answer.sheetDone_words hpage hcopy⟩,
    rfl, rfl⟩
  case bandDone =>
    rw [Details.bytes_eq_fields _ (fun _ _ h => by cases h) fun _ h => by cases h]
    cases st <;> rfl
  case listed =>
    rw [Details.bytes_listed, p.bytes_eq]
    cases p.order <;> rfl
  case status =>
    have hstatus : (Details.status r).bytes = r.bytes := rfl
    have hlanes : ∀ q : LaneShown × Nat, laneFields q =
        [(1, match q.1 with | .idle => 0 | .encoding => 1 | .decoding => 2), (1, q.2)] := fun q => by
      rw [laneFields]
      cases q.1 <;> rfl
    have hpart : r.part.code = match r.part with | .starting => 0 | .ready => 1 | .resting => 2 | .waking => 3 := by
      cases r.part <;> rfl
    have hsize : r.size.code = match r.size with | .mib128 => 0 | .mib256 => 1 | .mib512 => 2 := by
      cases r.size <;> rfl
    have hpress : r.press.code = match r.press with | .idle => 0 | .preroll => 1 | .ready => 2 | .sheet => 3 := by
      cases r.press <;> rfl
    rw [hstatus, r.bytes_eq, hpart, hsize, hpress, hlanes, hlanes, hlanes, hlanes]
    rfl
  case press =>
    rw [Details.bytes_eq_fields _ (fun _ _ h => by cases h) (fun _ h => by cases h)]
    obtain ⟨order, p, u⟩ := t
    cases order <;> rfl
  case notice =>
    rw [OutFrame.bytes_notice]
    cases n <;> rfl
  case proofRow =>
    rw [OutFrame.bytes_proofRow, funext (containerBytes_eq o)]
    cases o <;> rfl
  case record =>
    obtain ⟨hword0, hword1⟩ := BandRecord.toWords_toNat hlane hfirst hwords
    refine ⟨hword0.trans ?_, hword1, BandRecord.ofWords_toWords hlane hfirst hwords⟩
    cases r.state <;> rfl
  case sheetInfo =>
    rw [Answer.sheetInfo_words o hpage hw hht hc hcopy]
    cases o <;> rfl
  all_goals exact Details.bytes_eq_fields _ (fun _ _ h => by cases h) fun _ h => by cases h

end Sys2Proof.Machine
end

section
/-!
PROOFS. A link reset (R182): the state in which the link itself stands reset, and what its intake page, its PROOF jobs
and its listings bring about from there.
-/

set_option Elab.async false
namespace Sys2Proof.Machine

/-! ## The link itself reset -/

/-- The burst, serving its work no more if it is of this work. -/
def Burst.unserved (mine : Burst → Bool) (b : Burst) : Burst := if mine b then { b with live := false } else b

/-- A burst that two kinds of work give up, where the second is known whether or not the first has given it up. -/
theorem Burst.unserved_unserved {m n : Burst → Bool} (hn : ∀ b, n { b with live := false } = n b) (b : Burst) :
    (b.unserved m).unserved n = b.unserved fun b => m b || n b := by
  by_cases hm : m b = true
  · by_cases hnb : n b = true <;> simp [Burst.unserved, hm, hn, hnb]
  · simp [Burst.unserved, hm]

theorem Burst.map_unserved_unserved {m n : Burst → Bool} (hn : ∀ b, n { b with live := false } = n b)
    (o : Option Burst) :
    (o.map (Burst.unserved m)).map (Burst.unserved n) = o.map (Burst.unserved fun b => m b || n b) := by
  rw [Option.map_map]
  exact congrArg (Option.map · o) (funext fun b => Burst.unserved_unserved hn b)

theorem State.disown_eq (s : State) (mine : Burst → Bool) :
    s.disown mine = { s with ctl := { s.ctl with burst := s.ctl.burst.map (Burst.unserved mine) } } := rfl

/-- The streams that a link has of a page. -/
def LinkCtl.streamsOf (c : LinkCtl) (id : Nat) : Nat := (c.streams.filter fun st => st.page == id).length

/-- The record of a page after so many of its streams have ended. -/
def Page.dropStreams (n : Nat → Nat) (q : Page) : Page := { q with streamRefs := q.streamRefs - n q.id }

/-- One stream ref less for each of these streams. -/
theorem State.foldl_dropStreamRef (l : List Stream) (s : State) :
    l.foldl (fun t st => t.dropStreamRef st.page) s = { s with dir := { s.dir with
      pages := s.dir.pages.map (Page.dropStreams fun id => (l.filter fun st => st.page == id).length) } } := by
  induction l generalizing s with
  | nil =>
    have hnone : Page.dropStreams (fun _ => 0) = id := rfl
    simp [hnone]
  | cons st l ih =>
    rw [List.foldl_cons, ih]
    simp only [State.dropStreamRef, State.modPage_eq, pagesWith, List.map_map]
    congr 2
    refine List.map_congr_left fun q _ => ?_
    by_cases hq : q.id = st.page
    · simp [Page.dropStreams, hq, Nat.add_comm, Nat.sub_sub]
    · have hst : (st.page == q.id) = false := by simpa using Ne.symm hq
      simp [Page.dropStreams, hq, hst]

/-- The bursts that a link reset withdraws whatever it finds. -/
def Burst.ofLink (x : Link) (b : Burst) : Bool := b.req == .stream x || b.req == .intake x

/-- The state in which the link stands reset: its streams are aborted, and its intake holds no frame. -/
def State.linkFreed (again : Bool) (x : Link) (s : State) : State :=
  { s with
    ctl := { s.ctl with
      burst := s.ctl.burst.map (Burst.unserved (Burst.ofLink x))
      wakeFrameHeld := s.ctl.wakeFrameHeld && s.ctl.wakeCause != some (.frame x) }
    arb := { s.arb with tableEnds := s.arb.tableEnds.filter fun e => !e.op.client.isCopy x }
    dir := { s.dir with pages := s.dir.pages.map (Page.dropStreams (s.link x).streamsOf) }
    links := s.links.set x (LinkCtl.reset again (s.link x))
    intakes := s.intakes.set x { s.intake x with frame := none, waiting := [], hold := false } }

/-- The intake of a reset link without its frames, before its page fails. -/
def State.intakeCleared (x : Link) (s : State) : State :=
  (s.disown fun b => b.req == .intake x).modIntake x fun k => { k with frame := none, waiting := [], hold := false }

theorem State.resetWake_eq (s : State) (x : Link) :
    s.resetWake x = { s with ctl := { s.ctl with
      wakeFrameHeld := s.ctl.wakeFrameHeld && s.ctl.wakeCause != some (.frame x) } } := by
  unfold State.resetWake
  split
  · next hcause => simp [State.modCtl, hcause]
  · next hcause =>
    have hne : (s.ctl.wakeCause != some (.frame x)) = true := by simpa using hcause
    simp [hne]

theorem State.linkFreed_eq (s : State) (again : Bool) (x : Link) :
    (((s.abortStreams x).modLink x (LinkCtl.reset again)).resetWake x).intakeCleared x = s.linkFreed again x := by
  have hfolded := State.foldl_dropStreamRef (s.link x).streams s
  simp only [State.resetWake_eq, State.abortStreams, hfolded, State.intakeCleared, State.disown_eq]
  have hburst : (s.ctl.burst.map (Burst.unserved fun b => b.req == .stream x)).map
      (Burst.unserved fun b => b.req == .intake x) = s.ctl.burst.map (Burst.unserved (Burst.ofLink x)) :=
    Burst.map_unserved_unserved (fun _ => rfl) _
  unfold State.linkFreed
  rw [← hburst]
  rfl

theorem State.intake_abortStreams (s : State) (x y : Link) : (s.abortStreams x).intake y = s.intake y := by
  unfold State.abortStreams
  rw [State.foldl_dropStreamRef]
  rfl

theorem State.intake_resetting (s : State) (again : Bool) (x : Link) :
    (((s.abortStreams x).modLink x (LinkCtl.reset again)).resetWake x).intake x = s.intake x := by
  rw [State.resetWake_eq]
  exact s.intake_abortStreams x x

/-- Without an intake page. -/
theorem State.resetLink_of_no_page {s : State} {x : Link} (h : (s.intake x).page = none) :
    s.resetLink x = ((s.linkFreed (s.link x).asReset x).resetProofs x).resetListings x := by
  have hintake := s.intake_resetting (s.link x).asReset x
  simp only [State.resetLink, h, Option.isNone_none, Bool.true_and, State.resetIntake, hintake]
  exact congrArg (fun t => (State.resetProofs x t).resetListings x) (s.linkFreed_eq _ x)

/-- The intake page fails with LINK_RESET. -/
theorem State.resetLink_of_page {s : State} {x : Link} {id : Nat} (h : (s.intake x).page = some id) :
    s.resetLink x = (((s.linkFreed false x).failPage id .linkReset).resetProofs x).resetListings x := by
  have hintake := s.intake_resetting false x
  simp only [State.resetLink, h, Option.isNone_some, Bool.false_and, State.resetIntake, hintake]
  exact congrArg (fun t => ((State.failPage id .linkReset t).resetProofs x).resetListings x) (s.linkFreed_eq _ x)

/-- The link stands as a link reset has just left it, the notices that the reset placed still there (log 23). -/
def LinkCtl.JustReset (c : LinkCtl) : Prop :=
  (∃ id, c.sending = some (.notice (.pageFailed id .linkReset)) ∧ ∀ f ∈ c.out, f = .notice (.printDropped id)) ∧
    c = { LinkCtl.initial with recordReads := c.recordReads, sending := c.sending, out := c.out }

theorem LinkCtl.asReset_iff {c : LinkCtl} (h : c.resetting = false) : c.asReset = true ↔ c.JustReset := by
  unfold LinkCtl.asReset LinkCtl.JustReset
  rw [Bool.and_eq_true, decide_eq_true_eq, h]
  refine and_congr ?_ Iff.rfl
  constructor
  · intro hsent
    split at hsent
    · next id hid => exact ⟨id, hid, by simpa using hsent⟩
    · cases hsent
  · rintro ⟨id, hid, hout⟩
    simpa [hid] using hout

/-- The items that a link reset empties and sets, whether or not the link stood reset already. -/
structure LinkCtl.Emptied (c : LinkCtl) : Prop where
  rx : c.rx = []
  long : c.long = []
  streams : c.streams = []
  flags : c.flags = LinkFlags.clear
  resetting : c.resetting = true

theorem LinkCtl.emptied_reset {c : LinkCtl} {again : Bool} (h : again = true → c.asReset = true) :
    (LinkCtl.reset again c).Emptied := by
  cases again with
  | false => exact ⟨rfl, rfl, rfl, rfl, rfl⟩
  | true =>
    obtain ⟨-, hreset⟩ := Bool.and_eq_true_iff.1 (h rfl)
    have hc := of_decide_eq_true hreset
    exact ⟨(congrArg LinkCtl.rx hc :), (congrArg LinkCtl.long hc :), (congrArg LinkCtl.streams hc :),
      (congrArg LinkCtl.flags hc :), rfl⟩

/-! ## The parts of the state in which the link stands reset -/

theorem State.link_linkFreed (s : State) (again : Bool) (x y : Link) :
    (s.linkFreed again x).link y = if y = x then LinkCtl.reset again (s.link x) else s.link y :=
  State.link_of_links rfl

theorem State.intake_linkFreed (s : State) (again : Bool) (x : Link) :
    (s.linkFreed again x).intake x = { s.intake x with frame := none, waiting := [], hold := false } :=
  Pair.get_set_self ..

theorem State.page_linkFreed {s : State} (again : Bool) (x : Link) {id : Nat} {p : Page} (hp : s.page id = some p) :
    (s.linkFreed again x).page id = some { p with streamRefs := p.streamRefs - (s.link x).streamsOf id } := by
  have hmap : (s.linkFreed again x).page id = (s.page id).map (Page.dropStreams (s.link x).streamsOf) := by
    simp only [State.page, State.linkFreed, List.find?_map]
    rfl
  rw [hmap, hp, Option.map_some, Page.dropStreams, State.id_of_page hp]

end Sys2Proof.Machine
end

section
/-!
PROOFS. What the failure of a page leaves of the links: their streams, and the frame being sent.
-/

set_option Elab.async false
namespace Sys2Proof.Machine

/-! ## Links fed -/

/-- A link that has come from another by frames placed and long requests answered: the frame being sent stays. -/
structure LinkCtl.Fed (c d : LinkCtl) : Prop where
  rx : d.rx = c.rx
  flags : d.flags = c.flags
  streams : d.streams = c.streams
  resetting : d.resetting = c.resetting
  long : d.long ⊆ c.long
  sending : ∀ f, c.sending = some f → d.sending = some f

namespace LinkCtl.Fed
variable {c d e : LinkCtl}

theorem refl (c : LinkCtl) : c.Fed c := ⟨rfl, rfl, rfl, rfl, List.Subset.refl _, fun _ h => h⟩

theorem trans (h1 : c.Fed d) (h2 : d.Fed e) : c.Fed e :=
  ⟨h2.rx.trans h1.rx, h2.flags.trans h1.flags, h2.streams.trans h1.streams, h2.resetting.trans h1.resetting,
    List.Subset.trans h2.long h1.long, fun f h => h2.sending f (h1.sending f h)⟩

theorem place (c : LinkCtl) (f : OutFrame) : c.Fed (c.place f) := by
  refine ⟨by simp, by simp, by simp, by simp, by simp, fun g hg => ?_⟩
  simp [LinkCtl.place, LinkCtl.startSend, hg]

theorem placeNotice (c : LinkCtl) (n : Notice) : c.Fed (c.placeNotice n) := by
  unfold LinkCtl.placeNotice
  split
  · exact place c _
  · exact ⟨rfl, rfl, rfl, rfl, List.Subset.refl _, fun _ h => h⟩

theorem repliedLong (c : LinkCtl) (q : LongReq) (r : ReplyResult) : c.Fed (c.repliedLong q r) := by
  have hwithout : c.Fed { c with long := c.long.filter fun p => p.ticket != q.ticket } :=
    ⟨rfl, rfl, rfl, rfl, fun _ hp => (List.mem_filter.1 hp).1, fun _ h => h⟩
  exact hwithout.trans (place _ _)

end LinkCtl.Fed

/-- Both links after frames have been placed on them and long requests answered. -/
def State.LinksFed (s t : State) : Prop := ∀ y, (s.link y).Fed (t.link y)

namespace State.LinksFed
variable {s t u : State}

theorem of_links (h : t.links = s.links) : s.LinksFed t := fun y => by
  rw [show t.link y = s.link y from congrArg (Pair.get · y) h]
  exact .refl _

theorem trans (h1 : s.LinksFed t) (h2 : t.LinksFed u) : s.LinksFed u := fun y => (h1 y).trans (h2 y)

theorem set {x : Link} {c : LinkCtl} (hc : (s.link x).Fed c) (ht : t.links = s.links.set x c) :
    s.LinksFed t := fun y => by
  rw [State.link_of_links ht]
  split
  · next hyx => exact hyx ▸ hc
  · exact .refl _

theorem foldl {α : Type} (g : State → α → State) (hg : ∀ (s : State) a, s.LinksFed (g s a)) (l : List α) (s : State) :
    s.LinksFed (l.foldl g s) := by
  induction l generalizing s with
  | nil => exact of_links rfl
  | cons a l ih => exact (hg s a).trans (ih _)

theorem notify (s : State) (x : Link) (n : Notice) : s.LinksFed (s.notify x n) := set (.placeNotice _ n) rfl

theorem answer (s : State) (x : Link) (k : Nat) (r : ReplyResult) : s.LinksFed (s.answer x k r) := by
  cases hq : (s.link x).long.find? fun q => q.ticket == k with
  | none =>
    have hnone : s.answer x k r = s := by simp only [State.answer, hq]
    exact of_links (by rw [hnone])
  | some q => exact set (.repliedLong _ q r) (by rw [State.answer_of_some r hq])

theorem emptySlot (s : State) (x : Link) (t : SlotId) : s.LinksFed (s.emptySlot x t) := by
  rw [State.emptySlot_eq]
  cases hhold : (s.intake x).hold
  · exact of_links rfl
  · exact set (.placeNotice _ .resume) rfl

theorem slotJobEnd (s : State) (x : Link) (t : SlotId) : s.LinksFed (s.slotJobEnd x t) := by
  simp only [State.slotJobEnd]
  split
  · exact emptySlot s x t
  · exact of_links rfl

theorem emptyFilling (s : State) (x : Link) (id : Nat) (t : SlotId) : s.LinksFed (s.emptyFilling x id t) := by
  simp only [State.emptyFilling]
  split
  · exact emptySlot s x t
  · exact of_links rfl

theorem ceaseIntake (s : State) (x : Link) (id : Nat) : s.LinksFed (s.ceaseIntake id x) := by
  unfold State.ceaseIntake
  split
  · refine .trans ?_ (foldl _ (fun t => emptyFilling t x id) _ _)
    exact of_links rfl
  · exact of_links rfl

theorem removedJob (s : State) (code : Refuse) (j : Job) : s.LinksFed (s.removedJob code j) := by
  unfold State.removedJob
  split
  · exact slotJobEnd s _ _
  · exact answer s _ _ _

theorem removeJobs (s : State) (id : Nat) (code : Refuse) : s.LinksFed (s.removeJobs id code) :=
  .trans (of_links (congrArg State.links (s.takeOutJobs_moved fun j => j.page == id).1.others :))
    (foldl _ (fun t j => removedJob t code j) _ _)

theorem dropEntries (s : State) (id : Nat) : s.LinksFed (s.dropEntries id) := by
  let removed : State := (s.modPress fun f => { f with schedule := f.schedule.filter fun e => e.page != id }).modPage id
    fun p => { p with printRefs := 0 }
  let noticed : State := (s.press.schedule.filter fun e => e.page == id).foldl
    (fun s e => s.notify e.link (.printDropped id)) removed
  have hmoved : noticed.PressMoved (s.dropEntries id) :=
    (State.PressMoved.pressPassRemoved noticed).trans (.testPress _)
  have hremoved : s.LinksFed removed := of_links rfl
  exact hremoved.trans ((foldl _ (fun t (e : PrintEntry) => notify t e.link _) _ removed).trans
    (of_links (congrArg State.links hmoved.others :)))

theorem failBegun (s : State) (id : Nat) (cause : FailCause) : s.LinksFed (s.failBegun id cause) := by
  refine .trans (t := s.modPage id (Page.failing cause)) (of_links rfl) ?_
  exact foldl _ (fun t x => ceaseIntake t x id) [Link.a, Link.b] _

theorem failEnded (s : State) (id : Nat) (cause : FailCause) : s.LinksFed (s.failEnded id cause) :=
  (failBegun s id cause).trans ((removeJobs (s.failBegun id cause) id .pageState).trans
    (dropEntries ((s.failBegun id cause).removeJobs id .pageState) id))

end State.LinksFed

/-! ## The failure of a reset link's intake page (R45, R61) -/

/-- A reset link has a free general place and sends nothing: what is placed first is sent. -/
theorem LinkCtl.placeNotice_reset_sending (c : LinkCtl) (n : Notice) :
    ((LinkCtl.reset false c).placeNotice n).sending = some (.notice n) := by
  simp [LinkCtl.reset, LinkCtl.placeNotice, LinkCtl.hasPlace, LinkCtl.generalUse, LinkCtl.initial, Config.generalPlaces,
    LinkCtl.place, LinkCtl.startSend, LinkCtl.pickSend]

/-- A slot that was EMPTY when the ends of the jobs began is EMPTY after them (R56). -/
theorem Intake.jobsEnded_initial (y : Link) (u : SlotId) (l : List Job) {k : Intake}
    (h : k.slots.get u = ⟨.empty, none, none, 0, 0⟩) : (k.jobsEnded y l).slots.get u = ⟨.empty, none, none, 0, 0⟩ := by
  induction l generalizing k with
  | nil => exact h
  | cons j l ih =>
    refine ih ?_
    dsimp only
    repeat' split
    · next t _ _ =>
      unfold Intake.slotEnded
      split
      · cases u <;> cases t <;> simp_all [Slots.get, Slots.set]
      · cases u <;> cases t <;> simp_all [Slots.get, Slots.set]
    all_goals exact h

theorem Intake.jobsEnded_frame (y : Link) (l : List Job) (k : Intake) :
    (k.jobsEnded y l).frame = k.frame ∧ (k.jobsEnded y l).waiting = k.waiting := by
  induction l generalizing k with
  | nil => exact ⟨rfl, rfl⟩
  | cons j l ih =>
    have hslot : ∀ t, (k.slotEnded t).frame = k.frame ∧ (k.slotEnded t).waiting = k.waiting := fun t => by
      unfold Intake.slotEnded
      split <;> exact ⟨rfl, rfl⟩
    have hone : (k.jobsEnded y [j]).frame = k.frame ∧ (k.jobsEnded y [j]).waiting = k.waiting := by
      simp only [Intake.jobsEnded, List.foldl_cons, List.foldl_nil]
      repeat' split
      · exact hslot _
      all_goals exact ⟨rfl, rfl⟩
    exact ⟨(ih _).1.trans hone.1, (ih _).2.trans hone.2⟩

theorem Intake.ceased_frame (k : Intake) (id : Nat) (h : k.frame = none) :
    (k.ceased id).frame = none ∧ (k.ceased id).waiting = k.waiting := by
  unfold Intake.ceased
  split
  · exact ⟨by simp [h], rfl⟩
  · exact ⟨h, rfl⟩

theorem Intake.ceased_filling {k : Intake} {id : Nat} {u : SlotId} (hpage : k.page = some id)
    (hstate : (k.slots.get u).state = .filling) (hof : (k.slots.get u).page = some id) :
    (k.ceased id).slots.get u = ⟨.empty, none, none, 0, 0⟩ := by
  have hfills := (Slot.fills_iff (k.slots.get u) id).2 ⟨hstate, hof⟩
  unfold Intake.ceased
  rw [if_pos hpage]
  cases u <;> exact if_pos hfills

/-- What is left of a part by the page failure of a link reset, whether or not the page can fail. -/
structure State.IntakeFailed (x : Link) (s t : State) : Prop where
  fed : s.LinksFed t
  ctl : t.ctl = s.ctl
  profiles : t.dir.profiles = s.dir.profiles
  page : ∀ i p, s.page i = some p → ∃ q, t.page i = some q ∧ q.streamRefs = p.streamRefs
  intake : (s.intake x).frame = none → (t.intake x).frame = none ∧ (t.intake x).waiting = (s.intake x).waiting

theorem State.IntakeFailed.refl (x : Link) (s : State) : State.IntakeFailed x s s :=
  ⟨.of_links rfl, rfl, rfl, fun _ p h => ⟨p, h, rfl⟩, fun h => ⟨h, rfl⟩⟩

theorem State.failPage_linkReset {s : State} {id : Nat} {p : Page} (hp : s.page id = some p)
    (hfail : p.canFail = true) :
    s.failPage id .linkReset = (s.notify p.origin (.pageFailed id .linkReset)).failEnded id .linkReset := by
  simp only [State.failPage, hp, if_pos hfail, if_true]
  rfl

theorem State.failPage_of_no_page {s : State} {id : Nat} (cause : FailCause) (hp : s.page id = none) :
    s.failPage id cause = s := by
  simp only [State.failPage, hp]

theorem State.intakeFailed (s : State) (x : Link) (id : Nat) : State.IntakeFailed x s (s.failPage id .linkReset) := by
  cases hp : s.page id with
  | none =>
    rw [State.failPage_of_no_page _ hp]
    exact .refl x s
  | some p =>
    cases hfail : p.canFail with
    | false =>
      rw [State.failPage_of_not_canFail _ hp hfail]
      exact .refl x s
    | true =>
      have hfailed := State.failPage_failed .linkReset hp hfail
      have hpages := congrArg (fun t : State => t.dir.pages) hfailed.others
      refine ⟨?_, (congrArg State.ctl hfailed.others :), (congrArg (fun t : State => t.dir.profiles) hfailed.others :),
        fun i q hq => ?_, fun hframe => ?_⟩
      · rw [State.failPage_linkReset hp hfail]
        exact (State.LinksFed.notify s _ _).trans (.failEnded _ id _)
      · by_cases hi : i = id
        · subst hi
          exact ⟨_, State.page_of_pagesWith (s := s) hpages (fun _ => rfl) hq, rfl⟩
        · refine ⟨q, ?_, rfl⟩
          rw [← hq]
          exact (congrArg (List.find? _) hpages).trans (s.page_modPage_ne (Page.failed .linkReset) hi fun _ => rfl)
      · rw [hfailed.intake]
        obtain ⟨hended, hwaiting⟩ := Intake.jobsEnded_frame x (s.jobsOf id) ((s.intake x).ceased id)
        obtain ⟨hceased, hleft⟩ := Intake.ceased_frame (s.intake x) id hframe
        exact ⟨hended.trans hceased, hwaiting.trans hleft⟩

end Sys2Proof.Machine
end

section
/-!
PROOFS. What the end of PROOF jobs and of listings leaves (R45, R96): the links, the intakes, and of the pages all but
their work in flight.
-/

set_option Elab.async false
namespace Sys2Proof.Machine

/-! ## Work dropped -/

/-- A read placed changes the arbiter alone (R128). -/
theorem State.placeRead_modArb (s : State) (c : Client) (header index n : Nat) (checked : Bool) :
    s.placeRead c header index n checked = s.modArb fun _ => (s.placeRead c header index n checked).arb := rfl

/-- A state that has come from another by the end of jobs and of listings, and by jobs begun in their place: a lane
decodes what it decoded or the request of a job that waited, no job and no listing has come to the ones that were, and
the burst in progress may serve no one any more. -/
structure State.WorkDropped (s t : State) : Prop where
  ctl : t.ctl = { s.ctl with burst := t.ctl.burst }
  burst : ∀ b, s.ctl.burst = some b → t.ctl.burst = some b ∨ t.ctl.burst = some { b with live := false }
  links : t.links = s.links
  intakes : t.intakes = s.intakes
  profiles : t.dir.profiles = s.dir.profiles
  page : ∀ id p, s.page id = some p → ∃ n, t.page id = some { p with work := n }
  listings : t.dir.listings ⊆ s.dir.listings
  waiting : t.disp.waiting ⊆ s.disp.waiting
  lanes : ∀ l j r, t.lane l = .decoding j r →
    s.lane l = .decoding j r ∨ (j ∈ s.disp.waiting ∧ ∃ k g, j.source = .request j.link k g)

namespace State.WorkDropped
variable {s t u : State}

theorem refl (s : State) : s.WorkDropped s :=
  ⟨rfl, fun _ h => .inl h, rfl, rfl, rfl, fun _ p h => ⟨p.work, h⟩, List.Subset.refl _, List.Subset.refl _,
    fun _ _ _ h => .inl h⟩

theorem trans (h1 : s.WorkDropped t) (h2 : t.WorkDropped u) : s.WorkDropped u := by
  refine ⟨by rw [h2.ctl, h1.ctl], fun b hb => ?_, h2.links.trans h1.links, h2.intakes.trans h1.intakes,
    h2.profiles.trans h1.profiles, fun id p hp => ?_, List.Subset.trans h2.listings h1.listings,
    List.Subset.trans h2.waiting h1.waiting, fun l j r hl => ?_⟩
  · rcases h1.burst b hb with hb | hb
    · exact h2.burst b hb
    · exact .inr ((h2.burst _ hb).elim id id)
  · obtain ⟨n, hp⟩ := h1.page id p hp
    obtain ⟨m, hp⟩ := h2.page id _ hp
    exact ⟨m, hp⟩
  · rcases h2.lanes l j r hl with hl | ⟨hj, hsource⟩
    · exact h1.lanes l j r hl
    · exact .inr ⟨h1.waiting hj, hsource⟩

theorem foldl {α : Type} (g : State → α → State) (hg : ∀ (s : State) a, s.WorkDropped (g s a)) (l : List α)
    (s : State) : s.WorkDropped (l.foldl g s) := by
  induction l generalizing s with
  | nil => exact refl s
  | cons a l ih => exact (hg s a).trans (ih _)

/-- Waiting jobs moved or removed. -/
theorem of_jobsMoved (h : s.JobsMoved t) : s.WorkDropped t := by
  have hctl : t.ctl = s.ctl := (congrArg State.ctl h.others :)
  have hdir : t.dir = s.dir := (congrArg State.dir h.others :)
  refine ⟨by rw [hctl], fun b hb => .inl (by rw [hctl, hb]), (congrArg State.links h.others :),
    (congrArg State.intakes h.others :), by rw [hdir], fun id p hp => ⟨p.work, ?_⟩, by rw [hdir]; exact fun _ h => h,
    h.waiting, fun l j r hl => .inl ?_⟩
  · rw [State.page, hdir]
    exact hp
  · rw [← hl]
    exact (congrArg (Four.get · l) h.lanes).symm

theorem disown (s : State) (mine : Burst → Bool) : s.WorkDropped (s.disown mine) := by
  refine ⟨rfl, fun b hb => ?_, rfl, rfl, rfl, fun _ p h => ⟨p.work, h⟩, List.Subset.refl _, List.Subset.refl _,
    fun _ _ _ h => .inl h⟩
  rw [State.disown_eq, hb]
  by_cases hmine : mine b = true <;> simp [Burst.unserved, hmine]

theorem modArb (s : State) (f : Arbiter → Arbiter) : s.WorkDropped (s.modArb f) :=
  ⟨rfl, fun _ h => .inl h, rfl, rfl, rfl, fun _ p h => ⟨p.work, h⟩, List.Subset.refl _, List.Subset.refl _,
    fun _ _ _ h => .inl h⟩

theorem placeRead (s : State) (c : Client) (header index n : Nat) (checked : Bool) :
    s.WorkDropped (s.placeRead c header index n checked) := by
  rw [State.placeRead_modArb]
  exact modArb s _

theorem withdraw (s : State) (c : Client) : s.WorkDropped (s.withdraw c) := (modArb s _).trans (disown _ _)

theorem modDir (s : State) {f : Directory → Directory} (hpages : (f s.dir).pages = s.dir.pages)
    (hprofiles : (f s.dir).profiles = s.dir.profiles) (hlistings : (f s.dir).listings ⊆ s.dir.listings) :
    s.WorkDropped (s.modDir f) :=
  ⟨rfl, fun _ h => .inl h, rfl, rfl, hprofiles, fun _ p h => ⟨p.work, (congrArg (List.find? _) hpages).trans h⟩,
    hlistings, List.Subset.refl _, fun _ _ _ h => .inl h⟩

/-- The work in flight of a page changed. -/
theorem modPage (s : State) (id : Nat) (n : Nat → Nat) :
    s.WorkDropped (s.modPage id fun p => { p with work := n p.work }) := by
  refine ⟨rfl, fun _ h => .inl h, rfl, rfl, rfl, fun i p hp => ?_, List.Subset.refl _, List.Subset.refl _,
    fun _ _ _ h => .inl h⟩
  by_cases hi : i = id
  · subst hi
    exact ⟨n p.work, State.page_of_pagesWith (s := s) (f := fun p => { p with work := n p.work }) rfl (fun _ => rfl) hp⟩
  · exact ⟨p.work, (s.page_modPage_ne (fun p => { p with work := n p.work }) hi fun _ => rfl).trans hp⟩

theorem beginRelease (s : State) (id : Nat) : s.WorkDropped (s.beginRelease id) := by
  have hdir := fun f : List Release → List Release => modDir s (f := fun d => { d with releases := f d.releases })
    rfl rfl (List.Subset.refl _)
  unfold State.beginRelease
  dsimp only
  split
  · exact (hdir _).trans (placeRead _ _ _ _ _ _)
  · exact hdir _

theorem endWork (s : State) (id : Nat) : s.WorkDropped (s.endWork id) := by
  have hpage := modPage s id (· - 1)
  unfold State.endWork
  dsimp only
  repeat' split
  · exact hpage.trans (beginRelease _ id)
  all_goals exact hpage

end State.WorkDropped

/-! ## A lane goes on (R85) -/

/-- A lane's state of a job just begun: of a PROOF job, it decodes a request. -/
def LaneState.begins (j : Job) (v : LaneState) : Prop :=
  (∃ r, v = .encoding j r) ∨ (v = .decoding j .recordRead ∧ ∃ k g, j.source = .request j.link k g)

theorem State.startJob_begins (s : State) (l : Lane) (j : Job) :
    ∃ v a, LaneState.begins j v ∧
      s.startJob l j = ((s.modPage j.page fun p => { p with work := p.work + 1 }).setLane l v).modArb a := by
  cases hsource : j.source with
  | slot x t =>
    refine ⟨.encoding j (s.newRun j), id, .inl ⟨_, rfl⟩, ?_⟩
    simp only [State.startJob, hsource]
    rfl
  | request x k g =>
    have hbegins : LaneState.begins j (.decoding j .recordRead) :=
      .inr ⟨rfl, k, g, by rw [hsource, Job.link, hsource]⟩
    cases hp : s.page j.page with
    | none =>
      refine ⟨_, id, hbegins, ?_⟩
      simp only [State.startJob, hsource, hp]
      rfl
    | some p =>
      refine ⟨_, fun _ => (s.startJob l j).arb, hbegins, ?_⟩
      simp only [State.startJob, hsource, hp]
      rfl

namespace State.WorkDropped

/-- A lane changed to a job just begun, or to none. -/
theorem setLane (s : State) (l : Lane) {v : LaneState} (hv : v = .idle ∨ ∃ j ∈ s.disp.waiting, v.begins j) :
    s.WorkDropped (s.setLane l v) := by
  refine ⟨rfl, fun _ h => .inl h, rfl, rfl, rfl, fun _ p h => ⟨p.work, h⟩, List.Subset.refl _, List.Subset.refl _,
    fun m j r hm => ?_⟩
  have hm : (s.disp.lanes.set l v).get m = .decoding j r := hm
  by_cases hml : m = l
  · rw [hml, Four.get_set_self] at hm
    subst hm
    rcases hv with hidle | ⟨i, hi, ⟨_, henc⟩ | ⟨hdec, hsource⟩⟩
    · cases hidle
    · cases henc
    · cases hdec
      exact .inr ⟨hi, hsource⟩
  · rw [Four.get_set_ne _ _ hml] at hm
    exact .inl hm

/-- The job that a lane takes waits no more. -/
theorem withoutJob (s : State) (l : Lane) (j : Job) : s.JobsMoved (s.withoutJob l j) := by
  refine ⟨rfl, rfl, fun k hk => ?_⟩
  rcases Dispatcher.mem_waiting.1 hk with ⟨m, hk⟩ | ⟨x, t, hk⟩
  · refine Dispatcher.mem_waiting.2 (.inl ⟨m, ?_⟩)
    have hk : k ∈ (s.disp.queues.set l ((s.disp.queues.get l).filter fun i => i.arrival != j.arrival)).get m := hk
    by_cases hml : m = l
    · rw [hml, Four.get_set_self] at hk
      exact hml ▸ (List.mem_filter.1 hk).1
    · rwa [Four.get_set_ne _ _ hml] at hk
  · exact Dispatcher.mem_waiting.2 (.inr ⟨x, t, hk⟩)

/-- A lane takes up a job that waits. -/
theorem startJob (s : State) (l : Lane) {j : Job} (hj : j ∈ s.disp.waiting) :
    s.WorkDropped ((s.withoutJob l j).startJob l j) := by
  obtain ⟨v, a, hv, hstarted⟩ := (s.withoutJob l j).startJob_begins l j
  -- The lane first, since the job still waits then; what the queue loses does not concern the lanes.
  have hlane : s.WorkDropped (s.setLane l v) := setLane s l (.inr ⟨j, hj, hv⟩)
  have hleft : (s.setLane l v).WorkDropped ((s.setLane l v).withoutJob l j) := of_jobsMoved (withoutJob _ l j)
  rw [hstarted]
  exact hlane.trans (hleft.trans ((modPage _ j.page (· + 1)).trans (modArb _ a)))

theorem laneTake (s : State) (l : Lane) : s.WorkDropped (s.laneTake l) := by
  by_cases hidle : s.lane l = .idle
  · cases hfirst : firstJob Job.ahead (s.disp.queues.get l) with
    | none =>
      rw [State.laneTake_of_empty (firstJob_eq_none hfirst)]
      exact refl s
    | some j =>
      rw [State.laneTake_of_first hidle hfirst]
      have hj : j ∈ s.disp.waiting := Dispatcher.mem_waiting.2 (.inl ⟨l, (firstJob_ahead hfirst).1⟩)
      exact (startJob s l hj).trans (of_jobsMoved (.movePending _ l))
  · rw [State.laneTake_of_busy hidle]
    exact refl s

theorem laneFree (s : State) (l : Lane) : s.WorkDropped (s.laneFree l) :=
  (setLane s l (.inl rfl)).trans (laneTake _ l)

theorem proofAbandon (s : State) (l : Lane) (j : Job) : s.WorkDropped (s.proofAbandon l j) :=
  (withdraw s (.lane l)).trans ((disown _ _).trans ((endWork _ j.page).trans (laneFree _ l)))

theorem abandonProof (s : State) (x : Link) (l : Lane) : s.WorkDropped (s.abandonProof x l) := by
  unfold State.abandonProof
  repeat' split
  · exact proofAbandon s l _
  all_goals exact refl s

theorem resetProofs (s : State) (x : Link) : s.WorkDropped (s.resetProofs x) :=
  (of_jobsMoved (s.takeOutJobs_moved _).1).trans (foldl _ (fun t l => abandonProof t x l) _ _)

theorem endListing (s : State) (q : Listing) : s.WorkDropped (s.endListing q) :=
  (withdraw s (.listing q.link q.ticket)).trans
    ((modDir _ rfl rfl fun _ h => (List.mem_filter.1 h).1).trans (endWork _ q.page))

theorem resetListings (s : State) (x : Link) : s.WorkDropped (s.resetListings x) := foldl _ endListing _ _

end State.WorkDropped

/-! ## None of a reset link's work is left (R45, R96) -/

/-- No PROOF request of the link waits. -/
def State.noRequests (x : Link) (s : State) : Prop := ∀ j ∈ s.disp.waiting, ∀ k g, j.source ≠ .request x k g

/-- The lane decodes nothing for the link. -/
def State.laneClear (x : Link) (s : State) (l : Lane) : Prop := ∀ j r, s.lane l = .decoding j r → j.link ≠ x

theorem State.WorkDropped.noRequests {s t : State} {x : Link} (h : s.WorkDropped t) (hs : s.noRequests x) :
    t.noRequests x := fun j hj => hs j (h.waiting hj)

theorem State.WorkDropped.laneClear {s t : State} {x : Link} {l : Lane} (h : s.WorkDropped t) (hs : s.noRequests x)
    (hl : s.laneClear x l) : t.laneClear x l := fun j r hj => by
  rcases h.lanes l j r hj with hj | ⟨hwait, k, g, hsource⟩
  · exact hl j r hj
  · exact fun hx => hs j hwait k g (hx ▸ hsource)

theorem State.laneClear_abandonProof {s : State} {x : Link} (l : Lane) (hs : s.noRequests x) :
    (s.abandonProof x l).laneClear x l := by
  unfold State.abandonProof
  split
  · next j r hlane =>
    split
    · let ended : State := ((s.withdraw (.lane l)).disown fun b => b.req == .lane l).endWork j.page
      have hended : s.WorkDropped (ended.setLane l .idle) :=
        (State.WorkDropped.withdraw s (.lane l)).trans ((State.WorkDropped.disown _ _).trans
          ((State.WorkDropped.endWork _ j.page).trans (State.WorkDropped.setLane _ l (.inl rfl))))
      have hidle : (ended.setLane l .idle).laneClear x l := fun k q hk => by
        have hk : (ended.disp.lanes.set l .idle).get l = .decoding k q := hk
        rw [Four.get_set_self] at hk
        cases hk
      exact (State.WorkDropped.laneTake (ended.setLane l .idle) l).laneClear (hended.noRequests hs) hidle
    · next hlink =>
      intro k q hk
      cases hlane.symm.trans hk
      exact hlink
  · next hother => exact fun k q hk => absurd hk (hother k q)

theorem State.laneClear_foldl {x : Link} (ls : List Lane) {s : State} (hs : s.noRequests x) :
    ∀ l ∈ ls, (ls.foldl (State.abandonProof x) s).laneClear x l := by
  induction ls generalizing s with
  | nil => nofun
  | cons m ls ih =>
    have hfirst : (s.abandonProof x m).noRequests x := (State.WorkDropped.abandonProof s x m).noRequests hs
    have hrest :=
      State.WorkDropped.foldl (State.abandonProof x) (fun t l => .abandonProof t x l) ls (s.abandonProof x m)
    intro l hl
    rcases List.mem_cons.1 hl with rfl | hl
    · exact hrest.laneClear hfirst (State.laneClear_abandonProof l hs)
    · exact ih hfirst l hl

/-- The jobs that a link reset takes out. -/
def Job.requests (x : Link) (j : Job) : Bool :=
  match j.source with
  | .request y _ _ => y == x
  | .slot _ _ => false

theorem State.resetProofs_eq (s : State) (x : Link) :
    s.resetProofs x = allLanes.foldl (State.abandonProof x) (s.takeOutJobs (Job.requests x)) := rfl

theorem Job.requests_eq_false_iff {x : Link} {j : Job} :
    j.requests x = false ↔ ∀ k g, j.source ≠ .request x k g := by
  unfold Job.requests
  cases j.source with
  | slot y t => simp
  | request y k g => simp

theorem State.resetProofs_clear (s : State) (x : Link) :
    (s.resetProofs x).noRequests x ∧ ∀ l, (s.resetProofs x).laneClear x l := by
  have htaken : (s.takeOutJobs (Job.requests x)).noRequests x := fun j hj =>
    Job.requests_eq_false_iff.1 ((s.takeOutJobs_moved (Job.requests x)).2 j hj)
  rw [State.resetProofs_eq]
  refine ⟨(State.WorkDropped.foldl _ (fun t l => .abandonProof t x l) _ _).noRequests htaken, fun l => ?_⟩
  exact State.laneClear_foldl allLanes htaken l (by cases l <;> decide)

theorem State.endListing_left (s : State) (q : Listing) : ∀ r ∈ (s.endListing q).dir.listings, r.ticket ≠ q.ticket := by
  let left : State := (s.withdraw (.listing q.link q.ticket)).modDir fun d =>
    { d with listings := d.listings.filter fun r => r.ticket != q.ticket }
  intro r hr
  have hr : r ∈ left.dir.listings := (State.WorkDropped.endWork left q.page).listings hr
  simpa using (List.mem_filter.1 hr).2

theorem State.foldl_endListing_left (l : List Listing) (s : State) :
    ∀ q ∈ l, ∀ r ∈ (l.foldl State.endListing s).dir.listings, r.ticket ≠ q.ticket := by
  induction l generalizing s with
  | nil => nofun
  | cons p l ih =>
    intro q hq r hr
    rcases List.mem_cons.1 hq with rfl | hq
    · exact s.endListing_left q r ((State.WorkDropped.foldl _ .endListing l _).listings hr)
    · exact ih _ q hq r hr

theorem State.resetListings_clear (s : State) (x : Link) : ∀ q ∈ (s.resetListings x).dir.listings, q.link ≠ x := by
  intro q hq hlink
  have hbefore : q ∈ s.dir.listings.filter fun q => q.link == x :=
    List.mem_filter.2 ⟨(State.WorkDropped.resetListings s x).listings hq, by simpa using hlink⟩
  exact State.foldl_endListing_left _ s q hbefore q hq rfl

end Sys2Proof.Machine
end

section
/-!
PROOFS. What a link reset leaves of its link and of the rest (R182).
-/

set_option Elab.async false
namespace Sys2Proof.Machine

/-! ## What a link reset leaves -/

/-- The state after a link reset before the arbiter decides: the link stood reset, its intake page has failed if it
could, and its PROOF jobs and listings have ended. -/
structure State.LinkDropped (x : Link) (s t : State) (again : Bool) (v : State) : Prop where
  stood : again = true → (s.link x).asReset = true
  failed : State.IntakeFailed x (s.linkFreed again x) v
  tuned : v.tuned = (s.linkFreed again x).tuned
  ended : t = (v.resetProofs x).resetListings x

theorem State.resetLink_dropped (s : State) (x : Link) : ∃ again v, State.LinkDropped x s (s.resetLink x) again v := by
  cases hpage : (s.intake x).page with
  | none =>
    exact ⟨(s.link x).asReset, s.linkFreed (s.link x).asReset x, id, .refl x _, rfl, State.resetLink_of_no_page hpage⟩
  | some id =>
    exact ⟨false, (s.linkFreed false x).failPage id .linkReset, nofun, State.intakeFailed _ x id,
      State.tuned_failPage _ id .linkReset, State.resetLink_of_page hpage⟩

namespace State.LinkDropped
variable {x : Link} {s t v : State} {again : Bool}

theorem dropped (h : State.LinkDropped x s t again v) : v.WorkDropped t := by
  rw [h.ended]
  exact (State.WorkDropped.resetProofs v x).trans (.resetListings _ x)

theorem fed (h : State.LinkDropped x s t again v) (y : Link) : ((s.linkFreed again x).link y).Fed (t.link y) := by
  rw [show t.link y = v.link y from congrArg (Pair.get · y) h.dropped.links]
  exact h.failed.fed y

/-- The link is at its reset values but for the frames placed since. -/
theorem emptied (h : State.LinkDropped x s t again v) : (t.link x).Emptied := by
  have hfed := h.fed x
  rw [State.link_linkFreed, if_pos rfl] at hfed
  obtain ⟨hrx, hlong, hstreams, hflags, hresetting⟩ := LinkCtl.emptied_reset h.stood
  exact ⟨hfed.rx.trans hrx, List.eq_nil_of_subset_nil (hlong ▸ hfed.long), hfed.streams.trans hstreams,
    hfed.flags.trans hflags, hfed.resetting.trans hresetting⟩

/-- The receive buffer and the flags of the other link stand. -/
theorem other (h : State.LinkDropped x s t again v) : (t.link (otherLink x)).rx = (s.link (otherLink x)).rx ∧
    (t.link (otherLink x)).flags = (s.link (otherLink x)).flags := by
  have hfed := h.fed (otherLink x)
  rw [State.link_linkFreed, if_neg (by cases x <;> nofun)] at hfed
  exact ⟨hfed.rx, hfed.flags⟩

theorem tuned_end (h : State.LinkDropped x s t again v) : t.tuned = (s.linkFreed again x).tuned := by
  rw [h.ended, State.tuned_resetListings, State.tuned_resetProofs, h.tuned]

theorem profiles (h : State.LinkDropped x s t again v) : t.dir.profiles = s.dir.profiles :=
  h.dropped.profiles.trans h.failed.profiles

theorem ctl (h : State.LinkDropped x s t again v) : t.ctl = { s.ctl with
    burst := t.ctl.burst, wakeFrameHeld := s.ctl.wakeFrameHeld && s.ctl.wakeCause != some (.frame x) } := by
  rw [h.dropped.ctl, h.failed.ctl]
  rfl

/-- A burst of the link's streams serves no one any more. -/
theorem burst (h : State.LinkDropped x s t again v) {b : Burst} (hb : s.ctl.burst = some b) (hreq : b.req = .stream x) :
    t.ctl.burst = some { b with live := false } := by
  have hfreed : v.ctl.burst = some { b with live := false } := by
    rw [h.failed.ctl]
    simp [State.linkFreed, hb, Burst.unserved, Burst.ofLink, hreq]
  exact (h.dropped.burst _ hfreed).elim id id

/-- Of each page the stream refs fall by the number of the link's streams there. -/
theorem page (h : State.LinkDropped x s t again v) {id : Nat} {p : Page} (hp : s.page id = some p) :
    ∃ q, t.page id = some q ∧ q.streamRefs = p.streamRefs - (s.link x).streamsOf id := by
  obtain ⟨q, hq, hrefs⟩ := h.failed.page id _ (State.page_linkFreed again x hp)
  obtain ⟨n, hn⟩ := h.dropped.page id q hq
  exact ⟨_, hn, hrefs⟩

theorem intake_eq (h : State.LinkDropped x s t again v) (y : Link) : t.intake y = v.intake y :=
  congrArg (Pair.get · y) h.dropped.intakes

theorem intake (h : State.LinkDropped x s t again v) : (t.intake x).frame = none ∧ (t.intake x).waiting = [] := by
  have hfreed := s.intake_linkFreed again x
  rw [h.intake_eq]
  obtain ⟨hframe, hwaiting⟩ := h.failed.intake (congrArg Intake.frame hfreed)
  exact ⟨hframe, hwaiting.trans (congrArg Intake.waiting hfreed)⟩

/-- No PROOF job and no listing of the link is left. -/
theorem work (h : State.LinkDropped x s t again v) :
    t.noRequests x ∧ (∀ l, t.laneClear x l) ∧ ∀ q ∈ t.dir.listings, q.link ≠ x := by
  obtain ⟨hrequests, hlanes⟩ := v.resetProofs_clear x
  have hlistings := State.WorkDropped.resetListings (v.resetProofs x) x
  rw [h.ended]
  exact ⟨hlistings.noRequests hrequests, fun l => hlistings.laneClear hrequests (hlanes l),
    (v.resetProofs x).resetListings_clear x⟩

end State.LinkDropped

/-! ## The intake page of a reset link (R45, R61) -/

/-- An intake page that could fail has failed with LINK_RESET: its slots have ended, and PAGE FAILED, placed first, is
being sent if the link opened the page. -/
theorem State.resetLink_failed {s : State} {x : Link} {id : Nat} {p : Page} (hpage : (s.intake x).page = some id)
    (hp : s.page id = some p) (hfail : p.canFail = true) :
    ((s.resetLink x).intake x).page = none ∧
      (∃ q, (s.resetLink x).page id = some q ∧ q.state = .failed ∧ q.cause = some .linkReset ∧ q.nextPixel = none ∧
        q.printRefs = 0) ∧
      (∀ u, ((s.intake x).slots.get u).state = .filling → ((s.intake x).slots.get u).page = some id →
        ((s.resetLink x).intake x).slots.get u = ⟨.empty, none, none, 0, 0⟩) ∧
      (p.origin = x → ((s.resetLink x).link x).sending = some (.notice (.pageFailed id .linkReset))) := by
  let freed : State := s.linkFreed false x
  let r : Page := { p with streamRefs := p.streamRefs - (s.link x).streamsOf id }
  have hr : freed.page id = some r := State.page_linkFreed false x hp
  have hrfail : r.canFail = true := hfail
  have hintake : freed.intake x = { s.intake x with frame := none, waiting := [], hold := false } :=
    s.intake_linkFreed false x
  have hfreed : (freed.intake x).page = some id := (congrArg Intake.page hintake).trans hpage
  have hfailed := State.failPage_failed .linkReset hr hrfail
  have hdropped : (freed.failPage id .linkReset).WorkDropped (s.resetLink x) := by
    rw [State.resetLink_of_page hpage]
    exact (State.WorkDropped.resetProofs _ x).trans (.resetListings _ x)
  have hkept : (s.resetLink x).intake x = (freed.failPage id .linkReset).intake x :=
    congrArg (Pair.get · x) hdropped.intakes
  rw [hkept, hfailed.intake]
  refine ⟨?_, ?_, fun u hstate hof => ?_, fun horigin => ?_⟩
  · rw [Intake.ceased_jobsEnded_page, if_pos hfreed]
  · obtain ⟨n, hn⟩ := hdropped.page id _ (State.page_of_pagesWith (s := freed)
      (congrArg (fun t : State => t.dir.pages) hfailed.others) (fun _ => rfl) hr)
    exact ⟨_, hn, rfl, rfl, rfl, rfl⟩
  · refine Intake.jobsEnded_initial x u _ (Intake.ceased_filling hfreed ?_ ?_)
    · rw [hintake]; exact hstate
    · rw [hintake]; exact hof
  · have hlink : (s.resetLink x).link x = (freed.failPage id .linkReset).link x :=
      congrArg (Pair.get · x) hdropped.links
    rw [hlink, State.failPage_linkReset hr hrfail]
    refine (State.LinksFed.failEnded _ id .linkReset x).sending _ ?_
    have horigin : r.origin = x := horigin
    rw [horigin, State.link_notify, if_pos rfl, s.link_linkFreed false x x, if_pos rfl]
    exact LinkCtl.placeNotice_reset_sending _ _

end Sys2Proof.Machine
end

section
/-!
PROOFS. A link reset that finds none of the link's work, one PROOF job, or one listing (R45, R96, R182).
-/

set_option Elab.async false
namespace Sys2Proof.Machine

/-! ## Nothing found -/

theorem State.takeOutJobs_of_none {s : State} {gone : Job → Bool} (h : ∀ j ∈ s.disp.waiting, gone j = false) :
    s.takeOutJobs gone = s := by
  have hqueue : ∀ l, (s.disp.queues.get l).filter (fun j => !gone j) = s.disp.queues.get l := fun l =>
    List.filter_eq_self.2 fun j hj => by simpa using h j (Dispatcher.mem_waiting.2 (.inl ⟨l, hj⟩))
  have hpending : ∀ x t, ((s.disp.pendings.get x).get t).filter (fun j => !gone j) = (s.disp.pendings.get x).get t :=
    fun x t => List.filter_eq_self.2 fun j hj => by simpa using h j (Dispatcher.mem_waiting.2 (.inr ⟨x, t, hj⟩))
  have hnone : ∀ l, ((s.disp.queues.get l).filter gone).length = 0 := fun l => by
    rw [List.length_eq_zero_iff, List.filter_eq_nil_iff]
    exact fun j hj => by simpa using h j (Dispatcher.mem_waiting.2 (.inl ⟨l, hj⟩))
  have hkept : (s.modDisp fun d => { d.filterPending (fun j => !gone j) with
      queues := ⟨d.queues.f0.filter (fun j => !gone j), d.queues.f1.filter (fun j => !gone j),
                 d.queues.f2.filter (fun j => !gone j), d.queues.f3.filter (fun j => !gone j)⟩ }) = s := by
    simp only [State.modDisp, Dispatcher.filterPending, Dispatcher.pending, hpending]
    rw [show s.disp.queues.f0.filter (fun j => !gone j) = _ from hqueue .l0,
      show s.disp.queues.f1.filter (fun j => !gone j) = _ from hqueue .l1,
      show s.disp.queues.f2.filter (fun j => !gone j) = _ from hqueue .l2,
      show s.disp.queues.f3.filter (fun j => !gone j) = _ from hqueue .l3]
    rfl
  simp only [State.takeOutJobs, hnone, State.movePendings, List.foldl_const, hkept]
  rfl

theorem State.abandonProof_of_clear {s : State} {x : Link} {l : Lane} (h : s.laneClear x l) :
    s.abandonProof x l = s := by
  unfold State.abandonProof
  split
  · next j r hlane => exact if_neg (h j r hlane)
  · rfl

theorem State.foldl_abandonProof_of_clear {s : State} {x : Link} (ls : List Lane) (h : ∀ l ∈ ls, s.laneClear x l) :
    ls.foldl (State.abandonProof x) s = s := by
  induction ls with
  | nil => rfl
  | cons m ls ih =>
    rw [List.foldl_cons, State.abandonProof_of_clear (h m List.mem_cons_self)]
    exact ih fun l hl => h l (List.mem_cons_of_mem m hl)

theorem State.takeOutJobs_requests {s : State} {x : Link} (h : s.noRequests x) :
    s.takeOutJobs (Job.requests x) = s :=
  State.takeOutJobs_of_none fun j hj => Job.requests_eq_false_iff.2 (h j hj)

theorem State.resetProofs_of_none {s : State} {x : Link} (hrequests : s.noRequests x) (hlanes : ∀ l, s.laneClear x l) :
    s.resetProofs x = s := by
  rw [State.resetProofs_eq, State.takeOutJobs_requests hrequests]
  exact State.foldl_abandonProof_of_clear _ fun l _ => hlanes l

theorem State.resetListings_of_none {s : State} {x : Link} (h : ∀ q ∈ s.dir.listings, q.link ≠ x) :
    s.resetListings x = s := by
  have hnone : (s.dir.listings.filter fun q => q.link == x) = [] :=
    List.filter_eq_nil_iff.2 fun q hq => by simpa using h q hq
  rw [State.resetListings, hnone]
  rfl

/-! ## One PROOF job found -/

/-- Where one lane alone decodes for the link, its job is abandoned, and no lane takes up another of the link. -/
theorem State.resetProofs_of_one {s : State} {x : Link} {l : Lane} {j : Job} {r : ProofRun} (hrequests : s.noRequests x)
    (hlane : s.lane l = .decoding j r) (hlink : j.link = x) (hothers : ∀ m, m ≠ l → s.laneClear x m) :
    s.resetProofs x = s.proofAbandon l j := by
  obtain ⟨before, after, hsplit⟩ := List.append_of_mem (show l ∈ allLanes by cases l <;> decide)
  have hnodup : (before ++ l :: after).Nodup := hsplit ▸ (by decide : allLanes.Nodup)
  have habandoned : s.abandonProof x l = s.proofAbandon l j := by
    simp only [State.abandonProof, hlane, if_pos hlink]
  have hdistinct := List.nodup_middle.1 hnodup
  have hnot : ∀ m ∈ before ++ after, m ≠ l := fun m hm hml => (List.nodup_cons.1 hdistinct).1 (hml ▸ hm)
  rw [State.resetProofs_eq, State.takeOutJobs_requests hrequests, hsplit, List.foldl_append, List.foldl_cons,
    State.foldl_abandonProof_of_clear before fun m hm => hothers m (hnot m (List.mem_append_left _ hm)), habandoned]
  exact State.foldl_abandonProof_of_clear after fun m hm =>
    (State.WorkDropped.proofAbandon s l j).laneClear hrequests (hothers m (hnot m (List.mem_append_right _ hm)))

/-- The TABLE work of a client withdrawn (R127). -/
def Arbiter.without (c : Client) (a : Arbiter) : Arbiter :=
  { a with
    tableQueue := a.tableQueue.filter fun op => op.client != c
    deferred := a.deferred.filter fun op => op.client != c
    tableEnds := a.tableEnds.filter fun e => e.op.client != c }

/-- A PROOF job abandoned on a lane that has no job waiting (R96). -/
theorem State.proofAbandon_eq {s : State} {l : Lane} {j : Job} {p : Page} (hp : s.page j.page = some p)
    (hqueue : s.disp.queues.get l = []) :
    s.proofAbandon l j = { s with
      ctl := { s.ctl with
        burst := s.ctl.burst.map (Burst.unserved fun b => b.client == some (.lane l) || b.req == .lane l) }
      arb := { s.arb.without (.lane l) with tableQueue := queueAfterWork p (s.arb.without (.lane l)).tableQueue }
      dir := { s.dir with
        pages := pagesWith j.page (fun q => { q with work := q.work - 1 }) s.dir.pages
        releases := releasesAfterWork p s.dir.releases }
      disp := { s.disp with lanes := s.disp.lanes.set l .idle } } := by
  let given : State := (s.withdraw (.lane l)).disown fun b => b.req == .lane l
  have hgiven : given = { s with
      ctl := { s.ctl with
        burst := s.ctl.burst.map (Burst.unserved fun b => b.client == some (.lane l) || b.req == .lane l) }
      arb := s.arb.without (.lane l) } := by
    have hburst := Burst.map_unserved_unserved (m := fun b => b.client == some (.lane l))
      (n := fun b => b.req == .lane l) (fun _ => rfl) s.ctl.burst
    rw [← hburst]
    rfl
  have hpage : given.page j.page = some p := hp
  change (given.endWork j.page).laneFree l = _
  rw [State.endWork_eq hpage, hgiven, State.laneFree, State.laneTake_of_empty]
  · rfl
  · exact hqueue

/-! ## One listing found -/

/-- A listing ended that is the only one (R45). -/
theorem State.endListing_eq {s : State} {q : Listing} {p : Page} (hlistings : s.dir.listings = [q])
    (hp : s.page q.page = some p) :
    s.endListing q = { s with
      ctl := { s.ctl with
        burst := s.ctl.burst.map (Burst.unserved fun b => b.client == some (.listing q.link q.ticket)) }
      arb := { s.arb.without (.listing q.link q.ticket) with
        tableQueue := queueAfterWork p (s.arb.without (.listing q.link q.ticket)).tableQueue }
      dir := { s.dir with
        pages := pagesWith q.page (fun r => { r with work := r.work - 1 }) s.dir.pages
        releases := releasesAfterWork p s.dir.releases
        listings := [] } } := by
  have hnone : (s.dir.listings.filter fun r => r.ticket != q.ticket) = [] := by simp [hlistings]
  let left : State := (s.withdraw (.listing q.link q.ticket)).modDir fun d =>
    { d with listings := d.listings.filter fun r => r.ticket != q.ticket }
  have hpage : left.page q.page = some p := hp
  change left.endWork q.page = _
  rw [State.endWork_eq hpage, ← hnone]
  rfl

theorem State.resetListings_of_one {s : State} {x : Link} {q : Listing} (h : s.dir.listings = [q]) (hq : q.link = x) :
    s.resetListings x = s.endListing q := by
  simp [State.resetListings, h, hq]

end Sys2Proof.Machine
end

section
/-!
PROOFS. Link reset as its obligation states it (R182).
-/

set_option Elab.async false
namespace Sys2Proof.Machine

/-! ## What a link reset keeps -/

/-- The bursts that serve no one after a link reset that ends, besides the link's own, the work of this client. -/
def Burst.endsWith (x : Link) (client : Option Client) (b : Burst) : Prop :=
  b.req = .stream x ∨ b.req = .intake x ∨ (client ≠ none ∧ b.client = client) ∨
    ∃ l, client = some (.lane l) ∧ b.req = .lane l

/-- What changes and what stands where a link reset ends, besides the link's own, at most the work of one client. -/
def State.LinkLost (x : Link) (s : State) (client : Option Client) (t : State) : Prop :=
  (∀ b, s.ctl.burst = some b →
    (b.endsWith x client → t.ctl.burst = some { b with live := false }) ∧
      (¬ b.endsWith x client → t.ctl.burst = some b)) ∧
  (s.ctl.burst = none → t.ctl.burst = none) ∧
  t.ctl = { s.ctl with
    burst := t.ctl.burst, wakeFrameHeld := s.ctl.wakeFrameHeld && s.ctl.wakeCause != some (.frame x) } ∧
  t.arb = { s.arb with
    tableQueue := t.arb.tableQueue, deferred := t.arb.deferred
    tableEnds := s.arb.tableEnds.filter fun e => !(e.op.client.isCopy x || some e.op.client == client) } ∧
  ((s.link x).JustReset → t.link x = { s.link x with resetting := true }) ∧
  (¬ (s.link x).JustReset → t.link x =
    { LinkCtl.initial with recordReads := (s.link x).recordReads, resetting := true }) ∧
  t.link (otherLink x) = s.link (otherLink x) ∧
  t.intakes = s.intakes.set x { s.intake x with frame := none, waiting := [], hold := false } ∧
  t.adm = s.adm ∧ t.map = s.map ∧ t.press = s.press ∧ t.dir.profiles = s.dir.profiles ∧ t.still = s.still

/-- A state that differs from the one in which the link stands reset by the work of a client at most: the burst, the
TABLE work, the pages' records and the lanes. -/
structure State.ClientLost (x : Link) (s : State) (client : Option Client) (t : State) : Prop where
  others : t = { s.linkFreed (s.link x).asReset x with
    ctl := { (s.linkFreed (s.link x).asReset x).ctl with burst := t.ctl.burst }
    arb := { s.arb with tableQueue := t.arb.tableQueue, deferred := t.arb.deferred, tableEnds := t.arb.tableEnds }
    dir := t.dir, disp := t.disp }
  profiles : t.dir.profiles = s.dir.profiles
  burst : ∃ mine : Burst → Bool, (∀ b, mine b = true ↔ b.endsWith x client) ∧
    t.ctl.burst = s.ctl.burst.map (Burst.unserved mine)
  ends : t.arb.tableEnds = s.arb.tableEnds.filter fun e => !(e.op.client.isCopy x || some e.op.client == client)

theorem State.ClientLost.linkLost {x : Link} {s t : State} {client : Option Client} (h : State.ClientLost x s client t)
    (hreset : (s.link x).resetting = false) : State.LinkLost x s client t := by
  obtain ⟨mine, hmine, hburst⟩ := h.burst
  have hlink : ∀ y, t.link y = (s.linkFreed (s.link x).asReset x).link y := fun y =>
    congrArg (Pair.get · y) (congrArg State.links h.others :)
  refine ⟨fun b hb => ⟨fun hends => ?_, fun hends => ?_⟩, fun hb => ?_, ?_, ?_, fun hagain => ?_, fun hagain => ?_, ?_,
    (congrArg State.intakes h.others :), (congrArg State.adm h.others :), (congrArg State.map h.others :),
    (congrArg State.press h.others :), h.profiles, (congrArg State.still h.others :)⟩
  · rw [hburst, hb, Option.map_some, Burst.unserved, if_pos ((hmine b).2 hends)]
  · rw [hburst, hb, Option.map_some, Burst.unserved, if_neg (mt (hmine b).1 hends)]
  · rw [hburst, hb]
    rfl
  · exact (congrArg State.ctl h.others :)
  · rw [← h.ends]
    exact (congrArg State.arb h.others :)
  · rw [hlink, State.link_linkFreed, if_pos rfl, (LinkCtl.asReset_iff hreset).2 hagain]
    rfl
  · rw [hlink, State.link_linkFreed, if_pos rfl, Bool.eq_false_iff.2 (mt (LinkCtl.asReset_iff hreset).1 hagain)]
    rfl
  · rw [hlink, State.link_linkFreed, if_neg (by cases x <;> nofun)]

/-- Nothing of the link's work was found. -/
theorem State.clientLost_none (x : Link) (s : State) :
    State.ClientLost x s none (s.linkFreed (s.link x).asReset x) := by
  refine ⟨rfl, rfl, ⟨Burst.ofLink x, fun b => ?_, rfl⟩, ?_⟩
  · simp [Burst.ofLink, Burst.endsWith]
  · simp only [State.linkFreed]
    exact List.filter_congr fun e _ => by simp

/-- The ended operations without those of the link's copy streams and without those of a client. -/
theorem State.ends_without (x : Link) (c : Client) (s : State) (again : Bool) :
    ((s.linkFreed again x).arb.without c).tableEnds =
      s.arb.tableEnds.filter fun e => !(e.op.client.isCopy x || some e.op.client == some c) := by
  simp only [Arbiter.without, State.linkFreed, List.filter_filter]
  refine List.filter_congr fun e _ => ?_
  simp [bne, Bool.and_comm]

/-- The one PROOF job of the link has been abandoned. -/
theorem State.clientLost_lane {x : Link} {s : State} {l : Lane} {j : Job} {p : Page}
    (hp : (s.linkFreed (s.link x).asReset x).page j.page = some p) (hqueue : s.disp.queues.get l = []) :
    State.ClientLost x s (some (.lane l)) ((s.linkFreed (s.link x).asReset x).proofAbandon l j) := by
  rw [State.proofAbandon_eq hp hqueue]
  refine ⟨rfl, rfl, ⟨_, fun b => ?_, Burst.map_unserved_unserved (fun _ => rfl) _⟩, s.ends_without x _ _⟩
  simp [Burst.ofLink, Burst.endsWith, or_assoc]

/-- The one listing has ended, which was the link's. -/
theorem State.clientLost_listing {x : Link} {s : State} {q : Listing} {p : Page}
    (hp : (s.linkFreed (s.link x).asReset x).page q.page = some p) (hlistings : s.dir.listings = [q]) :
    State.ClientLost x s (some (.listing q.link q.ticket)) ((s.linkFreed (s.link x).asReset x).endListing q) := by
  rw [State.endListing_eq (s := s.linkFreed (s.link x).asReset x) hlistings hp]
  refine ⟨rfl, rfl, ⟨_, fun b => ?_, Burst.map_unserved_unserved (fun _ => rfl) _⟩, s.ends_without x _ _⟩
  simp [Burst.ofLink, Burst.endsWith, or_assoc]

/-! ## The command -/

theorem exec_linkReset {s : State} {x : Link} (h : (s.link x).resetting = false) :
    exec (.linkReset x) s = .next (s.resetLink x).arbitrate := by
  have hexec : exec (.linkReset x) s = execLinkReset x s := rfl
  simp [hexec, execLinkReset, h]

/-- Settles O17: from the state in which the link stands reset, what its intake page, its PROOF jobs and its listings
bring about. -/
theorem linkResetEmptiesItsLink : Obligations.LinkResetEmptiesItsLink := by
  intro x s freed again copies aborted pages ends wakeHeld lost
  have hcopies : copies = Client.isCopy x := by
    funext c
    cases c <;> rfl
  have hlost : ∀ {client t}, State.LinkLost x s client t → lost client t := by
    simp only [lost, hcopies]
    exact fun h => h
  refine ⟨fun hreset => ?_, fun hreset => ?_, fun hreset hpage hrequests hlanes hlistings => ?_,
    fun l j r p hreset hpage hrequests hlane hlink hothers hqueue hlistings hp => ?_,
    fun q p hreset hpage hrequests hlanes hlistings hlink hp => ?_, rfl⟩
  · have hexec : exec (.linkReset x) s = execLinkReset x s := rfl
    rw [hexec, execLinkReset, if_pos hreset]
  · obtain ⟨stood, v, h⟩ := s.resetLink_dropped x
    have htuned := h.tuned_end
    have hintake : (s.resetLink x).arbitrate.intake x = (s.resetLink x).intake x :=
      congrArg (Pair.get · x) (State.arbitrate_intakes _)
    obtain ⟨hrx, hlong, hstreams, hflags, hresetting⟩ := h.emptied
    obtain ⟨hotherRx, hotherFlags⟩ := h.other
    obtain ⟨hframe, hwaiting⟩ := h.intake
    obtain ⟨hrequests, hlanes, hlistings⟩ := h.work
    refine ⟨_, exec_linkReset hreset, ?_⟩
    simp only [State.arbitrate_link, State.arbitrate_page, State.arbitrate_adm, State.arbitrate_disp,
      State.arbitrate_runLimit, State.arbitrate_press, State.arbitrate_dir, State.lane, hintake]
    exact ⟨hrx, hlong, hstreams, hflags, hresetting, hotherRx, hotherFlags,
      (State.still_arbitrate _).trans (s.still_resetLink x),
      (congrArg (fun u => u.1.1) htuned :), (congrArg (fun u => u.1.2.1) htuned :),
      (congrArg (fun u => u.1.2.2.1) htuned :), (congrArg (fun u => u.1.2.2.2.1) htuned :),
      (congrArg (fun u => u.1.2.2.2.2) htuned :), (congrArg (fun u => u.2.1.1) htuned :),
      (congrArg (fun u => u.2.1.2) htuned :), (congrArg (fun u => u.2.2.1) htuned :),
      (congrArg (fun u => u.2.2.2.1) htuned :), h.profiles, hframe, hwaiting, hrequests, hlanes, hlistings,
      fun id p hid hp hstate => State.resetLink_failed hid hp (p.canFail_iff.2 hstate),
      _, rfl, h.ctl, fun b hb hreq => h.burst hb hreq, fun id p hp => h.page hp⟩
  · refine ⟨s.linkFreed (s.link x).asReset x, ?_, hlost ((s.clientLost_none x).linkLost hreset), rfl, rfl, rfl, rfl⟩
    rw [exec_linkReset hreset, State.resetLink_of_no_page hpage,
      State.resetProofs_of_none (s := s.linkFreed (s.link x).asReset x) hrequests hlanes,
      State.resetListings_of_none (s := s.linkFreed (s.link x).asReset x) hlistings]
  · have hfreed := State.page_linkFreed (s.link x).asReset x hp
    have hid := State.id_of_page hp
    refine ⟨(s.linkFreed (s.link x).asReset x).proofAbandon l j, ?_,
      hlost ((State.clientLost_lane hfreed hqueue).linkLost hreset), ?_⟩
    · have hrest : ∀ q ∈ ((s.linkFreed (s.link x).asReset x).proofAbandon l j).dir.listings, q.link ≠ x := by
        rw [State.proofAbandon_eq hfreed hqueue]
        exact hlistings
      rw [exec_linkReset hreset, State.resetLink_of_no_page hpage,
        State.resetProofs_of_one (s := s.linkFreed (s.link x).asReset x) hrequests hlane hlink
          fun m hm k q hk => hothers m k q hm hk, State.resetListings_of_none hrest]
    · rw [State.proofAbandon_eq hfreed hqueue]
      exact ⟨rfl, by rw [hid]; rfl, rfl, rfl⟩
  · have hfreed := State.page_linkFreed (s.link x).asReset x hp
    have hid := State.id_of_page hp
    have hended := State.endListing_eq (s := s.linkFreed (s.link x).asReset x) hlistings hfreed
    refine ⟨(s.linkFreed (s.link x).asReset x).endListing q, ?_,
      hlost (hlink ▸ (State.clientLost_listing hfreed hlistings).linkLost hreset), ?_⟩
    · rw [exec_linkReset hreset, State.resetLink_of_no_page hpage,
        State.resetProofs_of_none (s := s.linkFreed (s.link x).asReset x) hrequests hlanes,
        State.resetListings_of_one (s := s.linkFreed (s.link x).asReset x) hlistings hlink]
    · rw [hended, hlink]
      exact ⟨rfl, rfl, by rw [hid]; rfl, rfl, rfl⟩

end Sys2Proof.Machine
end

section
/-!
PROOFS. The queue of commands, which is the model's own (log 4).
-/

set_option Elab.async false
namespace Sys2Proof.Machine

/-- A step on a queue with a command at its front (log 4). -/
theorem step_of_pending_cons {c : Instr} {rest : List Instr} {s : State} (h : s.pending = c :: rest) :
    step s = exec c (s.withPending rest) := by
  simp only [step, h]

/-- A step on an empty queue: the part idles (log 4). -/
theorem step_of_pending_nil {s : State} (h : s.pending = []) : step s = .next s := by
  simp only [step, h]

/-- Settles O8: a step by the two forms of the queue. -/
theorem stepRunsTheFrontCommand : Obligations.StepRunsTheFrontCommand := by
  refine ⟨fun c rest s hcons => ?front, fun s hnil => ?idle⟩
  case front => exact step_of_pending_cons hcons
  case idle => exact step_of_pending_nil hnil

end Sys2Proof.Machine
end
